-- ==== Sys2Proof/Word.lean ====
section
/-! DEFINITION. The plain words of the model: bytes, the finite names the manual numbers (points, meters, grades,
comparators, loads) and the small tables kept one entry for each such name. -/

namespace Sys2Proof

/-- One byte of a message, a packet or a retained copy. -/
abbrev Byte := BitVec 8

/-- A fuelling point, A or B; also the display side of that point ("Conventions", Names, of 00_scope.md). -/
inductive Point where
  | a | b
  deriving DecidableEq, Repr

/-- Display side A belongs to point A and side B to point B. -/
abbrev Side := Point

/-- The other point. -/
def Point.other : Point → Point
  | .a => .b
  | .b => .a

/-- Meters M1 to M4. -/
inductive Meter where
  | m1 | m2 | m3 | m4
  deriving DecidableEq, Repr

/-- Hose positions 1 to 4 of a point; also the price windows 1 to 4 of a side (R106). -/
inductive Position where
  | p1 | p2 | p3 | p4
  deriving DecidableEq, Repr

/-- Grades 1 to 8. -/
inductive Grade where
  | g1 | g2 | g3 | g4 | g5 | g6 | g7 | g8
  deriving DecidableEq, Repr

/-- Sense comparators SC1 to SC8, and the condition each one gives (R155). -/
inductive Comparator where
  | mains | standby | valveSupply | pulserSupply | readerSupply | displaySupply | warmA | warmB
  deriving DecidableEq, Repr

/-- The nine switched loads, in the order of the load table (R158). -/
inductive Load where
  | pulserSupply | valveSupply | displayA | displayB | heaterA | heaterB | reader | aux1 | aux2
  deriving DecidableEq, Repr

/-- The two valves of a meter (1.7 of 01_meter_inputs_and_counting.md). -/
inductive Valve where
  | main | slow
  deriving DecidableEq, Repr

/-- The three retained regions (R96). -/
inductive RegionName where
  | config | totals | deliveries
  deriving DecidableEq, Repr

/-- The number the manual gives a point, from 1. -/
def Point.number : Point → Nat
  | .a => 1
  | .b => 2

/-- The point of a number, if there is one. -/
def Point.ofNumber : Nat → Option Point
  | 1 => some .a
  | 2 => some .b
  | _ => none

/-- Every point, in order. -/
def Point.all : List Point := [.a, .b]

/-- The number the manual gives a meter, from 1. -/
def Meter.number : Meter → Nat
  | .m1 => 1
  | .m2 => 2
  | .m3 => 3
  | .m4 => 4

/-- The meter of a number, if there is one. -/
def Meter.ofNumber : Nat → Option Meter
  | 1 => some .m1
  | 2 => some .m2
  | 3 => some .m3
  | 4 => some .m4
  | _ => none

/-- Every meter, in order. -/
def Meter.all : List Meter := [.m1, .m2, .m3, .m4]

/-- The number the manual gives a position, from 1. -/
def Position.number : Position → Nat
  | .p1 => 1
  | .p2 => 2
  | .p3 => 3
  | .p4 => 4

/-- The position of a number, if there is one. -/
def Position.ofNumber : Nat → Option Position
  | 1 => some .p1
  | 2 => some .p2
  | 3 => some .p3
  | 4 => some .p4
  | _ => none

/-- Every position, in order. -/
def Position.all : List Position := [.p1, .p2, .p3, .p4]

/-- The number the manual gives a grade, from 1. -/
def Grade.number : Grade → Nat
  | .g1 => 1
  | .g2 => 2
  | .g3 => 3
  | .g4 => 4
  | .g5 => 5
  | .g6 => 6
  | .g7 => 7
  | .g8 => 8

/-- The grade of a number, if there is one. -/
def Grade.ofNumber : Nat → Option Grade
  | 1 => some .g1
  | 2 => some .g2
  | 3 => some .g3
  | 4 => some .g4
  | 5 => some .g5
  | 6 => some .g6
  | 7 => some .g7
  | 8 => some .g8
  | _ => none

/-- Every grade, in order. -/
def Grade.all : List Grade := [.g1, .g2, .g3, .g4, .g5, .g6, .g7, .g8]

/-- The number the manual gives a comparator, from 1. -/
def Comparator.number : Comparator → Nat
  | .mains => 1
  | .standby => 2
  | .valveSupply => 3
  | .pulserSupply => 4
  | .readerSupply => 5
  | .displaySupply => 6
  | .warmA => 7
  | .warmB => 8

/-- The comparator of a number, if there is one. -/
def Comparator.ofNumber : Nat → Option Comparator
  | 1 => some .mains
  | 2 => some .standby
  | 3 => some .valveSupply
  | 4 => some .pulserSupply
  | 5 => some .readerSupply
  | 6 => some .displaySupply
  | 7 => some .warmA
  | 8 => some .warmB
  | _ => none

/-- Every comparator, in order. -/
def Comparator.all : List Comparator := [.mains, .standby, .valveSupply, .pulserSupply, .readerSupply, .displaySupply, .warmA, .warmB]

/-- The number the manual gives a load, from 1. -/
def Load.number : Load → Nat
  | .pulserSupply => 1
  | .valveSupply => 2
  | .displayA => 3
  | .displayB => 4
  | .heaterA => 5
  | .heaterB => 6
  | .reader => 7
  | .aux1 => 8
  | .aux2 => 9

/-- The load of a number, if there is one. -/
def Load.ofNumber : Nat → Option Load
  | 1 => some .pulserSupply
  | 2 => some .valveSupply
  | 3 => some .displayA
  | 4 => some .displayB
  | 5 => some .heaterA
  | 6 => some .heaterB
  | 7 => some .reader
  | 8 => some .aux1
  | 9 => some .aux2
  | _ => none

/-- Every load, in order. -/
def Load.all : List Load := [.pulserSupply, .valveSupply, .displayA, .displayB, .heaterA, .heaterB, .reader, .aux1, .aux2]

/-- One entry for each point or side. -/
structure Pair (α : Type) where
  a : α
  b : α
  deriving DecidableEq, Repr

/-- One entry for each meter, or for each hose position. -/
structure Quad (α : Type) where
  e1 : α
  e2 : α
  e3 : α
  e4 : α
  deriving DecidableEq, Repr

/-- One entry for each grade, or for each comparator. -/
structure Oct (α : Type) where
  e1 : α
  e2 : α
  e3 : α
  e4 : α
  e5 : α
  e6 : α
  e7 : α
  e8 : α
  deriving DecidableEq, Repr

variable {α β : Type}

/-- The table with the same entry everywhere. -/
def Pair.fill (x : α) : Pair α := ⟨x, x⟩

/-- The table with the same entry everywhere. -/
def Quad.fill (x : α) : Quad α := ⟨x, x, x, x⟩

/-- The table with the same entry everywhere. -/
def Oct.fill (x : α) : Oct α := ⟨x, x, x, x, x, x, x, x⟩

/-- The entry of a point. -/
def Pair.get (t : Pair α) : Point → α
  | .a => t.a
  | .b => t.b

/-- The table with the entry of one point replaced. -/
def Pair.set (t : Pair α) (i : Point) (x : α) : Pair α :=
  match i with
  | .a => { t with a := x }
  | .b => { t with b := x }

/-- The entry of a meter. -/
def Quad.get (t : Quad α) : Meter → α
  | .m1 => t.e1
  | .m2 => t.e2
  | .m3 => t.e3
  | .m4 => t.e4

/-- The table with the entry of one meter replaced. -/
def Quad.set (t : Quad α) (i : Meter) (x : α) : Quad α :=
  match i with
  | .m1 => { t with e1 := x }
  | .m2 => { t with e2 := x }
  | .m3 => { t with e3 := x }
  | .m4 => { t with e4 := x }

/-- The entry of a position. -/
def Quad.at (t : Quad α) : Position → α
  | .p1 => t.e1
  | .p2 => t.e2
  | .p3 => t.e3
  | .p4 => t.e4

/-- The table with the entry of one position replaced. -/
def Quad.setAt (t : Quad α) (i : Position) (x : α) : Quad α :=
  match i with
  | .p1 => { t with e1 := x }
  | .p2 => { t with e2 := x }
  | .p3 => { t with e3 := x }
  | .p4 => { t with e4 := x }

/-- The entry of a grade. -/
def Oct.get (t : Oct α) : Grade → α
  | .g1 => t.e1
  | .g2 => t.e2
  | .g3 => t.e3
  | .g4 => t.e4
  | .g5 => t.e5
  | .g6 => t.e6
  | .g7 => t.e7
  | .g8 => t.e8

/-- The table with the entry of one grade replaced. -/
def Oct.set (t : Oct α) (i : Grade) (x : α) : Oct α :=
  match i with
  | .g1 => { t with e1 := x }
  | .g2 => { t with e2 := x }
  | .g3 => { t with e3 := x }
  | .g4 => { t with e4 := x }
  | .g5 => { t with e5 := x }
  | .g6 => { t with e6 := x }
  | .g7 => { t with e7 := x }
  | .g8 => { t with e8 := x }

/-- The entry of a comparator. -/
def Oct.sc (t : Oct α) : Comparator → α
  | .mains => t.e1
  | .standby => t.e2
  | .valveSupply => t.e3
  | .pulserSupply => t.e4
  | .readerSupply => t.e5
  | .displaySupply => t.e6
  | .warmA => t.e7
  | .warmB => t.e8

/-- The table with the entry of one comparator replaced. -/
def Oct.setSc (t : Oct α) (i : Comparator) (x : α) : Oct α :=
  match i with
  | .mains => { t with e1 := x }
  | .standby => { t with e2 := x }
  | .valveSupply => { t with e3 := x }
  | .pulserSupply => { t with e4 := x }
  | .readerSupply => { t with e5 := x }
  | .displaySupply => { t with e6 := x }
  | .warmA => { t with e7 := x }
  | .warmB => { t with e8 := x }

/-- The table with a function applied to every entry. -/
def Pair.map (f : α → β) (t : Pair α) : Pair β := ⟨f t.a, f t.b⟩

/-- The entries, in order. -/
def Pair.toList (t : Pair α) : List α := [t.a, t.b]

/-- The table with a function applied to every entry. -/
def Quad.map (f : α → β) (t : Quad α) : Quad β := ⟨f t.e1, f t.e2, f t.e3, f t.e4⟩

/-- The entries, in order. -/
def Quad.toList (t : Quad α) : List α := [t.e1, t.e2, t.e3, t.e4]

/-- The table with a function applied to every entry. -/
def Oct.map (f : α → β) (t : Oct α) : Oct β := ⟨f t.e1, f t.e2, f t.e3, f t.e4, f t.e5, f t.e6, f t.e7, f t.e8⟩

/-- The entries, in order. -/
def Oct.toList (t : Oct α) : List α := [t.e1, t.e2, t.e3, t.e4, t.e5, t.e6, t.e7, t.e8]

/-- `n` added to `x`, stopping at `top` (a field stated as saturating, "Numbers and ranges" of 00_scope.md). -/
def satAdd (top x n : Nat) : Nat := min top (x + n)

/-- Division rounding towards plus infinity, `ceil(n / d)` of chapter 2. -/
def ceilDiv (n d : Nat) : Nat := (n + d - 1) / d

end Sys2Proof
end

