-- ==== Sys2Proof/Syntax.lean ====
section
/-! DEFINITION. The commands of the part: one constructor of `Instr` for each row of spec/opcode_table.json.

The first 44 rows are requests of the host. Their fields are the numbers that chapter 11 carries, not yet judged: a
field keeps the value its bytes spell, so that a value outside its range can be sent and be refused (R197, R198). The
other rows are events of the field wiring, of the links and of the part's own timers. -/

namespace Sys2Proof

/-- The meter record as LOAD_METER carries it (11.3 of 11_message_layouts.md). -/
structure MeterFields where
  present : Nat
  q : Nat
  reverseLimit : Nat
  creepThreshold : Nat
  phaseThreshold : Nat
  runUp : Nat
  runOn : Nat
  deriving DecidableEq, Repr

/-- One grade entry as STAGE_PRICES carries it. -/
structure GradeFields where
  grade : Nat
  price1 : Nat
  price2 : Nat
  slowDown : Nat
  vapour : Nat
  deriving DecidableEq, Repr

/-- One hose entry as LOAD_HOSES carries it. -/
structure HoseFields where
  grade : Nat
  meter : Nat
  enabled : Nat
  deriving DecidableEq, Repr

/-- The eight hose entries of LOAD_HOSES, A1 to A4 and then B1 to B4. -/
abbrev HoseTableFields := Pair (Quad HoseFields)

/-- The point timing record as LOAD_POINT_TIMING carries it; the divider 0 stands for 65,536. -/
structure TimingFields where
  quiet : Nat
  noFlow : Nat
  authTimeout : Nat
  divider : Nat
  deriving DecidableEq, Repr

/-- Bytes 1 to 18 of AUTHORIZE. -/
structure AuthFields where
  presence : Nat
  mask : Nat
  level : Nat
  presetKind : Nat
  presetValue : Nat
  amountLimit : Nat
  volumeLimit : Nat
  session : Nat
  deriving DecidableEq, Repr

/-- The display settings as LOAD_DISPLAY carries them. -/
structure DisplayFields where
  amountDecimals : Nat
  volumeDecimals : Nat
  priceDecimals : Nat
  holdTime : Nat
  deriving DecidableEq, Repr

/-- The gate settings as LOAD_GATE carries them. -/
structure GateFields where
  holdThreshold : Nat
  errorThreshold : Nat
  bootTime : Nat
  echo : Nat
  deriving DecidableEq, Repr

/-- The comparator settings as LOAD_SENSE carries them. -/
structure SenseFields where
  kf : Nat
  kr : Nat
  failMs : Nat
  recoverMs : Nat
  deriving DecidableEq, Repr

/-- One step record as LOAD_SEQUENCE carries it. -/
structure StepFields where
  load : Nat
  action : Nat
  settle : Nat
  checkKind : Nat
  comparator : Nat
  timeout : Nat
  failure : Nat
  retries : Nat
  deriving DecidableEq, Repr

/-- The schedule as SET_SCHEDULE carries it. -/
structure ScheduleFields where
  presence : Nat
  night : Nat
  wake : Nat
  nozzle : Nat
  card : Nat
  deriving DecidableEq, Repr

/-- The cause of a power-on start: a rise of the standby supply or a release of the RESET input (R192). -/
inductive PowerOn where
  | standby | resetInput
  deriving DecidableEq, Repr

/-- What an abandoned write left in the copy being written (R98): the copy as it stood before, the copy completed in
every part, or an unsound copy that carries some write count and some check value. -/
inductive WriteFate where
  | untouched
  | completed
  | torn (count check : BitVec 32)
  deriving DecidableEq, Repr

/-- What became of the writes in flight of the three regions at a fall of the supply. -/
structure WriteFates where
  config : WriteFate
  totals : WriteFate
  deliveries : WriteFate
  deriving DecidableEq, Repr

/-- The copies that are found unsound at a start for another reason than an abandoned write, a failed battery for one
(R98, R102). -/
structure Spoiled where
  config1 : Bool
  config2 : Bool
  totals1 : Bool
  totals2 : Bool
  deliveries1 : Bool
  deliveries2 : Bool
  deriving DecidableEq, Repr

/-- One command. Each constructor is one row of spec/opcode_table.json. -/
inductive Instr where
  /-- LOAD_METER (R14). `cal` is the level of the calibration switch input as the request is taken. -/
  | loadMeter (cal : Bool) (meter : Nat) (fields : MeterFields)
  /-- METER_RESET (R15); 0 is ALL. -/
  | meterReset (meter : Nat)
  /-- READ_METER (R16). -/
  | readMeter (meter : Nat)
  /-- SET_ROUNDING (R21). `cal` is the level of the calibration switch input as the request is taken. -/
  | setRounding (cal : Bool) (mode : Nat)
  /-- STAGE_PRICES (R35). -/
  | stagePrices (base : Nat) (entries : List GradeFields)
  /-- APPLY_PRICES (R36). -/
  | applyPrices
  /-- READ_PRICES (R43). -/
  | readPrices (selector number : Nat)
  /-- LOAD_HOSES (R47). -/
  | loadHoses (entries : HoseTableFields)
  /-- READ_HOSES (R47). -/
  | readHoses
  /-- LOAD_POINT_TIMING (R48). -/
  | loadPointTiming (point : Nat) (fields : TimingFields)
  /-- READ_POINT_TIMING (R48). -/
  | readPointTiming (point : Nat)
  /-- AUTHORIZE (R50). -/
  | authorize (point : Nat) (fields : AuthFields)
  /-- CANCEL (R73). -/
  | cancel (point : Nat)
  /-- CLEAR (R72). -/
  | clear (point presence sequence : Nat)
  /-- STOP_ALL (R78). -/
  | stopAll
  /-- READ_DELIVERY (R82). -/
  | readDelivery (point record : Nat)
  /-- READ_PULSE_OUTPUT (R91). -/
  | readPulseOutput (point : Nat)
  /-- READ_TOTALS (R95). -/
  | readTotals
  /-- LOAD_DISPLAY (R107). -/
  | loadDisplay (fields : DisplayFields)
  /-- DISPLAY_TEST (R119). -/
  | displayTest (side : Nat)
  /-- READ_DISPLAY (R126). -/
  | readDisplay (side : Nat)
  /-- READER_ON (R131). -/
  | readerOn
  /-- READER_OFF (R148). -/
  | readerOff
  /-- READER_RELEASE (R147). -/
  | readerRelease
  /-- READER_POST (R139). -/
  | readerPost (tag : Nat) (payload : List Byte)
  /-- READER_FETCH (R138). -/
  | readerFetch
  /-- LOAD_GATE (R151). -/
  | loadGate (fields : GateFields)
  /-- READ_GATE (R152). -/
  | readGate
  /-- LOAD_SENSE (R156). -/
  | loadSense (comparator : Nat) (fields : SenseFields)
  /-- LOAD_SEQUENCE (R159). -/
  | loadSequence (steps : List StepFields)
  /-- READ_SEQUENCE (R159). -/
  | readSequence
  /-- WAKE (R164). -/
  | wake
  /-- SLEEP (R168). -/
  | sleep
  /-- SET_START_SPACING (R176). -/
  | setStartSpacing (spacing : Nat)
  /-- SET_CLOCK (R178). -/
  | setClock (day second : Nat)
  /-- SET_SCHEDULE (R179). -/
  | setSchedule (fields : ScheduleFields)
  /-- READ_POWER (R180). -/
  | readPower
  /-- FETCH_REPORTS (R187). -/
  | fetchReports (maximum again : Nat)
  /-- SET_REPORT_MODES (R190); the 24 modes in the order of the table of R189. -/
  | setReportModes (policy : Nat) (modes : List Nat)
  /-- SET_HOST_SILENCE (R191). -/
  | setHostSilence (seconds : Nat)
  /-- IDENTIFY (R192). -/
  | identify
  /-- READ_STATUS (R193). -/
  | readStatus
  /-- RESTART (R194). -/
  | restart
  /-- REQUEST_REFUSED (R184): a request whose kind or length the HLP refuses. -/
  | requestRefused (kind : Byte) (payload : List Byte)
  /-- HOST_FRAME_RECEIVED (R182): bytes arrive on the host line, and the last of them completes a good frame. -/
  | hostFrameReceived (bytes : List Byte)
  /-- FRAME_DISCARDED (R182): bytes arrive on the host line, and a frame among them is discarded for its length or its
  CRC, or, with `faultyStop`, for a byte with a faulty stop bit that follows them. -/
  | frameDiscarded (bytes : List Byte) (faultyStop : Bool)
  /-- FRAME_GAP_TIMEOUT (R182). -/
  | frameGapTimeout
  /-- REPLY_SENT (R183). -/
  | replySent
  /-- HOST_SILENCE_EXPIRY (R191). -/
  | hostSilenceExpiry
  /-- POWER_ON_START (R100). -/
  | powerOnStart (cause : PowerOn) (spoiled : Spoiled)
  /-- SUPPLY_FALL_OR_RESET (R98). -/
  | supplyFallOrReset (fates : WriteFates)
  /-- RETAINED_WRITE_END (R97). -/
  | retainedWriteEnd (region : RegionName)
  /-- PULSER_SAMPLE (R1): a sample of the two phase levels of a meter. -/
  | pulserSample (meter : Meter) (phase1 phase2 : Bool)
  /-- PHASE_WINDOW_END (R3). -/
  | phaseWindowEnd (meter : Meter)
  /-- VALVE_SENSE_CHANGE (R12): the drive sense of a valve becomes open (`true`) or closed. -/
  | valveSenseChange (meter : Meter) (valve : Valve) (isOpen : Bool)
  /-- VALVE_MISMATCH_TIMEOUT (R12). -/
  | valveMismatchTimeout (meter : Meter)
  /-- NOZZLE_LIFT (R53); `together` is the position lifted at the other point in the same event, if any (R60). -/
  | nozzleLift (point : Point) (position : Position) (together : Option Position)
  /-- NOZZLE_HANG (R56). -/
  | nozzleHang (point : Point) (position : Position)
  /-- START_SPACING_ELAPSED (R176). -/
  | startSpacingElapsed
  /-- RUN_UP_ELAPSED (R63). -/
  | runUpElapsed (meter : Meter)
  /-- NO_FLOW_EXPIRY (R67). -/
  | noFlowExpiry (point : Point)
  /-- QUIET_EXPIRY (R69). -/
  | quietExpiry (point : Point)
  /-- RUN_ON_EXPIRY (R62). -/
  | runOnExpiry (meter : Meter)
  /-- AUTHORIZATION_TIMEOUT (R74). -/
  | authorizationTimeout (point : Point)
  /-- EMERGENCY_STOP_ASSERT (R77). -/
  | emergencyStopAssert
  /-- EMERGENCY_STOP_RELEASE (R77). -/
  | emergencyStopRelease
  /-- PULSE_HIGH_END (R89). -/
  | pulseHighEnd (point : Point)
  /-- PULSE_LOW_END (R89). -/
  | pulseLowEnd (point : Point)
  /-- REFRESH_INSTANT (R109); `sense` is the segments the chain returns for the 28 positions, `none` when it returns
  no sense at all. A side that is not refreshing returns nothing and the operand is not read. -/
  | refreshInstant (side : Side) (sense : Option (List Byte))
  /-- DISPLAY_HOLD_EXPIRY (R123). -/
  | displayHoldExpiry (side : Side)
  /-- POLL_INSTANT (R128). -/
  | pollInstant
  /-- READER_REPLY_RECEIVED (R129): the bytes of the reply, kind to CRC. -/
  | readerReplyReceived (bytes : List Byte)
  /-- READER_REPLY_MISS (R128). -/
  | readerReplyMiss
  /-- READER_REPLY_GAP (R128). -/
  | readerReplyGap
  /-- ERROR_WINDOW_END (R144). -/
  | errorWindowEnd
  /-- ATTEMPT_TIMEOUT (R132). -/
  | attemptTimeout
  /-- OFF_INTERVAL_END (R132). -/
  | offIntervalEnd
  /-- BOOT_TIME_ELAPSED (R132). -/
  | bootTimeElapsed
  /-- TAMPER_ASSERT (R145). -/
  | tamperAssert
  /-- TAMPER_RELEASE (R145). -/
  | tamperRelease
  /-- SENSE_INPUT_CHANGE (R154): the voltage at a comparator's input, in whole millivolts. -/
  | senseInputChange (comparator : Comparator) (millivolts : Nat)
  /-- SENSE_PERSISTENCE_EXPIRY (R154). -/
  | sensePersistenceExpiry (comparator : Comparator)
  /-- CARD_PRESENT_ASSERT (R164). -/
  | cardPresentAssert
  /-- SETTLE_TIME_ELAPSED (R160). -/
  | settleTimeElapsed
  /-- CHECK_TIMEOUT (R160). -/
  | checkTimeout
  /-- RETRY_WAIT_END (R162). -/
  | retryWaitEnd
  /-- SHUTDOWN_RUN_TICK (R170). -/
  | shutdownRunTick
  /-- DAY_CLOCK_SECOND (R178). -/
  | dayClockSecond
  deriving DecidableEq, Repr

end Sys2Proof
end

