-- ==== Sys2Proof/WellFormed.lean ====
section
/-! DEFINITION. Well-formed commands: every field of a request fits the bytes that chapter 11 gives it, and every list
fits the longest payload. A term that is not well formed stands for no message and no event. -/

namespace Sys2Proof

/-- A number that one byte carries. -/
def fits8 (n : Nat) : Bool := n < 256

/-- A number that two bytes carry. -/
def fits16 (n : Nat) : Bool := n < 65536

/-- A number that four bytes carry. -/
def fits32 (n : Nat) : Bool := n < 4294967296

def MeterFields.wf (f : MeterFields) : Bool :=
  fits8 f.present && fits16 f.q && fits16 f.reverseLimit && fits16 f.creepThreshold && fits8 f.phaseThreshold
    && fits16 f.runUp && fits8 f.runOn

def GradeFields.wf (f : GradeFields) : Bool :=
  fits8 f.grade && fits16 f.price1 && fits16 f.price2 && fits16 f.slowDown && fits8 f.vapour

def HoseFields.wf (f : HoseFields) : Bool :=
  fits8 f.grade && fits8 f.meter && fits8 f.enabled

def TimingFields.wf (f : TimingFields) : Bool :=
  fits16 f.quiet && fits16 f.noFlow && fits16 f.authTimeout && fits16 f.divider

def AuthFields.wf (f : AuthFields) : Bool :=
  fits8 f.presence && fits8 f.mask && fits8 f.level && fits8 f.presetKind && fits32 f.presetValue
    && fits32 f.amountLimit && fits32 f.volumeLimit && fits16 f.session

def DisplayFields.wf (f : DisplayFields) : Bool :=
  fits8 f.amountDecimals && fits8 f.volumeDecimals && fits8 f.priceDecimals && fits8 f.holdTime

def GateFields.wf (f : GateFields) : Bool :=
  fits8 f.holdThreshold && fits8 f.errorThreshold && fits16 f.bootTime && fits8 f.echo

def SenseFields.wf (f : SenseFields) : Bool :=
  fits8 f.kf && fits8 f.kr && fits16 f.failMs && fits16 f.recoverMs

def StepFields.wf (f : StepFields) : Bool :=
  fits8 f.load && fits8 f.action && fits16 f.settle && fits8 f.checkKind && fits8 f.comparator && fits16 f.timeout
    && fits8 f.failure && fits8 f.retries

def ScheduleFields.wf (f : ScheduleFields) : Bool :=
  fits8 f.presence && fits16 f.night && fits16 f.wake && fits8 f.nozzle && fits8 f.card

/-- A request payload: 0 to 239 bytes (R182). -/
def payloadFits (payload : List Byte) : Bool := payload.length ≤ 239

/-- The command stands for a message that can be sent, or for an event that can happen (R197, R198). -/
def Instr.wf : Instr → Bool
  | .loadMeter _ m f => fits8 m && f.wf
  | .meterReset m => fits8 m
  | .readMeter m => fits8 m
  | .setRounding _ r => fits8 r
  | .stagePrices b es => fits8 b && es.all GradeFields.wf && es.length ≤ 29
  | .applyPrices => true
  | .readPrices k n => fits8 k && fits16 n
  | .loadHoses es => es.a.toList.all HoseFields.wf && es.b.toList.all HoseFields.wf
  | .readHoses => true
  | .loadPointTiming p f => fits8 p && f.wf
  | .readPointTiming p => fits8 p
  | .authorize p f => fits8 p && f.wf
  | .cancel p => fits8 p
  | .clear p x n => fits8 p && fits8 x && fits16 n
  | .stopAll => true
  | .readDelivery p r => fits8 p && fits8 r
  | .readPulseOutput p => fits8 p
  | .readTotals => true
  | .loadDisplay f => f.wf
  | .displayTest x => fits8 x
  | .readDisplay x => fits8 x
  | .readerOn => true
  | .readerOff => true
  | .readerRelease => true
  | .readerPost t pl => fits16 t && pl.length ≤ 237
  | .readerFetch => true
  | .loadGate f => f.wf
  | .readGate => true
  | .loadSense c f => fits8 c && f.wf
  | .loadSequence ss => ss.all StepFields.wf && ss.length ≤ 23
  | .readSequence => true
  | .wake => true
  | .sleep => true
  | .setStartSpacing n => fits16 n
  | .setClock d n => fits16 d && fits32 n
  | .setSchedule f => f.wf
  | .readPower => true
  | .fetchReports m r => fits8 m && fits8 r
  | .setReportModes p ms => fits8 p && ms.all fits8 && ms.length == 24
  | .setHostSilence n => fits16 n
  | .identify => true
  | .readStatus => true
  | .restart => true
  | .requestRefused _ pl => payloadFits pl
  | .hostFrameReceived _ => true
  | .frameDiscarded _ _ => true
  | .frameGapTimeout => true
  | .replySent => true
  | .hostSilenceExpiry => true
  | .powerOnStart _ _ => true
  | .supplyFallOrReset _ => true
  | .retainedWriteEnd _ => true
  | .pulserSample _ _ _ => true
  | .phaseWindowEnd _ => true
  | .valveSenseChange _ _ _ => true
  | .valveMismatchTimeout _ => true
  | .nozzleLift _ _ _ => true
  | .nozzleHang _ _ => true
  | .startSpacingElapsed => true
  | .runUpElapsed _ => true
  | .noFlowExpiry _ => true
  | .quietExpiry _ => true
  | .runOnExpiry _ => true
  | .authorizationTimeout _ => true
  | .emergencyStopAssert => true
  | .emergencyStopRelease => true
  | .pulseHighEnd _ => true
  | .pulseLowEnd _ => true
  | .refreshInstant _ x => match x with | none => true | some l => l.length == 28
  | .displayHoldExpiry _ => true
  | .pollInstant => true
  | .readerReplyReceived bs => bs.length ≤ 260
  | .readerReplyMiss => true
  | .readerReplyGap => true
  | .errorWindowEnd => true
  | .attemptTimeout => true
  | .offIntervalEnd => true
  | .bootTimeElapsed => true
  | .tamperAssert => true
  | .tamperRelease => true
  | .senseInputChange _ _ => true
  | .sensePersistenceExpiry _ => true
  | .cardPresentAssert => true
  | .settleTimeElapsed => true
  | .checkTimeout => true
  | .retryWaitEnd => true
  | .shutdownRunTick => true
  | .dayClockSecond => true

end Sys2Proof
end

