-- ==== Sys2Proof/Decode.lean ====
section
/-! DEFINITION. Reading commands from bytes: the CRC-16 of the two links, the host frame and its receiver (R182), the
kind and length tests of the HLP with the reading of a request's fields (R184, R197, R198), and the encoder beside it.
No row of spec/opcode_table.json gives bits, so `decodeTableWord` reads none. -/

namespace Sys2Proof

/-! ## The CRC-16 -/

/-- One bit of the CRC-16 with polynomial 1021h, most significant bit first (R182). -/
def crc16Bit (c : BitVec 16) : BitVec 16 :=
  if c.getLsbD 15 then (c <<< 1) ^^^ 0x1021 else c <<< 1

/-- One byte of the CRC-16: no reflection of input or output (R182). -/
def crc16Byte (c : BitVec 16) (b : Byte) : BitVec 16 :=
  let c := c ^^^ (b.zeroExtend 16 <<< 8)
  crc16Bit (crc16Bit (crc16Bit (crc16Bit (crc16Bit (crc16Bit (crc16Bit (crc16Bit c)))))))

/-- The CRC-16 of both links: initial value FFFFh, no final XOR (R129, R182). -/
def crc16 (bytes : List Byte) : BitVec 16 := bytes.foldl crc16Byte 0xFFFF

/-- The CRC-16 of some bytes as it is sent, low byte first (R129, R182). -/
def crc16Bytes (bytes : List Byte) : List Byte :=
  let c := crc16 bytes
  [c.truncate 8, (c >>> 8).truncate 8]

/-! ## Numbers in bytes (R197) -/

/-- A number carried in one byte. -/
def u8 (n : Nat) : List Byte := [BitVec.ofNat 8 n]

/-- A number carried in two bytes, least significant first. -/
def u16 (n : Nat) : List Byte := [BitVec.ofNat 8 n, BitVec.ofNat 8 (n / 256)]

/-- A number carried in four bytes, least significant first. -/
def u32 (n : Nat) : List Byte := u16 n ++ u16 (n / 65536)

/-- A number carried in eight bytes, least significant first. -/
def u64 (n : Nat) : List Byte := u32 n ++ u32 (n / 4294967296)

/-- The number two bytes carry. -/
def le16 (b0 b1 : Byte) : Nat := b0.toNat + 256 * b1.toNat

/-- The number four bytes carry. -/
def le32 (b0 b1 b2 b3 : Byte) : Nat := le16 b0 b1 + 65536 * le16 b2 b3

/-! ## The host frame and its receiver (R182) -/

/-- A good frame, without its sync byte, length and CRC. -/
structure Frame where
  kind : Byte
  payload : List Byte
  deriving DecidableEq, Repr

/-- The bytes of a frame on the line, in both directions (R182). -/
def Frame.bytes (f : Frame) : List Byte :=
  let body := BitVec.ofNat 8 (f.payload.length + 1) :: f.kind :: f.payload
  0xC3 :: body ++ crc16Bytes body

/-- The receiver phase: HUNT, or inside a frame with the bytes taken after the sync byte (10 of chapter 10). -/
inductive RxPhase where
  | hunt
  | inside (taken : List Byte)
  deriving DecidableEq, Repr

/-- What one received byte brings about: nothing yet, a good frame, or a frame discarded for its length or its CRC. -/
inductive RxEvent where
  | quiet
  | good (f : Frame)
  | discarded
  deriving DecidableEq, Repr

/-- A byte judged in HUNT: C3h begins a frame, any other byte is discarded without count (R182). -/
def rxHunt (b : Byte) : RxPhase := if b = 0xC3 then .inside [] else .hunt

/-- The frame that the bytes after a sync byte spell once they are all in: a good one when the CRC matches (R182). -/
def rxClose (taken : List Byte) : RxEvent :=
  let body := taken.take (taken.length - 2)
  if taken.drop (taken.length - 2) = crc16Bytes body then
    match body with
    | _ :: kind :: payload => .good ⟨kind, payload⟩
    | _ => .discarded
  else .discarded

/-- The receiver's step at one byte (R182). -/
def rxByte (phase : RxPhase) (b : Byte) : RxPhase × RxEvent :=
  match phase with
  | .hunt => (rxHunt b, .quiet)
  | .inside [] => if b.toNat = 0 ∨ 240 < b.toNat then (rxHunt b, .discarded) else (.inside [b], .quiet)
  | .inside (l :: rest) =>
    let taken := l :: rest ++ [b]
    if taken.length = l.toNat + 3 then (.hunt, rxClose taken) else (.inside taken, .quiet)

/-! ## The kinds and the length test (R184, R198) -/

/-- Why the HLP refuses a request before its owner sees it (R184). -/
inductive FrameRefusal where
  | unknownKind
  | badLength
  deriving DecidableEq, Repr

/-- The fields of a list of grade entries, 8 bytes each. -/
def readGrades : List Byte → Option (List GradeFields)
  | [] => some []
  | g :: a0 :: a1 :: b0 :: b1 :: d0 :: d1 :: v :: rest =>
    (readGrades rest).map (⟨g.toNat, le16 a0 a1, le16 b0 b1, le16 d0 d1, v.toNat⟩ :: ·)
  | _ => none

/-- The fields of a list of step records, 10 bytes each. -/
def readSteps : List Byte → Option (List StepFields)
  | [] => some []
  | l :: a :: s0 :: s1 :: k :: c :: t0 :: t1 :: f :: r :: rest =>
    (readSteps rest).map (⟨l.toNat, a.toNat, le16 s0 s1, k.toNat, c.toNat, le16 t0 t1, f.toNat, r.toNat⟩ :: ·)
  | _ => none

/-- The fields of a list of hose entries, 3 bytes each. -/
def readHoseEntries : List Byte → Option (List HoseFields)
  | [] => some []
  | g :: m :: e :: rest => (readHoseEntries rest).map (⟨g.toNat, m.toNat, e.toNat⟩ :: ·)
  | _ => none

/-- A request read from its frame, or the HLP's reason for refusing it (R184, R198). The calibration switch is no part
of a frame: the request stands with the switch off, as `Instr.framed` leaves it. -/
def requestOf (f : Frame) : Except FrameRefusal Instr :=
  let p := f.payload
  let fixed (r : Option Instr) : Except FrameRefusal Instr :=
    match r with
    | some i => .ok i
    | none => .error .badLength
  let bare (i : Instr) : Except FrameRefusal Instr := if p = [] then .ok i else .error .badLength
  let one (k : Nat → Instr) : Except FrameRefusal Instr :=
    match p with
    | [b] => .ok (k b.toNat)
    | _ => .error .badLength
  match f.kind.toNat with
  | 0x01 => fixed (match p with
    | [m, x, q0, q1, r0, r1, c0, c1, t, u0, u1, o] =>
      some (.loadMeter false m.toNat ⟨x.toNat, le16 q0 q1, le16 r0 r1, le16 c0 c1, t.toNat, le16 u0 u1, o.toNat⟩)
    | _ => none)
  | 0x02 => one .meterReset
  | 0x03 => one .readMeter
  | 0x04 => one (.setRounding false)
  | 0x08 => fixed (match p with
    | b :: n :: rest =>
      (readGrades rest).bind fun es => if es.length = n.toNat then some (.stagePrices b.toNat es) else none
    | _ => none)
  | 0x09 => bare .applyPrices
  | 0x0A => fixed (match p with
    | [k, n0, n1] => some (.readPrices k.toNat (le16 n0 n1))
    | _ => none)
  | 0x10 => fixed ((readHoseEntries p).bind fun es => match es with
    | [a1, a2, a3, a4, b1, b2, b3, b4] => some (.loadHoses ⟨⟨a1, a2, a3, a4⟩, ⟨b1, b2, b3, b4⟩⟩)
    | _ => none)
  | 0x11 => bare .readHoses
  | 0x12 => fixed (match p with
    | [x, q0, q1, n0, n1, t0, t1, d0, d1] =>
      some (.loadPointTiming x.toNat ⟨le16 q0 q1, le16 n0 n1, le16 t0 t1, le16 d0 d1⟩)
    | _ => none)
  | 0x13 => one .readPointTiming
  | 0x14 => fixed (match p with
    | [x, pr, g, l, k, v0, v1, v2, v3, a0, a1, a2, a3, w0, w1, w2, w3, s0, s1] =>
      some (.authorize x.toNat ⟨pr.toNat, g.toNat, l.toNat, k.toNat, le32 v0 v1 v2 v3, le32 a0 a1 a2 a3,
        le32 w0 w1 w2 w3, le16 s0 s1⟩)
    | _ => none)
  | 0x15 => one .cancel
  | 0x16 => fixed (match p with
    | [x, pr, n0, n1] => some (.clear x.toNat pr.toNat (le16 n0 n1))
    | _ => none)
  | 0x17 => bare .stopAll
  | 0x18 => fixed (match p with
    | [x, r] => some (.readDelivery x.toNat r.toNat)
    | _ => none)
  | 0x1C => one .readPulseOutput
  | 0x20 => bare .readTotals
  | 0x24 => fixed (match p with
    | [a, v, x, h] => some (.loadDisplay ⟨a.toNat, v.toNat, x.toNat, h.toNat⟩)
    | _ => none)
  | 0x25 => one .displayTest
  | 0x26 => one .readDisplay
  | 0x28 => bare .readerOn
  | 0x29 => bare .readerOff
  | 0x2A => bare .readerRelease
  | 0x2B => fixed (match p with
    | t0 :: t1 :: rest => some (.readerPost (le16 t0 t1) rest)
    | _ => none)
  | 0x2C => bare .readerFetch
  | 0x2D => fixed (match p with
    | [h, e, b0, b1, x] => some (.loadGate ⟨h.toNat, e.toNat, le16 b0 b1, x.toNat⟩)
    | _ => none)
  | 0x2E => bare .readGate
  | 0x30 => fixed (match p with
    | [c, kf, kr, f0, f1, r0, r1] => some (.loadSense c.toNat ⟨kf.toNat, kr.toNat, le16 f0 f1, le16 r0 r1⟩)
    | _ => none)
  | 0x31 => fixed (match p with
    | n :: rest => (readSteps rest).bind fun ss => if ss.length = n.toNat then some (.loadSequence ss) else none
    | _ => none)
  | 0x32 => bare .readSequence
  | 0x33 => bare .wake
  | 0x34 => bare .sleep
  | 0x35 => fixed (match p with
    | [n0, n1] => some (.setStartSpacing (le16 n0 n1))
    | _ => none)
  | 0x36 => fixed (match p with
    | [d0, d1, s0, s1, s2, s3] => some (.setClock (le16 d0 d1) (le32 s0 s1 s2 s3))
    | _ => none)
  | 0x37 => fixed (match p with
    | [x, n0, n1, w0, w1, z, c] => some (.setSchedule ⟨x.toNat, le16 n0 n1, le16 w0 w1, z.toNat, c.toNat⟩)
    | _ => none)
  | 0x38 => bare .readPower
  | 0x3C => fixed (match p with
    | [m, r] => some (.fetchReports m.toNat r.toNat)
    | _ => none)
  | 0x3D => fixed (match p with
    | x :: ms => if ms.length = 24 then some (.setReportModes x.toNat (ms.map BitVec.toNat)) else none
    | _ => none)
  | 0x3E => fixed (match p with
    | [n0, n1] => some (.setHostSilence (le16 n0 n1))
    | _ => none)
  | 0x3F => bare .identify
  | 0x40 => bare .readStatus
  | 0x41 => bare .restart
  | _ => .error .unknownKind

/-! ## The encoder -/

def MeterFields.bytes (f : MeterFields) : List Byte :=
  u8 f.present ++ u16 f.q ++ u16 f.reverseLimit ++ u16 f.creepThreshold ++ u8 f.phaseThreshold ++ u16 f.runUp
    ++ u8 f.runOn

def GradeFields.bytes (f : GradeFields) : List Byte :=
  u8 f.grade ++ u16 f.price1 ++ u16 f.price2 ++ u16 f.slowDown ++ u8 f.vapour

def HoseFields.bytes (f : HoseFields) : List Byte := u8 f.grade ++ u8 f.meter ++ u8 f.enabled

def TimingFields.bytes (f : TimingFields) : List Byte :=
  u16 f.quiet ++ u16 f.noFlow ++ u16 f.authTimeout ++ u16 f.divider

def AuthFields.bytes (f : AuthFields) : List Byte :=
  u8 f.presence ++ u8 f.mask ++ u8 f.level ++ u8 f.presetKind ++ u32 f.presetValue ++ u32 f.amountLimit
    ++ u32 f.volumeLimit ++ u16 f.session

def StepFields.bytes (f : StepFields) : List Byte :=
  u8 f.load ++ u8 f.action ++ u16 f.settle ++ u8 f.checkKind ++ u8 f.comparator ++ u16 f.timeout ++ u8 f.failure
    ++ u8 f.retries

/-- The kind code of a request and its payload, by the tables of 11.2 and 11.3; an event has none. -/
def Instr.request? : Instr → Option (Nat × List Byte)
  | .loadMeter _ m f => some (0x01, u8 m ++ f.bytes)
  | .meterReset m => some (0x02, u8 m)
  | .readMeter m => some (0x03, u8 m)
  | .setRounding _ r => some (0x04, u8 r)
  | .stagePrices b es => some (0x08, u8 b ++ u8 es.length ++ es.flatMap GradeFields.bytes)
  | .applyPrices => some (0x09, [])
  | .readPrices k n => some (0x0A, u8 k ++ u16 n)
  | .loadHoses es => some (0x10, es.a.toList.flatMap HoseFields.bytes ++ es.b.toList.flatMap HoseFields.bytes)
  | .readHoses => some (0x11, [])
  | .loadPointTiming p f => some (0x12, u8 p ++ f.bytes)
  | .readPointTiming p => some (0x13, u8 p)
  | .authorize p f => some (0x14, u8 p ++ f.bytes)
  | .cancel p => some (0x15, u8 p)
  | .clear p x n => some (0x16, u8 p ++ u8 x ++ u16 n)
  | .stopAll => some (0x17, [])
  | .readDelivery p r => some (0x18, u8 p ++ u8 r)
  | .readPulseOutput p => some (0x1C, u8 p)
  | .readTotals => some (0x20, [])
  | .loadDisplay f => some (0x24, u8 f.amountDecimals ++ u8 f.volumeDecimals ++ u8 f.priceDecimals ++ u8 f.holdTime)
  | .displayTest x => some (0x25, u8 x)
  | .readDisplay x => some (0x26, u8 x)
  | .readerOn => some (0x28, [])
  | .readerOff => some (0x29, [])
  | .readerRelease => some (0x2A, [])
  | .readerPost t pl => some (0x2B, u16 t ++ pl)
  | .readerFetch => some (0x2C, [])
  | .loadGate f => some (0x2D, u8 f.holdThreshold ++ u8 f.errorThreshold ++ u16 f.bootTime ++ u8 f.echo)
  | .readGate => some (0x2E, [])
  | .loadSense c f => some (0x30, u8 c ++ u8 f.kf ++ u8 f.kr ++ u16 f.failMs ++ u16 f.recoverMs)
  | .loadSequence ss => some (0x31, u8 ss.length ++ ss.flatMap StepFields.bytes)
  | .readSequence => some (0x32, [])
  | .wake => some (0x33, [])
  | .sleep => some (0x34, [])
  | .setStartSpacing n => some (0x35, u16 n)
  | .setClock d n => some (0x36, u16 d ++ u32 n)
  | .setSchedule f => some (0x37, u8 f.presence ++ u16 f.night ++ u16 f.wake ++ u8 f.nozzle ++ u8 f.card)
  | .readPower => some (0x38, [])
  | .fetchReports m r => some (0x3C, u8 m ++ u8 r)
  | .setReportModes p ms => some (0x3D, u8 p ++ ms.flatMap u8)
  | .setHostSilence n => some (0x3E, u16 n)
  | .identify => some (0x3F, [])
  | .readStatus => some (0x40, [])
  | .restart => some (0x41, [])
  | .requestRefused _ _ => none
  | .hostFrameReceived _ => none
  | .frameDiscarded _ _ => none
  | .frameGapTimeout => none
  | .replySent => none
  | .hostSilenceExpiry => none
  | .powerOnStart _ _ => none
  | .supplyFallOrReset _ => none
  | .retainedWriteEnd _ => none
  | .pulserSample _ _ _ => none
  | .phaseWindowEnd _ => none
  | .valveSenseChange _ _ _ => none
  | .valveMismatchTimeout _ => none
  | .nozzleLift _ _ _ => none
  | .nozzleHang _ _ => none
  | .startSpacingElapsed => none
  | .runUpElapsed _ => none
  | .noFlowExpiry _ => none
  | .quietExpiry _ => none
  | .runOnExpiry _ => none
  | .authorizationTimeout _ => none
  | .emergencyStopAssert => none
  | .emergencyStopRelease => none
  | .pulseHighEnd _ => none
  | .pulseLowEnd _ => none
  | .refreshInstant _ _ => none
  | .displayHoldExpiry _ => none
  | .pollInstant => none
  | .readerReplyReceived _ => none
  | .readerReplyMiss => none
  | .readerReplyGap => none
  | .errorWindowEnd => none
  | .attemptTimeout => none
  | .offIntervalEnd => none
  | .bootTimeElapsed => none
  | .tamperAssert => none
  | .tamperRelease => none
  | .senseInputChange _ _ => none
  | .sensePersistenceExpiry _ => none
  | .cardPresentAssert => none
  | .settleTimeElapsed => none
  | .checkTimeout => none
  | .retryWaitEnd => none
  | .shutdownRunTick => none
  | .dayClockSecond => none

/-- The frame that carries a request. -/
def Instr.frame? (i : Instr) : Option Frame :=
  i.request?.map fun (k, p) => ⟨BitVec.ofNat 8 k, p⟩

/-- A request as its frame alone spells it: the calibration switch is an input of the part and no field of a message. -/
def Instr.framed : Instr → Instr
  | .loadMeter _ m f => .loadMeter false m f
  | .setRounding _ r => .setRounding false r
  | i => i

/-- The command that a word spells by the table's bits: no row of spec/opcode_table.json gives any. -/
def decodeTableWord (_nbits _w : Nat) : Option Instr := none

end Sys2Proof
end

