-- ==== Sys2Proof/Config.lean ====
section
/-! DEFINITION. What the manual leaves to the part: the free value of the model, and what an implementation fixes. -/

namespace Sys2Proof

/-- FREE VALUE (assumption 7). The order in which a retained copy holds its content is not stated (R96), so neither are
the bytes its check value is taken over. Nothing constrains this function. -/
opaque Config.copyBytes {α : Type} : α → List Byte

/-- The part revision of the part the manual describes (R192). -/
def Config.partRevision : Nat := 1

/-- The vendor name (R192). -/
def Config.vendorName : String := "Lestram"

/-- The part name (R192). -/
def Config.partName : String := "Modrin 4120"

end Sys2Proof
end

