-- ==== Sys2Proof/Machine/Records.lean ====
section
/-! DEFINITION. The records, tables and names that the state of the part is made of, block by block. -/

namespace Sys2Proof.Machine

/-! ## Shared names -/

/-- A day clock value: day number and second of day ("Time" of 00_scope.md). -/
structure Stamp where
  day : Nat
  sec : Nat
  deriving DecidableEq, Repr

/-- The rounding mode of amounts (R20, R21). -/
inductive Rounding where
  | halfUp | down
  deriving DecidableEq, Repr

/-- A price level, 1 or 2. -/
inductive Level where
  | one | two
  deriving DecidableEq, Repr

inductive PresetKind where
  | volume | amount
  deriving DecidableEq, Repr

/-- A preset: a volume in cl or an amount in MU (R49). -/
structure Preset where
  kind : PresetKind
  value : Nat
  deriving DecidableEq, Repr

/-- The source of an effective target (R23, R26). -/
inductive Source where
  | preset | limit | capacity
  deriving DecidableEq, Repr

/-- The stop causes, in the order of R52. -/
inductive StopCause where
  | preset | limit | capacity | nozzleHung | noFlow | reverseFlow | meterFault | valveFault | displayFault
  | valveSupplyLost | emergency | powerLoss | hostCancel | readerLost | hostRestart
  deriving DecidableEq, Repr

/-- The reasons of NOZZLE_REFUSED, in the order of the lift tests of R54. -/
inductive LiftRefusal where
  | hoseDisabled | gradeNotAuthorized | gradeClosed | meterFault | conflict | limitTooSmall
  deriving DecidableEq, Repr

/-- The reasons of AUTH_ENDED (11.4). -/
inductive AuthEnd where
  | expired | hostSilent | readerLost | emergency | power
  deriving DecidableEq, Repr

/-- The 24 conditions (R189). -/
inductive Condition where
  | meterFault (m : Meter)
  | meterCreep (m : Meter)
  | valveFault (m : Meter)
  | emergencyStop
  | displayFault (x : Side)
  | tamper
  | sense (c : Comparator)
  deriving DecidableEq, Repr

/-! ## Meter Input Unit (chapter 1) -/

/-- The meter configuration record (R13). -/
structure MeterRecord where
  present : Bool
  q : Nat
  reverseLimit : Nat
  creepThreshold : Nat
  phaseThreshold : Nat
  runUp : Nat
  runOn : Nat
  deriving DecidableEq, Repr

/-- An armed compare point with its fired flag (R8); a disarmed compare is no value of this type. -/
structure Armed where
  point : Nat
  fired : Bool
  deriving DecidableEq, Repr

/-- One meter channel (1.1). -/
structure Channel where
  record : MeterRecord
  reference : Option (Bool × Bool)
  counter : BitVec 32
  windowCount : Nat
  lastWindow : Nat
  windowDue : Nat
  errorTotal : Nat
  fault : Bool
  creepCount : Nat
  creep : Bool
  holder : Option Point
  snapshot : BitVec 32
  reverse : Nat
  reversePassed : Bool
  slow : Option Armed
  stop : Option Armed
  mainOpen : Bool
  slowOpen : Bool
  mismatchSince : Option Nat
  valveFault : Bool
  deriving DecidableEq, Repr

/-! ## Price Table Unit (chapter 3) -/

/-- A grade entry (R33). -/
structure GradeEntry where
  price1 : Nat
  price2 : Nat
  slowDown : Nat
  vapour : Bool
  deriving DecidableEq, Repr

/-- One grade entry for each of the grades 1 to 8. -/
abbrev PriceTable := Oct GradeEntry

/-- A published generation: a price table with its number (R33). -/
structure Generation where
  number : Nat
  table : PriceTable
  deriving DecidableEq, Repr

/-- The PTU: the published generations, the number of the newest and the staging table. -/
structure Ptu where
  published : List Generation
  newest : Nat
  staging : PriceTable
  deriving DecidableEq, Repr

/-! ## Delivery Engine (chapters 2 and 4) -/

/-- A hose entry (R47). -/
structure HoseEntry where
  grade : Grade
  meter : Meter
  enabled : Bool
  deriving DecidableEq, Repr

/-- The hose table: positions 1 to 4 of each point (R47). -/
abbrev HoseTable := Pair (Quad HoseEntry)

/-- A point timing record (R48); the divider is 1 to 65,536. -/
structure PointTiming where
  quiet : Nat
  noFlow : Nat
  authTimeout : Nat
  divider : Nat
  deriving DecidableEq, Repr

/-- An authorization (R49). -/
structure Authorization where
  mask : Nat
  level : Level
  preset : Option Preset
  amountLimit : Option Nat
  volumeLimit : Option Nat
  session : Option Nat
  granted : Stamp
  deriving DecidableEq, Repr

/-- The flags of a delivery record (R52). -/
structure DeliveryFlags where
  overrun : Bool
  limitExceeded : Bool
  presetCut : Bool
  clamped : Bool
  displayFault : Bool
  recovered : Bool
  pulsesDropped : Bool
  deriving DecidableEq, Repr

/-- The target of a delivery: the effective target, its source, whether the preset was cut, and the two counts
(R26, R28, R29). -/
structure Target where
  volume : Nat
  source : Source
  presetCut : Bool
  nSlow : Nat
  nStop : Nat
  deriving DecidableEq, Repr

/-- A delivery record (R52). -/
structure DeliveryRecord where
  seq : Nat
  position : Position
  grade : Grade
  meter : Meter
  generation : Nat
  level : Level
  price : Nat
  q : Nat
  rounding : Rounding
  slowDown : Nat
  vapour : Bool
  preset : Option Preset
  amountLimit : Option Nat
  volumeLimit : Option Nat
  session : Option Nat
  target : Nat
  source : Source
  nSlow : Nat
  nStop : Nat
  quiet : Nat
  noFlow : Nat
  snapshot : BitVec 32
  net : Int
  reverse : Nat
  volume : Nat
  amount : Nat
  cause : Option StopCause
  flags : DeliveryFlags
  start : Stamp
  finish : Option Stamp
  pulses : Nat
  final : Bool
  deriving DecidableEq, Repr

/-- The states of a point (4.4). -/
inductive PointSt where
  | closed | idle | calling | authorized | starting | fuelling | slowing | stopping | finished
  deriving DecidableEq, Repr

/-- One fuelling point. `position` is the calling or active position, `saleTable` the grade table of the current
record's generation (R44), `figuresAt` the day clock of the last running figures (R99), `reportOwed` that a restart
finalized the current record and its DELIVERY_FINISHED follows the START report (R81). -/
structure PointData where
  st : PointSt
  auth : Option Authorization
  authTimeout : Nat
  authDue : Option Nat
  position : Option Position
  generation : Nat
  current : Option DeliveryRecord
  previous : Option DeliveryRecord
  lastSeq : Nat
  saleTable : Option PriceTable
  figuresAt : Option Stamp
  zeroPassed : Bool
  noFlowDue : Option Nat
  quietDue : Option Nat
  reportOwed : Bool
  deriving DecidableEq, Repr

/-- The states of a motor (R62). -/
inductive MotorSt where
  | off | awaitingGrant | running | runOn
  deriving DecidableEq, Repr

/-- One meter's motor: its state, the moment its output last went on, and the end of its run-on timer. -/
structure Motor where
  st : MotorSt
  onSince : Nat
  runOnDue : Option Nat
  deriving DecidableEq, Repr

/-- What the DLE keeps beside its points: the meter hold table, the motors, the hose table, the point timings and the
device-wide rounding mode. -/
structure Dle where
  holders : Quad (Option Point)
  waiters : Quad (Option Point)
  motors : Quad Motor
  hoses : HoseTable
  timings : Pair PointTiming
  rounding : Rounding
  deriving DecidableEq, Repr

/-! ## Pulse Output Unit (chapter 5) -/

inductive PulsePhase where
  | ready | high | low
  deriving DecidableEq, Repr

/-- One point's pulse output (5.1); `queue` holds the tags of the pending pulses, oldest first. -/
structure Pou where
  tracked : Option (Nat × Meter)
  vapour : Bool
  divider : Nat
  generating : Bool
  high : Nat
  residue : Nat
  queue : List Nat
  phase : PulsePhase
  phaseSince : Nat
  deriving DecidableEq, Repr

/-! ## Display Drive Unit (chapter 7) -/

/-- A display symbol (7.1): a digit with or without its decimal point, blank, dash, or all segments. -/
inductive Symbol where
  | digit (d : Nat) (dot : Bool)
  | blank
  | dash
  | all
  deriving DecidableEq, Repr

/-- The shown figures of a side, in full, and whether their mark is FINAL (R111). -/
structure Shown where
  volume : Nat
  amount : Nat
  final : Bool
  deriving DecidableEq, Repr

/-- The zero check of a side (R116, R117): none, waiting to begin, or in a phase with the refreshes it has had. -/
inductive ZeroCheck where
  | none
  | waiting
  | allOn (done : Nat)
  | zeros (done : Nat)
  deriving DecidableEq, Repr

/-- A display test in flight (R120): the refreshes it has had, the positions found faulty, and who asked for it. -/
structure DisplayTest where
  done : Nat
  listed : List Bool
  byHost : Bool
  bySequence : Bool
  deriving DecidableEq, Repr

/-- The hold of a side after mains loss (R122, R123). -/
inductive Hold where
  | none
  | awaitingFinish
  | timing (due : Nat)
  deriving DecidableEq, Repr

/-- One display side. -/
structure DduSide where
  counts : List Nat
  faulted : List Bool
  sideFault : Bool
  shown : Shown
  driven : List Symbol
  zero : ZeroCheck
  test : Option DisplayTest
  hold : Hold
  refreshDue : Nat
  deriving DecidableEq, Repr

/-- The display settings (R107). -/
structure DisplaySettings where
  amountDecimals : Nat
  volumeDecimals : Nat
  priceDecimals : Nat
  holdTime : Nat
  deriving DecidableEq, Repr

inductive TestResult where
  | passed | failed | aborted
  deriving DecidableEq, Repr

inductive HoldEnd where
  | expired | standbyLost | mainsReturn
  deriving DecidableEq, Repr

/-! ## Card Reader Gate (chapter 8) -/

inductive GateSt where
  | off | powering | sync | opened | echo | quarantine
  deriving DecidableEq, Repr

inductive QuarantineCause where
  | tamper | errorRate | noHello | linkLostRepeated
  deriving DecidableEq, Repr

/-- The causes of a READER_GATE report, numbered from 1 in this order (R130). -/
inductive GateCause where
  | request | sequence | supplyReady | retry | hello | readerRestart | linkLost | supplyLost | echoStart | echoEnd
  | release | quarantine (c : QuarantineCause)
  deriving DecidableEq, Repr

/-- A reader identity: type, revision and serial (8.1). -/
structure Identity where
  type : Nat
  revision : Nat
  serial : List Byte
  deriving DecidableEq, Repr

/-- An entry of the inbound queue (R136). -/
structure Inbound where
  session : Nat
  arrived : Stamp
  payload : List Byte
  deriving DecidableEq, Repr

/-- An entry of the outbound mailbox (R139). -/
structure Outbound where
  tag : Nat
  payload : List Byte
  session : Nat
  deriving DecidableEq, Repr

inductive EchoKind where
  | loopOn | loopOff
  deriving DecidableEq, Repr

inductive Verdict where
  | none | accepted | held | refused
  deriving DecidableEq, Repr

/-- The gate settings (R151). -/
structure GateSettings where
  holdThreshold : Nat
  errorThreshold : Nat
  bootTime : Nat
  echo : Bool
  deriving DecidableEq, Repr

/-- An exchange in progress: when the gate packet was sent, and whether it was a PASS (R128, R140). -/
structure Exchange where
  sentAt : Nat
  pass : Bool
  deriving DecidableEq, Repr

/-- The Card Reader Gate. `offDue` is the end of an off interval of POWERING, in which the load is off; `attemptDue`
the end of the 10 s that the attempt has in POWERING or in SYNC; `bootDue` the end of the boot time (R132). `verdict`
and `lastGood` are what the last exchange left for the next gate packet, `sent` is the last gate packet, `pollOwed`
that a poll instant fell while a reply was being received (R128). -/
structure Crg where
  st : GateSt
  cause : Option QuarantineCause
  counter : Nat
  session : Option Nat
  identity : Option Identity
  readerToggle : Bool
  gateToggle : Bool
  inbound : List Inbound
  outbound : List Outbound
  miss : Nat
  errors : Nat
  errorDue : Nat
  attempts : Nat
  losses : List Nat
  flushed : Nat
  run : Option (EchoKind × Nat)
  settings : GateSettings
  offDue : Option Nat
  attemptDue : Nat
  bootDue : Option Nat
  pollDue : Nat
  pollOwed : Bool
  exchange : Option Exchange
  verdict : Verdict
  lastGood : Option (List Byte)
  sent : List Byte
  deriving DecidableEq, Repr

inductive Outcome3 where
  | delivered | refused | flushed
  deriving DecidableEq, Repr

/-! ## Power Sequencing Controller (chapter 9) -/

inductive PowerSt where
  | night | waking | run | draining | mainsLost | halted
  deriving DecidableEq, Repr

inductive Intended where
  | night | run
  deriving DecidableEq, Repr

inductive WakeCause where
  | request | schedule | nozzle | card | mainsReturn
  deriving DecidableEq, Repr

inductive WakeOutcome where
  | waking | run | pending
  deriving DecidableEq, Repr

/-- The causes of a POWER_STATE report (9.2). -/
inductive PowerCause where
  | request | schedule | nozzle | card | mainsReturn | sequenceDone | stepAbort | drainDone | mainsLoss
  deriving DecidableEq, Repr

/-- A comparator's levels and persistences (R154). -/
structure SenseSettings where
  kf : Nat
  kr : Nat
  failMs : Nat
  recoverMs : Nat
  deriving DecidableEq, Repr

/-- A comparator: its condition, its settings, and since when the timer of its present direction has been running. -/
structure Sensor where
  good : Bool
  settings : SenseSettings
  since : Option Nat
  deriving DecidableEq, Repr

/-- The check of a step (R159). -/
inductive Check where
  | none
  | condition (c : Comparator)
  | readerOpen
  | displayTest (x : Side)
  deriving DecidableEq, Repr

/-- The failure action of a step (R159). -/
inductive OnFail where
  | abort
  | proceed
  | retry (count : Nat)
  deriving DecidableEq, Repr

/-- A step of the step table (R159). -/
structure PowerStep where
  load : Option Load
  turnOn : Bool
  settle : Nat
  check : Check
  timeout : Nat
  onFail : OnFail
  deriving DecidableEq, Repr

inductive StepPhase where
  | settle | check | retryWait
  deriving DecidableEq, Repr

/-- The step cursor: the step in hand, from 1, its phase and the moment the phase began (R160). -/
structure Cursor where
  step : Nat
  phase : StepPhase
  since : Nat
  deriving DecidableEq, Repr

/-- The reasons of STEP_FAILED (11.4). -/
inductive StepReason where
  | checkTimeout | quarantined | testFailed | testAborted | testNotRun
  deriving DecidableEq, Repr

/-- The action taken on a failed step (R162), numbered as the failure actions are. -/
inductive StepAction where
  | abort | proceed | retry
  deriving DecidableEq, Repr

/-- The particulars of a STEP_FAILED report (R162). `dduReason` is 0, or the number of the display test refusal that
applied. -/
structure StepFailure where
  step : Nat
  load : Option Load
  check : Check
  reason : StepReason
  dduReason : Nat
  action : StepAction
  attempt : Nat
  deriving DecidableEq, Repr

/-- The schedule (R179). -/
structure Schedule where
  night : Option Nat
  wake : Option Nat
  nozzleWake : Bool
  cardWake : Bool
  deriving DecidableEq, Repr

/-- The PSC's drives of the nine loads. That of READER is the READER_ON or READER_OFF the PSC handed the gate last; the
load itself is switched by the gate (R130, R158). -/
structure Drives where
  pulserSupply : Bool
  valveSupply : Bool
  displayA : Bool
  displayB : Bool
  heaterA : Bool
  heaterB : Bool
  reader : Bool
  aux1 : Bool
  aux2 : Bool
  deriving DecidableEq, Repr

/-- The Power Sequencing Controller. `shutdown` is the list of loads the shutdown run has still to turn off. -/
structure Psc where
  sensors : Oct Sensor
  power : PowerSt
  intended : Intended
  wakePending : Option WakeCause
  drives : Drives
  steps : List PowerStep
  cursor : Option Cursor
  retries : Nat
  lastFailure : Option StepFailure
  shutdown : List Load
  shutdownDue : Nat
  startQueue : List Meter
  lastGrant : Nat
  spacing : Nat
  clock : Stamp
  clockSet : Bool
  secondDue : Nat
  schedule : Schedule
  deriving DecidableEq, Repr

/-! ## Host Link Port (chapter 10) -/

inductive Policy where
  | keepOldest | keepNewest
  deriving DecidableEq, Repr

inductive ReportMode where
  | off | onSet | onChange
  deriving DecidableEq, Repr

/-- A report mode for each of the 24 conditions, in the order of the table of R189. -/
structure ReportModes where
  meterFault : Quad ReportMode
  meterCreep : Quad ReportMode
  valveFault : Quad ReportMode
  emergencyStop : ReportMode
  displayFault : Pair ReportMode
  tamper : ReportMode
  sense : Oct ReportMode
  deriving DecidableEq, Repr

inductive SilenceTimer where
  | off
  | stopped
  | running (due : Nat)
  | expired
  deriving DecidableEq, Repr

/-- The cause of the last start (R192). -/
inductive StartCause where
  | standby | resetInput | restart
  deriving DecidableEq, Repr

/-- The validity of a region found at a start (R100). -/
inductive Validity where
  | good | older | defaulted
  deriving DecidableEq, Repr

/-- The target a report names (R186). -/
inductive ReportTarget where
  | none
  | point (p : Point)
  | side (x : Side)
  | meter (m : Meter)
  deriving DecidableEq, Repr

inductive Adoption where
  | apply | back
  deriving DecidableEq, Repr

/-- The data of a report, by its kind (11.4). -/
inductive ReportData where
  | start (cause : StartCause) (config totals deliveries : Validity)
  | condition (c : Condition) (value : Bool)
  | nozzleCall (position : Position) (closed uncleared : Bool)
  | nozzleRefused (position : Position) (reason : LiftRefusal)
  | nozzleHang (position : Position)
  | meterWait (m : Meter) (holder : Point)
  | authEnded (reason : AuthEnd)
  | deliveryStarted (r : DeliveryRecord) (full : Bool)
  | deliveryStopping (seq : Nat) (cause : StopCause)
  | deliveryFinished (r : DeliveryRecord)
  | priceAdopted (previous new : Nat) (cause : Adoption) (retired : Option Nat)
  | displayDigitFault (positions : List Bool) (noSense : Bool)
  | displayTestDone (byHost bySequence : Bool) (result : TestResult) (listed : Nat)
  | displayHoldEnd (reason : HoldEnd)
  | readerGate (previous new : GateSt) (cause : GateCause) (session : Option Nat) (identity : Option Identity)
      (changed : Bool)
  | readerInbound (session : Nat)
  | readerPresence (session : Nat) (cardIn : Bool)
  | readerOutboundEnd (tag : Nat) (outcome : Outcome3)
  | readerInboundFlushed (sessions : List Nat)
  | powerState (previous new : PowerSt) (cause : PowerCause) (intended : Intended)
  | wake (cause : WakeCause) (outcome : WakeOutcome)
  | stepFailed (f : StepFailure)
  deriving DecidableEq, Repr

/-- A report entry (R186). -/
structure Report where
  target : ReportTarget
  time : Stamp
  data : ReportData
  deriving DecidableEq, Repr

/-- The request in hand (R183). `taken`: its frame has been taken and its owner has not yet had it. `waiting`: it has
been answered, and the reply waits for the ends of this many writes of CONFIG and of DELIVERIES (R97). `restarting`:
a RESTART waits for every retained write to end (R194). `replying`: its reply is being sent. -/
inductive Hand where
  | taken (f : Frame)
  | waiting (kind : Nat) (reply : List Byte) (config deliveries : Nat)
  | restarting
  | replying (kind : Nat) (reply : List Byte)
  deriving DecidableEq, Repr

/-- The Host Link Port. -/
structure Hlp where
  rx : RxPhase
  buffer : List Frame
  hand : Option Hand
  frameErrors : Nat
  overruns : Nat
  reports : List Report
  lost : Nat
  lastFetch : Option (List Byte)
  policy : Policy
  modes : ReportModes
  silenceTime : Nat
  silence : SilenceTimer
  startCause : StartCause
  deriving DecidableEq, Repr

/-! ## Retained Memory (chapter 6) -/

/-- The content of the CONFIG region (6.3). -/
structure ConfigImage where
  meters : Quad MeterRecord
  rounding : Rounding
  ptu : Ptu
  hoses : HoseTable
  timings : Pair PointTiming
  display : DisplaySettings
  gate : GateSettings
  sense : Oct SenseSettings
  steps : List PowerStep
  schedule : Schedule
  spacing : Nat
  intended : Intended
  modes : ReportModes
  policy : Policy
  silenceTime : Nat
  deriving DecidableEq, Repr

/-- The content of the TOTALS region: the totalizers and the totalization marks (R93, R94). -/
structure Totals where
  meterVolume : Quad Nat
  meterCount : Quad Nat
  gradeVolume : Oct Nat
  gradeAmount : Oct Nat
  marks : Pair (Option Nat)
  deriving DecidableEq, Repr

/-- A point's state at the last write (R99). -/
inductive SavedSt where
  | startingHeld | running | stopping | settled
  deriving DecidableEq, Repr

/-- One point's part of the DELIVERIES region (R99). `held` is false for a record begun and not held. -/
structure SavedPoint where
  current : Option DeliveryRecord
  previous : Option DeliveryRecord
  lastSeq : Nat
  st : SavedSt
  held : Bool
  figuresAt : Option Stamp
  table : Option PriceTable
  deriving DecidableEq, Repr

/-- The content of the DELIVERIES region (R99). -/
abbrev DeliveriesImage := Pair SavedPoint

/-- One copy of a region (R96). -/
structure Copy (α : Type) where
  content : α
  count : BitVec 32
  check : BitVec 32
  deriving DecidableEq, Repr

/-- A region: its two copies, which of them was written last, the content of the write in flight, and whether a change
is held for a further write (R96, R97). -/
structure Region (α : Type) where
  copy1 : Copy α
  copy2 : Copy α
  second : Bool
  inFlight : Option α
  held : Bool
  deriving DecidableEq, Repr

/-- What one finalization adds to the TOTALS region (R94). -/
structure Addition where
  point : Point
  seq : Nat
  meter : Meter
  grade : Grade
  volume : Nat
  amount : Nat
  deriving DecidableEq, Repr

/-- The Retained Memory. An addition waits in `unwritten` until a write of DELIVERIES begins, in `carried` while that
write is in flight, and in `owed` until its TOTALS write begins (R97). `dirtyConfig` and `dirtyDeliveries` say, within
one event, that the event changed the region's content; they are clear between events. -/
structure Rtm where
  config : Region ConfigImage
  totals : Region Totals
  deliveries : Region DeliveriesImage
  unwritten : List Addition
  carried : List Addition
  owed : List Addition
  dirtyConfig : Bool
  dirtyDeliveries : Bool
  configValidity : Validity
  totalsValidity : Validity
  deliveriesValidity : Validity
  deriving DecidableEq, Repr

/-! ## The field wiring -/

/-- The levels of the inputs the part reads (00_scope.md, "The part in its dispenser"): nozzle switches (up), valve
drive senses (open), emergency-stop and tamper lines (asserted), calibration switch (on, as last sampled), and the
comparator inputs in whole millivolts. -/
structure Pins where
  nozzles : Pair (Quad Bool)
  mainSense : Quad Bool
  slowSense : Quad Bool
  emergency : Bool
  tamper : Bool
  calibration : Bool
  millivolts : Oct Nat
  deriving DecidableEq, Repr

end Sys2Proof.Machine
end

