-- ==== Sys2Proof/Machine/Checks.lean ====
section
/-! DEFINITION. The check value of a retained copy (R96). -/

namespace Sys2Proof.Machine

/-- One bit of the CRC-32 with polynomial 04C11DB7h, input and output bit-reflected (R96). -/
def crc32Bit (c : BitVec 32) : BitVec 32 :=
  if c.getLsbD 0 then (c >>> 1) ^^^ 0xEDB88320 else c >>> 1

/-- One byte of the CRC-32 (R96). -/
def crc32Byte (c : BitVec 32) (b : Byte) : BitVec 32 :=
  let c := c ^^^ b.zeroExtend 32
  crc32Bit (crc32Bit (crc32Bit (crc32Bit (crc32Bit (crc32Bit (crc32Bit (crc32Bit c)))))))

/-- The CRC-32 of some bytes: initial value FFFFFFFFh, final value inverted (R96). -/
def crc32 (bytes : List Byte) : BitVec 32 := ~~~ (bytes.foldl crc32Byte 0xFFFFFFFF)

variable {α : Type}

/-- The check value of a write count and a content: the CRC-32 over the count, least significant byte first, followed
by the content in the order the copy holds it, which is a free value (R96, assumption 7). -/
def copyCheck (count : BitVec 32) (content : α) : BitVec 32 :=
  crc32 (u32 count.toNat ++ Config.copyBytes content)

/-- A copy is sound when its check value matches its write count and content (R96). -/
def Copy.sound (c : Copy α) : Bool := c.check = copyCheck c.count c.content

/-- A copy written in every part (R96). -/
def sealedCopy (count : BitVec 32) (content : α) : Copy α := ⟨content, count, copyCheck count content⟩

/-- A copy whose check value does not match: `check` where it differs from the right value, else that value inverted. -/
def unsoundCopy (count check : BitVec 32) (content : α) : Copy α :=
  ⟨content, count, if check = copyCheck count content then ~~~ check else check⟩

/-- A region with two sound copies of one content and no write in flight, as every start leaves it (R100, R105;
assumption 8). -/
def freshRegion (count : BitVec 32) (content : α) : Region α :=
  { copy1 := sealedCopy count content
    copy2 := sealedCopy count content
    second := false
    inFlight := none
    held := false }

end Sys2Proof.Machine
end

