-- ==== Sys2Proof/Machine/Defaults.lean ====
section
/-! DEFINITION. The defaults that a region found DEFAULTED takes (R101), and the state each block takes at a start. -/

namespace Sys2Proof.Machine

/-- The default meter record (R13). -/
def defaultMeter : MeterRecord :=
  { present := false, q := 10000, reverseLimit := 200, creepThreshold := 50, phaseThreshold := 4, runUp := 800
    runOn := 10 }

/-- The default price table: every grade closed (R46). -/
def defaultPrices : PriceTable := .fill { price1 := 0, price2 := 0, slowDown := 50, vapour := false }

/-- The default hose table: every entry disabled, grade 1 and meter 1 (R47). -/
def defaultHoses : HoseTable := .fill (.fill { grade := .g1, meter := .m1, enabled := false })

/-- The default point timing record (R48). -/
def defaultTiming : PointTiming := { quiet := 1000, noFlow := 60, authTimeout := 0, divider := 100 }

/-- The default display settings (R107). -/
def defaultDisplay : DisplaySettings := { amountDecimals := 2, volumeDecimals := 2, priceDecimals := 3, holdTime := 15 }

/-- The default gate settings (R151). -/
def defaultGate : GateSettings := { holdThreshold := 6, errorThreshold := 4, bootTime := 2000, echo := false }

/-- The default comparator settings (R156). -/
def defaultSense : Oct SenseSettings :=
  { e1 := { kf := 6, kr := 8, failMs := 20, recoverMs := 2000 }
    e2 := { kf := 5, kr := 7, failMs := 50, recoverMs := 500 }
    e3 := { kf := 6, kr := 8, failMs := 100, recoverMs := 200 }
    e4 := { kf := 6, kr := 8, failMs := 20, recoverMs := 200 }
    e5 := { kf := 6, kr := 8, failMs := 50, recoverMs := 200 }
    e6 := { kf := 6, kr := 8, failMs := 50, recoverMs := 200 }
    e7 := { kf := 7, kr := 9, failMs := 2000, recoverMs := 10000 }
    e8 := { kf := 7, kr := 9, failMs := 2000, recoverMs := 10000 } }

/-- The default step table (R159). Steps 7 and 8 name no load, and the table gives them no action; the model takes ON,
which is not used and which READ_SEQUENCE returns (DESIGN CHOICE, assumption 44). -/
def defaultSteps : List PowerStep :=
  [ { load := some .pulserSupply, turnOn := true, settle := 100, check := .condition .pulserSupply, timeout := 5
      onFail := .abort },
    { load := some .valveSupply, turnOn := true, settle := 100, check := .condition .valveSupply, timeout := 5
      onFail := .abort },
    { load := some .heaterA, turnOn := true, settle := 0, check := .condition .warmA, timeout := 900
      onFail := .proceed },
    { load := some .heaterB, turnOn := true, settle := 0, check := .condition .warmB, timeout := 900
      onFail := .proceed },
    { load := some .displayA, turnOn := true, settle := 100, check := .condition .displaySupply, timeout := 5
      onFail := .abort },
    { load := some .displayB, turnOn := true, settle := 100, check := .condition .displaySupply, timeout := 5
      onFail := .abort },
    { load := none, turnOn := true, settle := 0, check := .displayTest .a, timeout := 5, onFail := .proceed },
    { load := none, turnOn := true, settle := 0, check := .displayTest .b, timeout := 5, onFail := .proceed },
    { load := some .reader, turnOn := true, settle := 100, check := .readerOpen, timeout := 30
      onFail := .proceed } ]

/-- The default schedule: both minutes absent, both wake lines enabled (R179). -/
def defaultSchedule : Schedule := { night := none, wake := none, nozzleWake := true, cardWake := true }

/-- The default report modes: every condition in ON_CHANGE (R190). -/
def defaultModes : ReportModes :=
  { meterFault := .fill .onChange, meterCreep := .fill .onChange, valveFault := .fill .onChange
    emergencyStop := .onChange, displayFault := .fill .onChange, tamper := .onChange, sense := .fill .onChange }

/-- The content of a CONFIG region found DEFAULTED (R101). -/
def defaultConfig : ConfigImage :=
  { meters := .fill defaultMeter
    rounding := .halfUp
    ptu := { published := [⟨0, defaultPrices⟩], newest := 0, staging := defaultPrices }
    hoses := defaultHoses
    timings := .fill defaultTiming
    display := defaultDisplay
    gate := defaultGate
    sense := defaultSense
    steps := defaultSteps
    schedule := defaultSchedule
    spacing := 1500
    intended := .night
    modes := defaultModes
    policy := .keepOldest
    silenceTime := 0 }

/-- The content of a TOTALS region found DEFAULTED, with these totalization marks (R101). -/
def defaultTotals (marks : Pair (Option Nat)) : Totals :=
  { meterVolume := .fill 0, meterCount := .fill 0, gradeVolume := .fill 0, gradeAmount := .fill 0, marks := marks }

/-- One point's part of a DELIVERIES region found DEFAULTED (R101). -/
def defaultSaved : SavedPoint :=
  { current := none, previous := none, lastSeq := 0, st := .settled, held := true, figuresAt := none, table := none }

/-- A meter channel at a start (R17). -/
def startChannel (record : MeterRecord) (now : Nat) : Channel :=
  { record := record, reference := none, counter := 0, windowCount := 0, lastWindow := 0, windowDue := now + 1000
    errorTotal := 0, fault := false, creepCount := 0, creep := false, holder := none, snapshot := 0, reverse := 0
    reversePassed := false, slow := none, stop := none, mainOpen := false, slowOpen := false, mismatchSince := none
    valveFault := false }

/-- A pulse output at a start (R92). -/
def startPou (now : Nat) : Pou :=
  { tracked := none, vapour := false, divider := 1, generating := false, high := 0, residue := 0, queue := []
    phase := .ready, phaseSince := now }

/-- A display side at a start, showing these figures, with its first refresh instant (R109, R127). -/
def startSide (shown : Shown) (refreshDue : Nat) : DduSide :=
  { counts := List.replicate 28 0, faulted := List.replicate 28 false, sideFault := false, shown := shown
    driven := List.replicate 28 .blank, zero := .none, test := none, hold := .none, refreshDue := refreshDue }

/-- The gate at a start, before the tamper line is read (R153). -/
def startCrg (settings : GateSettings) (now : Nat) : Crg :=
  { st := .off, cause := none, counter := 0, session := none, identity := none, readerToggle := false
    gateToggle := false, inbound := [], outbound := [], miss := 0, errors := 0, errorDue := now + 1000, attempts := 0
    losses := [], flushed := 0, run := none, settings := settings, offDue := none, attemptDue := now, bootDue := none
    pollDue := now, pollOwed := false, exchange := none, verdict := .none, lastGood := none, sent := [] }

/-- Every load's drive off (R181). -/
def noDrives : Drives :=
  { pulserSupply := false, valveSupply := false, displayA := false, displayB := false, heaterA := false
    heaterB := false, reader := false, aux1 := false, aux2 := false }

/-- The voltage of ladder level k, in millivolts (R154). -/
def ladder (k : Nat) : Nat := 64 * (k + 4)

/-- A comparator at a start: bad, its recover timer running against its input (R155). -/
def startSensor (settings : SenseSettings) (millivolts now : Nat) : Sensor :=
  { good := false, settings := settings, since := if ladder settings.kr ≤ millivolts then some now else none }

/-- The eight comparators at a start. -/
def startSensors (settings : Oct SenseSettings) (mv : Oct Nat) (now : Nat) : Oct Sensor :=
  { e1 := startSensor settings.e1 mv.e1 now, e2 := startSensor settings.e2 mv.e2 now
    e3 := startSensor settings.e3 mv.e3 now, e4 := startSensor settings.e4 mv.e4 now
    e5 := startSensor settings.e5 mv.e5 now, e6 := startSensor settings.e6 mv.e6 now
    e7 := startSensor settings.e7 mv.e7 now, e8 := startSensor settings.e8 mv.e8 now }

/-- The PSC at a start (R181). -/
def startPsc (c : ConfigImage) (mv : Oct Nat) (now : Nat) : Psc :=
  { sensors := startSensors c.sense mv now, power := .night, intended := c.intended, wakePending := none
    drives := noDrives, steps := c.steps, cursor := none, retries := 0, lastFailure := none, shutdown := []
    shutdownDue := now, startQueue := [], lastGrant := now, spacing := c.spacing, clock := ⟨0, 0⟩, clockSet := false
    secondDue := now + 1000, schedule := c.schedule }

/-- The HLP at a start, with the START report as the first entry of the queue (R195, R196). -/
def startHlp (c : ConfigImage) (cause : StartCause) (vc vt vd : Validity) : Hlp :=
  { rx := .hunt, buffer := [], hand := none, frameErrors := 0, overruns := 0
    reports := [⟨.none, ⟨0, 0⟩, .start cause vc vt vd⟩], lost := 0, lastFetch := none, policy := c.policy
    modes := c.modes, silenceTime := c.silenceTime, silence := if c.silenceTime = 0 then .off else .stopped
    startCause := cause }

/-- The DLE's tables at a start (R83). -/
def startDle (c : ConfigImage) : Dle :=
  { holders := .fill none, waiters := .fill none, motors := .fill { st := .off, onSince := 0, runOnDue := none }
    hoses := c.hoses, timings := c.timings, rounding := c.rounding }

/-- A point at a start: FINISHED when its current record is final, CLOSED otherwise (R83). -/
def startPoint (p : SavedPoint) (generation : Nat) : PointData :=
  { st := if (p.current.map (·.final)).getD false then .finished else .closed
    auth := none, authTimeout := 0, authDue := none, position := none, generation := generation
    current := p.current, previous := p.previous, lastSeq := p.lastSeq, saleTable := p.table, figuresAt := p.figuresAt
    zeroPassed := false, noFlowDue := none, quietDue := none, reportOwed := false }

/-- The retained memory at a start: each region with two sound copies, no write in flight and no change held (R105). -/
def startRtm (c : ConfigImage) (t : Totals) (d : DeliveriesImage) (nc nt nd : BitVec 32) (vc vt vd : Validity) : Rtm :=
  { config := freshRegion nc c, totals := freshRegion nt t, deliveries := freshRegion nd d, unwritten := [], carried := []
    owed := [], dirtyConfig := false, dirtyDeliveries := false, configValidity := vc, totalsValidity := vt
    deliveriesValidity := vd }

end Sys2Proof.Machine
end

