-- ==== Sys2Proof/Machine/State.lean ====
section
/-! DEFINITION. The state of the part, its faults and refusals, and the state right after reset. -/

namespace Sys2Proof.Machine

/-- The reasons a step can stop with a fault. There are none: the manual gives every command its effect, or says that
it changes nothing, in every state. -/
inductive Fault where
  deriving DecidableEq, Repr

/-- The reasons a step can refuse a command. -/
inductive Refusal where
  /-- A row of the table that has no meaning yet. Raised by exec's arm of that row alone; safe. No arm raises it. -/
  | notModelled (mnemonic : String)
  deriving DecidableEq, Repr

/-- The state of the Modrin 4120. `now` counts milliseconds and only rises (assumption 2); `powered` is false from a
fall of the supply or an assertion of RESET to the next start; `pending` is the model's queue of commands that wait. -/
structure State where
  now : Nat
  powered : Bool
  pins : Pins
  hlp : Hlp
  miu : Quad Channel
  dle : Dle
  points : Pair PointData
  ptu : Ptu
  pou : Pair Pou
  ddu : Pair DduSide
  display : DisplaySettings
  crg : Crg
  psc : Psc
  rtm : Rtm
  pending : List Instr
  deriving DecidableEq, Repr

/-- The levels of the inputs at reset: nozzles down, valves sensed closed, lines released, calibration switch off, no
voltage at a comparator (DESIGN CHOICE, assumption 9). -/
def restingPins : Pins :=
  { nozzles := .fill (.fill false), mainSense := .fill false, slowSense := .fill false, emergency := false
    tamper := false, calibration := false, millivolts := .fill 0 }

/-- The machine right after reset: a power-on start of a part whose retained memory holds nothing sound, so that every
region is DEFAULTED (R17, R45, R46, R83, R92, R101, R105, R127, R153, R181, R195, R196; assumption 10). -/
def State.reset : State :=
  { now := 0
    powered := true
    pins := restingPins
    hlp := startHlp defaultConfig .standby .defaulted .defaulted .defaulted
    miu := .fill (startChannel defaultMeter 0)
    dle := startDle defaultConfig
    points := .fill (startPoint defaultSaved 0)
    ptu := defaultConfig.ptu
    pou := .fill (startPou 0)
    ddu := ⟨startSide ⟨0, 0, false⟩ 0, startSide ⟨0, 0, false⟩ 50⟩
    display := defaultDisplay
    crg := startCrg defaultGate 0
    psc := startPsc defaultConfig (.fill 0) 0
    rtm := startRtm defaultConfig (defaultTotals (.fill none)) (.fill defaultSaved) 0 0 0 .defaulted .defaulted
      .defaulted
    pending := [] }

end Sys2Proof.Machine
end

