-- ==== Sys2Proof/Machine/Arithmetic.lean ====
section
/-! DEFINITION. The computations of chapter 2: from a net count to millilitres, centilitres and money, and from a target
back to the two counts at which a meter slows and stops. -/

namespace Sys2Proof.Machine

/-! ## From the count to money -/

/-- The net count: counter minus snapshot modulo 2^32, read as a signed number (R18). -/
def netCount (counter snapshot : BitVec 32) : Int := (counter - snapshot).toInt

/-- The count the formulas use: 0 where the net count is negative (R18). -/
def countOf (net : Int) : Nat := net.toNat

/-- V_ml, the internal volume in millilitres (R19). -/
def millilitres (n q : Nat) : Nat := n * 10000 / q

/-- V_cl before the record ceiling (R19). -/
def rawCentilitres (n q : Nat) : Nat := millilitres n q / 10

/-- The record ceiling (R19). -/
def recordCeiling : Nat := 9999999

/-- V_cl, the legal volume (R19). -/
def legalVolume (n q : Nat) : Nat := min recordCeiling (rawCentilitres n q)

/-- The amount of a volume, written R in chapter 2 (R20). -/
def amountOf (mode : Rounding) (price volume : Nat) : Nat :=
  match mode with
  | .halfUp => (volume * price + 500) / 1000
  | .down => volume * price / 1000

/-! ## Targets (R23 to R26) -/

/-- The volume cap (R23). -/
def volumeCap : Nat := 999999

/-- The highest figure of a six-digit window (R32), and the limit of the amount cap (R25). -/
def sixDigits : Nat := 999999

/-- The amount-preset candidate (R24). -/
def amountPresetTarget (mode : Rounding) (price preset : Nat) : Nat :=
  match mode with
  | .halfUp => ceilDiv (1000 * preset - 500) price
  | .down => ceilDiv (1000 * preset) price

/-- The amount-limit candidate (R25). -/
def amountLimitTarget (mode : Rounding) (price limit : Nat) : Nat :=
  match mode with
  | .halfUp => (1000 * limit + 499) / price
  | .down => (1000 * limit + 999) / price

/-- The candidate of a preset (R23). -/
def presetTarget (mode : Rounding) (price : Nat) (p : Preset) : Nat :=
  match p.kind with
  | .volume => p.value
  | .amount => amountPresetTarget mode price p.value

/-- The candidates of an authorization at a price, each with its source name, in the order in which a tie is decided:
preset, limits, caps (R23, R26). -/
def candidates (mode : Rounding) (price : Nat) (a : Authorization) : List (Nat × Source) :=
  (a.preset.map fun p => (presetTarget mode price p, Source.preset)).toList
    ++ (a.volumeLimit.map fun l => (l, Source.limit)).toList
    ++ (a.amountLimit.map fun l => (amountLimitTarget mode price l, Source.limit)).toList
    ++ [(volumeCap, .capacity), (amountLimitTarget mode price sixDigits, .capacity)]

/-- The first least candidate of a list (R26). -/
def leastCandidate : Nat × Source → List (Nat × Source) → Nat × Source
  | best, [] => best
  | best, c :: rest => leastCandidate (if c.1 < best.1 then c else best) rest

/-- The effective target and its source (R26). -/
def effectiveTarget (mode : Rounding) (price : Nat) (a : Authorization) : Nat × Source :=
  match candidates mode price a with
  | [] => (volumeCap, .capacity)
  | c :: rest => leastCandidate c rest

/-- N_stop, the stop count of a target (R28). -/
def stopCount (target q : Nat) : Nat := ceilDiv (target * q) 1000

/-- N_slow, the slow-down count of a target and a slow-down distance (R29). -/
def slowCount (target distance q : Nat) : Nat :=
  if distance < target then ceilDiv ((target - distance) * q) 1000 else 0

/-- The whole target of a delivery (R26, R28, R29). -/
def targetOf (mode : Rounding) (price distance q : Nat) (a : Authorization) : Target :=
  let (volume, source) := effectiveTarget mode price a
  { volume := volume
    source := source
    presetCut := match a.preset with
      | some p => decide (volume < presetTarget mode price p)
      | none => false
    nSlow := slowCount volume distance q
    nStop := stopCount volume q }

/-! ## Figures and flags -/

/-- A record with the running or final figures of a net count, by its own Q, price and rounding mode (R22, R30). -/
def DeliveryRecord.figured (r : DeliveryRecord) (net : Int) (reverse : Nat) : DeliveryRecord :=
  let v := legalVolume (countOf net) r.q
  { r with net := net, reverse := reverse, volume := v, amount := amountOf r.rounding r.price v }

/-- OVERRUN of final figures (R31). -/
def overran (preset : Option Preset) (volume amount : Nat) : Bool :=
  match preset with
  | none => false
  | some p => match p.kind with
    | .volume => decide (p.value < volume)
    | .amount => decide (p.value < amount)

/-- The limit of an optional ceiling is passed. -/
def passes (limit : Option Nat) (figure : Nat) : Bool :=
  match limit with
  | none => false
  | some l => decide (l < figure)

/-- A record with the flags that depend on its final figures; the others stand as they were (R31). -/
def DeliveryRecord.flagged (r : DeliveryRecord) : DeliveryRecord :=
  { r with flags := { r.flags with
      overrun := overran r.preset r.volume r.amount
      limitExceeded := passes r.amountLimit r.amount || passes r.volumeLimit r.volume
      clamped := decide (sixDigits < r.volume) || decide (sixDigits < r.amount)
        || decide (recordCeiling < rawCentilitres (countOf r.net) r.q) } }

/-- A figure as a six-digit window shows it (R32). -/
def windowFigure (n : Nat) : Nat := min sixDigits n

end Sys2Proof.Machine
end

