-- ==== Sys2Proof/Machine/Ops.lean ====
section
/-! DEFINITION. The operations every block shares: reading and replacing one point, meter, side or output of the state,
the model's clock, the conditions and the report queue. -/

namespace Sys2Proof.Machine

/-! ## One entry of a table of the state -/

/-- The data of a point. -/
def State.point (s : State) (p : Point) : PointData := s.points.get p

/-- The state with a function applied to one point. -/
def State.mapPoint (s : State) (p : Point) (f : PointData → PointData) : State :=
  { s with points := s.points.set p (f (s.points.get p)) }

/-- The channel of a meter. -/
def State.channel (s : State) (m : Meter) : Channel := s.miu.get m

/-- The state with a function applied to one channel. -/
def State.mapChannel (s : State) (m : Meter) (f : Channel → Channel) : State :=
  { s with miu := s.miu.set m (f (s.miu.get m)) }

/-- A display side. -/
def State.side (s : State) (x : Side) : DduSide := s.ddu.get x

/-- The state with a function applied to one side. -/
def State.mapSide (s : State) (x : Side) (f : DduSide → DduSide) : State :=
  { s with ddu := s.ddu.set x (f (s.ddu.get x)) }

/-- The state with a function applied to one pulse output. -/
def State.mapPou (s : State) (p : Point) (f : Pou → Pou) : State :=
  { s with pou := s.pou.set p (f (s.pou.get p)) }

/-- The motor of a meter. -/
def State.motor (s : State) (m : Meter) : Motor := s.dle.motors.get m

/-- The state with one motor replaced. -/
def State.setMotor (s : State) (m : Meter) (x : Motor) : State :=
  { s with dle := { s.dle with motors := s.dle.motors.set m x } }

/-- The state with a function applied to the gate. -/
def State.mapCrg (s : State) (f : Crg → Crg) : State := { s with crg := f s.crg }

/-- The state with a function applied to the power controller. -/
def State.mapPsc (s : State) (f : Psc → Psc) : State := { s with psc := f s.psc }

/-- The state with a function applied to the host link port. -/
def State.mapHlp (s : State) (f : Hlp → Hlp) : State := { s with hlp := f s.hlp }

/-- The state with a function applied to the retained memory. -/
def State.mapRtm (s : State) (f : Rtm → Rtm) : State := { s with rtm := f s.rtm }

/-- The state with a function applied to the current record of a point, if there is one. -/
def State.mapCurrent (s : State) (p : Point) (f : DeliveryRecord → DeliveryRecord) : State :=
  s.mapPoint p fun d => { d with current := d.current.map f }

/-- The hose entry of a position of a point (R47). -/
def State.hose (s : State) (p : Point) (k : Position) : HoseEntry := (s.dle.hoses.get p).at k

/-! ## Time -/

/-- The state at a moment that has been reached: the model's clock never falls (assumption 2). -/
def State.reach (s : State) (due : Nat) : State := { s with now := max s.now due }

/-- The day clock as a timestamp ("Time" of 00_scope.md). -/
def State.stamp (s : State) : Stamp := s.psc.clock

/-! ## What the blocks tell each other -/

/-- The value of the condition a comparator gives (R155). -/
def State.good (s : State) (c : Comparator) : Bool := (s.psc.sensors.sc c).good

/-- The meter that a point holds, if any (R58). -/
def State.heldBy (s : State) (p : Point) : Option Meter :=
  Meter.all.find? fun m => decide (s.dle.holders.get m = some p)

/-- The meter that a point waits for, if any (R58). -/
def State.awaitedBy (s : State) (p : Point) : Option Meter :=
  Meter.all.find? fun m => decide (s.dle.waiters.get m = some p)

/-- Whether a point holds its meter. -/
def State.holds (s : State) (p : Point) : Bool := (s.heldBy p).isSome

/-- Whether a channel decodes (R2). -/
def State.decoding (s : State) (m : Meter) : Bool := (s.channel m).record.present && s.good .pulserSupply

/-- Whether a meter is unusable (R4). -/
def State.unusable (s : State) (m : Meter) : Bool :=
  let c := s.channel m
  !c.record.present || c.fault || c.valveFault

/-- Whether the nozzle of a position is up. -/
def State.up (s : State) (p : Point) (k : Position) : Bool := (s.pins.nozzles.get p).at k

/-- The lowest position of a point whose nozzle is up (R57). -/
def State.lowestUp (s : State) (p : Point) : Option Position := Position.all.find? (s.up p)

/-- The generation of a number, if it is published (R40, R43). -/
def Ptu.find (t : Ptu) (number : Nat) : Option Generation :=
  t.published.find? fun g => decide (g.number = number)

/-- A price at a level; 0 is closed (R33). -/
def GradeEntry.price (e : GradeEntry) : Level → Nat
  | .one => e.price1
  | .two => e.price2

/-- The price lookup by generation and grade (R40). An unpublished number is no case of the rule; it reads as a closed
grade (assumption 25). -/
def Ptu.entry (t : Ptu) (number : Nat) (g : Grade) : GradeEntry :=
  match t.find number with
  | some gen => gen.table.get g
  | none => { price1 := 0, price2 := 0, slowDown := 0, vapour := false }

/-- The power state is RUN or DRAINING, the states in which the points are open. -/
def State.pointsOpen (s : State) : Bool := decide (s.psc.power = .run) || decide (s.psc.power = .draining)

/-- A free state of a point (R38). -/
def PointSt.free : PointSt → Bool
  | .closed => true
  | .idle => true
  | .calling => true
  | _ => false

/-- AUTHORIZED…STOPPING (R79, R169). -/
def PointSt.selling : PointSt → Bool
  | .authorized => true
  | .starting => true
  | .fuelling => true
  | .slowing => true
  | .stopping => true
  | _ => false

/-- STARTING…STOPPING. -/
def PointSt.delivering : PointSt → Bool
  | .starting => true
  | .fuelling => true
  | .slowing => true
  | .stopping => true
  | _ => false

/-- FUELLING or SLOWING: the states in which a valve may be open (R63). -/
def PointSt.flowing : PointSt → Bool
  | .fuelling => true
  | .slowing => true
  | _ => false

/-- The number of a report's condition, 1 to 24 (R189, R197). -/
def Condition.number : Condition → Nat
  | .meterFault m => m.number
  | .meterCreep m => 4 + m.number
  | .valveFault m => 8 + m.number
  | .emergencyStop => 13
  | .displayFault x => 13 + x.number
  | .tamper => 16
  | .sense c => 16 + c.number

/-- The 24 conditions in the order of the table of R189. -/
def Condition.all : List Condition :=
  Meter.all.map .meterFault ++ Meter.all.map .meterCreep ++ Meter.all.map .valveFault
    ++ [.emergencyStop, .displayFault .a, .displayFault .b, .tamper] ++ Comparator.all.map .sense

/-- The present value of a condition (R189). -/
def State.condition (s : State) : Condition → Bool
  | .meterFault m => (s.channel m).fault
  | .meterCreep m => (s.channel m).creep
  | .valveFault m => (s.channel m).valveFault
  | .emergencyStop => s.pins.emergency
  | .displayFault x => (s.side x).sideFault
  | .tamper => s.pins.tamper
  | .sense c => s.good c

/-- The target a condition's report names (R189). -/
def Condition.target : Condition → ReportTarget
  | .meterFault m => .meter m
  | .meterCreep m => .meter m
  | .valveFault m => .meter m
  | .emergencyStop => .none
  | .displayFault x => .side x
  | .tamper => .none
  | .sense .warmA => .side .a
  | .sense .warmB => .side .b
  | .sense _ => .none

/-- The report mode of a condition (R189). -/
def ReportModes.of (t : ReportModes) : Condition → ReportMode
  | .meterFault m => t.meterFault.get m
  | .meterCreep m => t.meterCreep.get m
  | .valveFault m => t.valveFault.get m
  | .emergencyStop => t.emergencyStop
  | .displayFault x => t.displayFault.get x
  | .tamper => t.tamper
  | .sense c => t.sense.sc c

/-! ## The report queue (R186) -/

/-- The most entries the report queue holds. -/
def reportRoom : Nat := 32

/-- A post taken by the report queue (R186). -/
def Hlp.post (h : Hlp) (r : Report) : Hlp :=
  if h.reports.length < reportRoom then { h with reports := h.reports ++ [r] }
  else match h.policy with
    | .keepOldest => { h with lost := satAdd 255 h.lost 1 }
    | .keepNewest => { h with reports := h.reports.drop 1 ++ [r], lost := satAdd 255 h.lost 1 }

/-- A block posts a report, stamped with the day clock (R186). -/
def State.post (s : State) (target : ReportTarget) (data : ReportData) : State :=
  { s with hlp := s.hlp.post ⟨target, s.stamp, data⟩ }

/-- Whether a change of a condition to a value becomes a report under a mode (R189). -/
def ReportMode.reports : ReportMode → Bool → Bool
  | .off, _ => false
  | .onSet, v => v
  | .onChange, _ => true

/-- A block posts a change of a condition, already made, to a value (R189). -/
def State.changed (s : State) (c : Condition) (value : Bool) : State :=
  if (s.hlp.modes.of c).reports value then s.post c.target (.condition c value) else s

/-- ATTN (R188). -/
def Hlp.attn (h : Hlp) : Bool := !h.reports.isEmpty || decide (h.lost ≠ 0)

end Sys2Proof.Machine
end

