-- ==== Sys2Proof/Machine/Retained.lean ====
section
/-! DEFINITION. The Retained Memory while the part runs: the totalizers, the images of the regions, and the writes
(R93, R94, R96, R97, R99). -/

namespace Sys2Proof.Machine

variable {α : Type}

/-! ## The totalizers -/

/-- The modulus of the volume and amount totals (R93). -/
def totalModulus : Nat := 10 ^ 12

/-- The modulus of the delivery counts (R93). -/
def countModulus : Nat := 10 ^ 9

/-- One TOTALS write of a finalization: the sale added when its volume is not 0, and the point's mark set in every case
(R94). A finalization whose number the mark already holds adds nothing. -/
def Totals.add (t : Totals) (x : Addition) : Totals :=
  if t.marks.get x.point = some x.seq then t
  else
    let t := if x.volume = 0 then t else
      { t with
        meterVolume := t.meterVolume.set x.meter ((t.meterVolume.get x.meter + x.volume) % totalModulus)
        meterCount := t.meterCount.set x.meter ((t.meterCount.get x.meter + 1) % countModulus)
        gradeVolume := t.gradeVolume.set x.grade ((t.gradeVolume.get x.grade + x.volume) % totalModulus)
        gradeAmount := t.gradeAmount.set x.grade ((t.gradeAmount.get x.grade + x.amount) % totalModulus) }
    { t with marks := t.marks.set x.point (some x.seq) }

/-- What the finalization of a record adds (R94). -/
def additionOf (p : Point) (r : DeliveryRecord) : Addition :=
  { point := p, seq := r.seq, meter := r.meter, grade := r.grade, volume := r.volume, amount := r.amount }

/-! ## The images -/

/-- The content of CONFIG as it stands in the blocks (6.3). -/
def State.configImage (s : State) : ConfigImage :=
  { meters := s.miu.map (·.record)
    rounding := s.dle.rounding
    ptu := s.ptu
    hoses := s.dle.hoses
    timings := s.dle.timings
    display := s.display
    gate := s.crg.settings
    sense := s.psc.sensors.map (·.settings)
    steps := s.psc.steps
    schedule := s.psc.schedule
    spacing := s.psc.spacing
    intended := s.psc.intended
    modes := s.hlp.modes
    policy := s.hlp.policy
    silenceTime := s.hlp.silenceTime }

/-- The point's state as the point state record keeps it; a final record stands SETTLED (R99). -/
def savedState (st : PointSt) (held final : Bool) : SavedSt :=
  if final then .settled
  else match st with
    | .starting => if held then .startingHeld else .settled
    | .fuelling => .running
    | .slowing => .running
    | .stopping => .stopping
    | _ => .settled

/-- One point's part of the DELIVERIES region (R99). -/
def State.savedPoint (s : State) (p : Point) : SavedPoint :=
  let d := s.point p
  { current := d.current
    previous := d.previous
    lastSeq := d.lastSeq
    st := savedState d.st (s.holds p) ((d.current.map (·.final)).getD false)
    held := match d.st with
      | .starting => s.holds p
      | _ => true
    figuresAt := d.figuresAt
    table := d.saleTable }

/-- The content of DELIVERIES as it stands in the blocks (R99). -/
def State.deliveriesImage (s : State) : DeliveriesImage := ⟨s.savedPoint .a, s.savedPoint .b⟩

/-! ## The copies and their writes -/

/-- The current copy: the one written last (R96). -/
def Region.current (r : Region α) : Copy α := if r.second then r.copy2 else r.copy1

/-- The region with the copy that is not current replaced, the current one staying current. -/
def Region.setOther (r : Region α) (c : Copy α) : Region α :=
  if r.second then { r with copy1 := c } else { r with copy2 := c }

/-- The end of a write: the copy that was written holds the next count, the content and the check value, and becomes
the current one (R96). -/
def Region.finish (r : Region α) : Region α :=
  match r.inFlight with
  | none => r
  | some content =>
    let r' := r.setOther (sealedCopy (r.current.count + 1) content)
    { r' with second := !r.second, inFlight := none }

/-- A write begins with a content (R97). -/
def Region.begin (r : Region α) (content : α) : Region α := { r with inFlight := some content, held := false }

/-- A change is taken: it begins a write when it may, and is held for a further write otherwise (R97). -/
def Region.change (r : Region α) (free : Bool) (content : α) : Region α :=
  if free && r.inFlight.isNone then r.begin content else { r with held := true }

/-- The DELIVERIES region may begin a write: no TOTALS write of a finalization is owed or in flight (R97). -/
def Rtm.deliveriesFree (r : Rtm) : Bool := r.owed.isEmpty && r.totals.inFlight.isNone

/-- The event changed the content of CONFIG. -/
def State.touchConfig (s : State) : State := s.mapRtm fun r => { r with dirtyConfig := true }

/-- The event changed the content of DELIVERIES. -/
def State.touchDeliveries (s : State) : State := s.mapRtm fun r => { r with dirtyDeliveries := true }

/-- A write of DELIVERIES begins with a content; the additions that waited for it go with it (R97). -/
def Rtm.beginDeliveries (r : Rtm) (image : DeliveriesImage) : Rtm :=
  { r with deliveries := r.deliveries.begin image, carried := r.carried ++ r.unwritten, unwritten := [] }

/-- The RTM takes a change of DELIVERIES whose content is now `image`: a write begins when it may, and the change is
held for a further write otherwise (R97). -/
def Rtm.takeDeliveries (r : Rtm) (image : DeliveriesImage) : Rtm :=
  if r.deliveriesFree && r.deliveries.inFlight.isNone then r.beginDeliveries image
  else { r with deliveries := { r.deliveries with held := true } }

/-- The changes of DELIVERIES made so far in this event are handed to the RTM (R97). -/
def State.commitDeliveries (s : State) : State :=
  if s.rtm.dirtyDeliveries then
    let image := s.deliveriesImage
    s.mapRtm fun r => { r with dirtyDeliveries := false }.takeDeliveries image
  else s

/-- What no write of DELIVERIES has begun to carry yet, a pulse credited or a flag set since the last one, becomes a
change of the region; where the last write carried everything, nothing changes (R99, R105). -/
def State.retainDeliveries (s : State) : State :=
  if s.deliveriesImage = s.rtm.deliveries.inFlight.getD s.rtm.deliveries.current.content then s
  else s.touchDeliveries

/-- The changes of CONFIG made so far in this event are handed to the RTM (R97). -/
def State.commitConfig (s : State) : State :=
  if s.rtm.dirtyConfig then
    let image := s.configImage
    s.mapRtm fun r => { r with dirtyConfig := false, config := r.config.change true image }
  else s

/-- The end of an event: its changes of retained content are handed to the RTM (R97). -/
def State.commit (s : State) : State := s.commitConfig.commitDeliveries

/-- The next owed TOTALS write begins when none is in flight (R94, R97). -/
def Rtm.pumpTotals (r : Rtm) : Rtm :=
  match r.totals.inFlight, r.owed with
  | none, x :: rest => { r with owed := rest, totals := r.totals.begin (r.totals.current.content.add x) }
  | _, _ => r

/-- A held change of DELIVERIES begins its write once nothing forbids it, with the content as it stands then (R97). Where a
final record was held and its move to the previous place came after it, that one write carries both, and the addition
follows it (DEDUCED, assumption 50). -/
def State.pumpDeliveries (s : State) : State :=
  let image := s.deliveriesImage
  if s.rtm.deliveries.held && s.rtm.deliveries.inFlight.isNone && s.rtm.deliveriesFree then
    s.mapRtm (·.beginDeliveries image)
  else s

/-- The totalizers and marks as they stand in the TOTALS region (R95). -/
def State.totals (s : State) : Totals := s.rtm.totals.current.content

/-- A finalization hands the RTM its addition and its final record: the write of DELIVERIES comes first (R70, R94,
R97). -/
def State.handFinalization (s : State) (p : Point) (r : DeliveryRecord) : State :=
  (s.mapRtm fun t => { t with unwritten := t.unwritten ++ [additionOf p r], dirtyDeliveries := true }).commitDeliveries

/-- No write is in flight and none is held or owed (R105). -/
def Rtm.idle (r : Rtm) : Bool :=
  r.config.inFlight.isNone && r.totals.inFlight.isNone && r.deliveries.inFlight.isNone
    && !r.config.held && !r.deliveries.held && r.owed.isEmpty && r.carried.isEmpty && r.unwritten.isEmpty

/-! ## The end of a write -/

/-- The write of CONFIG ends, and a held change begins a further one (R97). -/
def State.endConfigWrite (s : State) : State :=
  let image := s.configImage
  s.mapRtm fun r =>
    let c := r.config.finish
    { r with config := if c.held then c.begin image else c }

/-- The write of TOTALS ends; the next owed one begins, or else a held change of DELIVERIES (R97). -/
def State.endTotalsWrite (s : State) : State :=
  (s.mapRtm fun r => { r with totals := r.totals.finish }.pumpTotals).pumpDeliveries

/-- The write of DELIVERIES ends; the additions of the final records it held begin their TOTALS writes, or else a held
change begins a further write (R97). -/
def State.endDeliveriesWrite (s : State) : State :=
  (s.mapRtm fun r =>
    { r with deliveries := r.deliveries.finish, owed := r.owed ++ r.carried, carried := [] }.pumpTotals).pumpDeliveries

/-- The write in flight of a region ends (R97). -/
def State.endWrite (s : State) : RegionName → State
  | .config => s.endConfigWrite
  | .totals => s.endTotalsWrite
  | .deliveries => s.endDeliveriesWrite

/-- A region has a write in flight. -/
def Rtm.writing (r : Rtm) : RegionName → Bool
  | .config => r.config.inFlight.isSome
  | .totals => r.totals.inFlight.isSome
  | .deliveries => r.deliveries.inFlight.isSome

end Sys2Proof.Machine
end

