-- ==== Sys2Proof/Machine/Meters.lean ====
section
/-! DEFINITION. The Meter Input Unit's own part of chapter 1: decoding, holds and compares, valves and their mismatch
timer. What the Delivery Engine does with its events stands in Delivery.lean. -/

namespace Sys2Proof.Machine

/-! ## Decoding (R1) -/

/-- The class of a sample against the decoder reference (R1). -/
inductive Step where
  | same
  | forward
  | backward
  | error
  deriving DecidableEq, Repr

/-- The pair of levels that a forward step leads to (R1). -/
def nextPair : Bool × Bool → Bool × Bool
  | (false, false) => (true, false)
  | (true, false) => (true, true)
  | (true, true) => (false, true)
  | (false, true) => (false, false)

/-- The classification table of R1. -/
def classify (reference sample : Bool × Bool) : Step :=
  if sample = reference then .same
  else if sample = nextPair reference then .forward
  else if reference = nextPair sample then .backward
  else .error

/-- The net count of a held channel (R6, R18). -/
def Channel.net (c : Channel) : Int := netCount c.counter c.snapshot

/-- A forward step's effect on the counter and, on an unheld meter, on the creep count (R1, R5). -/
def Channel.stepForward (c : Channel) : Channel :=
  { c with counter := c.counter + 1
           creepCount := if c.holder = none then satAdd 65535 c.creepCount 1 else c.creepCount }

/-- A backward step's effect on the counter and, on a held meter, on the reverse count (R1, R7). -/
def Channel.stepBackward (c : Channel) : Channel :=
  { c with counter := c.counter - 1
           reverse := if c.holder = none then c.reverse else satAdd 65535 c.reverse 1 }

/-- A phase error (R1). -/
def Channel.phaseError (c : Channel) : Channel :=
  { c with windowCount := satAdd 65535 c.windowCount 1, errorTotal := satAdd 65535 c.errorTotal 1 }

/-- The creep latch is due to set after a forward step of an unheld meter (R5). -/
def Channel.creepDue (c : Channel) : Bool :=
  decide (c.holder = none) && !c.creep && decide (c.record.creepThreshold ≤ c.creepCount)

/-- The reverse-limit event is due after a backward step of a held meter (R7). -/
def Channel.reverseDue (c : Channel) : Bool :=
  c.holder.isSome && !c.reversePassed && decide (c.record.reverseLimit ≠ 0)
    && decide (c.record.reverseLimit < c.reverse)

/-- A compare that fires at a net count (R9). -/
def compareFires (a : Option Armed) (net : Int) : Bool :=
  match a with
  | some x => !x.fired && decide ((x.point : Int) ≤ net)
  | none => false

/-- A compare marked fired (R9). -/
def markFired (a : Option Armed) : Option Armed := a.map fun x => { x with fired := true }

/-- A compare's fired flag; a disarmed one has not fired. -/
def hasFired (a : Option Armed) : Bool := (a.map (·.fired)).getD false

/-! ## Holds (R6, R8) -/

/-- A hold or a handover notice: the snapshot, the reverse count and the compares (R6, R8). -/
def Channel.hold (c : Channel) (p : Point) (nSlow nStop : Nat) : Channel :=
  { c with holder := some p, snapshot := c.counter, reverse := 0, reversePassed := false
           slow := if nSlow = 0 then none else some ⟨nSlow, false⟩
           stop := some ⟨nStop, false⟩ }

/-- A release notice (R6). -/
def Channel.release (c : Channel) : Channel := { c with holder := none, slow := none, stop := none }

/-! ## Windows and latches -/

/-- The move at the end of a phase-error window, which starts the next one (R3). -/
def Channel.windowMove (c : Channel) : Channel :=
  { c with lastWindow := c.windowCount, windowCount := 0, windowDue := c.windowDue + 1000 }

/-- What METER_RESET clears of a channel, its mismatch timer apart (R15). -/
def Channel.cleared (c : Channel) : Channel :=
  { c with fault := false, creep := false, valveFault := false, creepCount := 0, windowCount := 0, lastWindow := 0
           mismatchSince := none }

/-! ## Valves (R11, R12) -/

/-- A valve of a meter differs from its command while its sense is evaluated (R12). -/
def State.mismatched (s : State) (m : Meter) : Bool :=
  let c := s.channel m
  c.record.present && s.good .valveSupply
    && (decide (s.pins.mainSense.get m ≠ c.mainOpen) || decide (s.pins.slowSense.get m ≠ c.slowOpen))

/-- The mismatch timer after a change of a sense or of the valve supply: it starts, runs on, or stops (R12). -/
def State.retime (s : State) (m : Meter) : State :=
  let bad := s.mismatched m
  s.mapChannel m fun c =>
    { c with mismatchSince := if bad then some (c.mismatchSince.getD s.now) else none }

/-- The mismatch timer after a change of a command or a reset: it starts afresh if a mismatch remains (R12, R15). -/
def State.restartMismatch (s : State) (m : Meter) : State :=
  let bad := s.mismatched m
  s.mapChannel m fun c => { c with mismatchSince := if bad then some s.now else none }

/-- The DLE commands the two valves of a meter; a repeated command has no effect (R11). -/
def State.commandValves (s : State) (m : Meter) (main slow : Bool) : State :=
  let c := s.channel m
  if c.mainOpen = main ∧ c.slowOpen = slow then s
  else (s.mapChannel m fun c => { c with mainOpen := main, slowOpen := slow }).restartMismatch m

/-- The output of a valve: its command, held closed while the meter's record is not present (R11). -/
def Channel.output (c : Channel) : Valve → Bool
  | .main => c.mainOpen && c.record.present
  | .slow => c.slowOpen && c.record.present

/-- The moment a mismatch that has not been broken sets the valve fault, in milliseconds after it began (R12). -/
def mismatchTime : Nat := 50

/-- PULSER_SUPPLY_OK has become false: every channel is suspended (R2). -/
def State.suspendAll (s : State) : State := { s with miu := s.miu.map fun c => { c with reference := none } }

/-- A change of VALVE_SUPPLY_OK reaches every mismatch timer (R12). -/
def State.retimeAll (s : State) : State := Meter.all.foldl State.retime s

end Sys2Proof.Machine
end

