-- ==== Sys2Proof/Machine/Pulse.lean ====
section
/-! DEFINITION. The Pulse Output Unit (chapter 5). -/

namespace Sys2Proof.Machine

/-- The most pulses that wait (R88). -/
def pulseRoom : Nat := 255

/-- The start notice of a delivery (R85). -/
def Pou.startNotice (u : Pou) (seq : Nat) (m : Meter) (vapour : Bool) (divider : Nat) : Pou :=
  { u with tracked := some (seq, m), vapour := vapour, divider := divider, high := 0, residue := 0, generating := false }

/-- The valves-open notice of a delivery (R86). -/
def Pou.valvesOpen (u : Pou) : Pou := { u with generating := u.vapour }

/-- The end notice of a delivery (R90). -/
def Pou.endNotice (u : Pou) : Pou := { u with generating := false, tracked := none }

/-- A point's records with one more pulse for the record of a number: the current one, or else the previous one
(R90). -/
def PointData.credit (d : PointData) (tag : Nat) : PointData :=
  let raise (r : DeliveryRecord) : DeliveryRecord := { r with pulses := r.pulses + 1 }
  if d.current.any fun r => decide (r.seq = tag) then { d with current := d.current.map raise }
  else if d.previous.any fun r => decide (r.seq = tag) then { d with previous := d.previous.map raise }
  else d

/-- A final record of the point bears the number (R90). -/
def PointData.finalRecord (d : PointData) (tag : Nat) : Bool :=
  (d.current.any fun r => decide (r.seq = tag) && r.final) || (d.previous.any fun r => decide (r.seq = tag) && r.final)

/-- The head pulse of the queue is removed and credited, and the line goes high; with an empty queue the output is
READY. The credit of the last pulse of a final record begins a write of DELIVERIES (R89, R90). -/
def State.emit (s : State) (p : Point) : State :=
  match (s.pou.get p).queue with
  | [] => s.mapPou p fun u => { u with phase := .ready, phaseSince := s.now }
  | tag :: rest =>
    let s := (s.mapPou p fun u => { u with queue := rest, phase := .high, phaseSince := s.now }).mapPoint p
      (·.credit tag)
    if !rest.contains tag && (s.point p).finalRecord tag then s.touchDeliveries else s

/-- A pulse is made: it joins the queue and is emitted at once by an output that is READY, or is dropped at a full
queue (R88, R89). -/
def State.makePulse (s : State) (p : Point) (tag : Nat) : State :=
  let u := s.pou.get p
  if u.queue.length < pulseRoom then
    let s := s.mapPou p fun u => { u with queue := u.queue ++ [tag] }
    if u.phase = .ready then s.emit p else s
  else s.mapCurrent p fun r => { r with flags := { r.flags with pulsesDropped := true } }

/-- A forward step notice: the high-water mark, and the divider while the delivery generates (R87). -/
def State.advance (s : State) (p : Point) (m : Meter) (net : Int) : State :=
  let u := s.pou.get p
  match u.tracked with
  | none => s
  | some (seq, m') =>
    if m' = m ∧ (u.high : Int) < net then
      let s := s.mapPou p fun u => { u with high := net.toNat }
      if u.generating then
        if u.residue + 1 < u.divider then s.mapPou p fun u => { u with residue := u.residue + 1 }
        else (s.mapPou p fun u => { u with residue := 0 }).makePulse p seq
      else s
    else s

/-- The line of an output is high (R89). -/
def Pou.line (u : Pou) : Bool := decide (u.phase = .high)

/-- The time a pulse is high, and the least time it is low after it, in milliseconds (R89). -/
def pulseTime : Nat := 1

end Sys2Proof.Machine
end

