-- ==== Sys2Proof/Machine/Prices.lean ====
section
/-! DEFINITION. The Price Table Unit (chapter 3): publishing, adoption and retirement. -/

namespace Sys2Proof.Machine

/-- A number is held by a published generation. -/
def Ptu.holds (t : Ptu) (number : Nat) : Bool := t.published.any fun g => decide (g.number = number)

/-- The first number from `n` upward, modulo 65,536, that no published generation holds; `fuel` bounds the search
(R36). -/
def Ptu.freeNumber (t : Ptu) : Nat → Nat → Nat
  | 0, n => n
  | fuel + 1, n => if t.holds n then t.freeNumber fuel ((n + 1) % 65536) else n

/-- The number the next publication takes (R36). -/
def Ptu.nextNumber (t : Ptu) : Nat := t.freeNumber 65536 ((t.newest + 1) % 65536)

/-- The table of the newest generation. -/
def Ptu.newestTable (t : Ptu) : PriceTable :=
  match t.find t.newest with
  | some g => g.table
  | none => t.staging

/-- A point refers to a generation. -/
def State.refersTo (s : State) (number : Nat) : Bool := Point.all.any fun p => decide ((s.point p).generation = number)

/-- The generation is the newest or is referred to by a point (R39). -/
def State.keeps (s : State) (number : Nat) : Bool := decide (number = s.ptu.newest) || s.refersTo number

/-- The numbers that retirement removes (R39). -/
def State.retirable (s : State) : List Nat :=
  (s.ptu.published.filter fun g => !s.keeps g.number).map (·.number)

/-- Retirement (R39). A retired generation leaves CONFIG. -/
def State.retire (s : State) : State :=
  if s.retirable = [] then s
  else { s with ptu := { s.ptu with published := s.ptu.published.filter fun g => s.keeps g.number } }.touchConfig

/-- A point returning to a free state adopts the newest generation; the one it leaves is retired if nothing refers to
it any more, and the report names it (R38, R39). -/
def State.adopt (s : State) (p : Point) : State :=
  let old := (s.point p).generation
  let new := s.ptu.newest
  if old = new then s
  else
    let s := s.mapPoint p fun d => { d with generation := new }
    let gone := s.retirable.contains old
    s.retire.post (.point p) (.priceAdopted old new .back (if gone then some old else none))

/-- A free point adopts a generation at its publication (R37). -/
def State.adoptAtApply (s : State) (p : Point) : State :=
  let d := s.point p
  if d.st.free then
    (s.mapPoint p fun d => { d with generation := s.ptu.newest }).post (.point p)
      (.priceAdopted d.generation s.ptu.newest .apply none)
  else s

/-- The publication of the staging table: the new generation, its adoption by the free points, and the numbers the
retirement removes (R36, R37, R39). -/
def State.publish (s : State) : State × List Nat :=
  let number := s.ptu.nextNumber
  let s := { s with ptu := { s.ptu with published := s.ptu.published ++ [(⟨number, s.ptu.staging⟩ : Generation)], newest := number } }
  let s := (s.adoptAtApply .a).adoptAtApply .b
  let gone := s.retirable
  let s := s.retire
  ({ s with ptu := { s.ptu with staging := s.ptu.newestTable } }.touchConfig, gone)

/-- The level of a side's price view (R41). -/
def PointData.viewLevel (d : PointData) : Level :=
  match d.st with
  | .closed => .one
  | .idle => .one
  | .calling => .one
  | .authorized => (d.auth.map (·.level)).getD .one
  | _ => (d.current.map (·.level)).getD .one

end Sys2Proof.Machine
end

