-- ==== Sys2Proof/Machine/Display.lean ====
section
/-! DEFINITION. The Display Drive Unit's own part of chapter 7: symbols and windows, the content driven, the judgement
of the senses, the zero check, the display test and the hold. What the Delivery Engine and the power controller do with
its events stands in Delivery.lean and Power.lean. -/

namespace Sys2Proof.Machine

/-! ## Symbols and windows (7.1) -/

/-- The segments of a decimal digit: bits 0 to 6 are the segments a to g (PRESUMED, assumption 14). -/
def digitSegments : Nat → Byte
  | 0 => 0x3F
  | 1 => 0x06
  | 2 => 0x5B
  | 3 => 0x4F
  | 4 => 0x66
  | 5 => 0x6D
  | 6 => 0x7D
  | 7 => 0x07
  | 8 => 0x7F
  | _ => 0x6F

/-- The segments a symbol drives; bit 7 is the decimal point (7.1; PRESUMED, assumption 14). -/
def Symbol.segments : Symbol → Byte
  | .digit d dot => if dot then digitSegments d ||| 0x80 else digitSegments d
  | .blank => 0x00
  | .dash => 0x40
  | .all => 0xFF

/-- The places of the first position of each window's range, counted from 0: the amount window (R106). -/
def figurePositions : Nat := 12

/-- The first position, counted from 0, of a price window (R106). -/
def windowStart (k : Position) : Nat := figurePositions + 4 * (k.number - 1)

/-- The symbols of a figure in a window of `w` digits with `p` decimals, leftmost first (R108). -/
def figureSymbols (w p figure : Nat) : List Symbol :=
  let value := min figure (10 ^ w - 1)
  (List.range w).map fun i =>
    let place := w - 1 - i
    let digit := value / 10 ^ place % 10
    if p < place ∧ value / 10 ^ place = 0 then .blank
    else .digit digit (decide (place = p) && decide (0 < p))

/-- The two figure windows of a volume and an amount, amount first (R106, R108). -/
def figureWindows (t : DisplaySettings) (volume amount : Nat) : List Symbol :=
  figureSymbols 6 t.amountDecimals amount ++ figureSymbols 6 t.volumeDecimals volume

/-! ## Faults and closed grades (R113, R114) -/

/-- A price window of a side is faulted (R114). -/
def DduSide.windowFault (d : DduSide) (k : Position) : Bool :=
  ((d.faulted.drop (windowStart k)).take 4).any id

/-- A position of the figure windows is faulted. -/
def DduSide.figureFault (d : DduSide) : Bool := (d.faulted.take figurePositions).any id

/-- The grade is closed at the side by a fault of a price window that shows it (R114). -/
def State.windowCloses (s : State) (x : Side) (g : Grade) : Bool :=
  Position.all.any fun k => decide ((s.hose x k).grade = g) && (s.side x).windowFault k

/-- The display closes the grade at the side (R113, R114). -/
def State.displayCloses (s : State) (x : Side) (g : Grade) : Bool := (s.side x).sideFault || s.windowCloses x g

/-! ## Power (R109, R158, R172) -/

/-- The PSC's drive of a side's display load. -/
def Drives.display (d : Drives) : Side → Bool
  | .a => d.displayA
  | .b => d.displayB

/-- The side's DISPLAY_x load is on: its drive is on or a display hold stands (R158, R172). A side whose load is on is
refreshing (R109). -/
def State.refreshing (s : State) (x : Side) : Bool :=
  s.psc.drives.display x || decide ((s.side x).hold ≠ .none)

/-- The heater demand (R125). -/
def State.heaterDemand (s : State) : Side → Bool
  | .a => !s.good .warmA
  | .b => !s.good .warmB

/-! ## The content driven (R110) -/

/-- The symbols of a price window (R108, R110, R41). -/
def State.priceWindow (s : State) (x : Side) (k : Position) : List Symbol :=
  let d := s.point x
  let g := (s.hose x k).grade
  let price := (s.ptu.entry d.generation g).price d.viewLevel
  if d.st = .closed ∨ price = 0 ∨ s.displayCloses x g then List.replicate 4 .dash
  else figureSymbols 4 s.display.priceDecimals price

/-- The symbols of the figure windows, with the pattern of a zero check in flight (R110, R117). -/
def State.figureContent (s : State) (x : Side) : List Symbol :=
  let d := s.side x
  match d.zero with
  | .allOn _ => List.replicate 12 .all
  | .zeros _ => figureWindows s.display 0 0
  | .waiting => figureWindows s.display d.shown.volume d.shown.amount
  | .none => figureWindows s.display d.shown.volume d.shown.amount

/-- The 28 symbols of a refresh (R110, R120). A display test still in flight when its side's point becomes FINISHED drives
them until its sixth refresh (R111, R121; DESIGN CHOICE, assumption 53). -/
def State.content (s : State) (x : Side) : List Symbol :=
  match (s.side x).test with
  | some t => List.replicate 28 (if t.done < 3 then .all else .blank)
  | none => s.figureContent x ++ Position.all.flatMap (s.priceWindow x)

/-! ## The judgement of the senses (R112, R113) -/

/-- Whether the sense of each position differs from what was driven; no sense differs everywhere (R112). -/
def differs (driven : List Symbol) (sense : Option (List Byte)) : List Bool :=
  match sense with
  | none => driven.map fun _ => true
  | some l => driven.zipIdx.map fun (y, i) => decide (l[i]? ≠ some y.segments)

/-- A mismatch count after a judged refresh; that of a faulted position stays (R112). -/
def judgedCount (count : Nat) (faulted differs : Bool) : Nat :=
  if faulted then count else if differs then count + 1 else 0

/-- The side after the judgement of a refresh, and the positions that became faulted (R112). -/
def DduSide.judge (d : DduSide) (diff : List Bool) : DduSide × List Bool :=
  let counts := (d.counts.zip (d.faulted.zip diff)).map fun (c, f, e) => judgedCount c f e
  let newly := (counts.zip d.faulted).map fun (c, f) => decide (3 ≤ c) && !f
  ({ d with counts := counts, faulted := (d.faulted.zip newly).map fun (f, e) => f || e }, newly)

/-! ## Shown figures (R111) -/

/-- Running figures are handed: they are shown once the zero check has ended, and kept aside before (R111). -/
def DduSide.running (d : DduSide) (volume amount : Nat) : DduSide :=
  if d.zero = .none then { d with shown := ⟨volume, amount, false⟩ } else d

/-- Final figures are handed (R111). -/
def DduSide.final (d : DduSide) (volume amount : Nat) : DduSide := { d with shown := ⟨volume, amount, true⟩ }

/-! ## The zero check (R116 to R118) -/

/-- The DLE asks for a zero check: the side's state, and whether the check fails at once (R116). -/
def State.askZero (s : State) (x : Side) : State × Bool :=
  if !s.refreshing x || (s.side x).sideFault then (s, true)
  else
    let waits := (s.side x).test.isSome
    (s.mapSide x fun d => { d with zero := if waits then .waiting else .allOn 0 }, false)

/-- The DLE withdraws a zero check (R118). -/
def State.withdrawZero (s : State) (x : Side) : State := s.mapSide x fun d => { d with zero := .none }

/-! ## The display test (R119 to R121) -/

/-- The reasons for which a display test is not begun, numbered as the tests of R119. -/
inductive TestRefusal where
  | loadOff
  | holding
  | selling
  | inFlight
  deriving DecidableEq, Repr

/-- Tests 1 to 3 of R119 at a side. -/
def State.testBarred (s : State) (x : Side) : Option TestRefusal :=
  if !s.refreshing x then some .loadOff
  else if (s.side x).hold ≠ .none then some .holding
  else if (s.point x).st.delivering ∨ (s.point x).st = .finished then some .selling
  else none

/-- The four tests of R119 at a side. -/
def State.testRefusal (s : State) (x : Side) : Option TestRefusal :=
  match s.testBarred x with
  | some r => some r
  | none => if (s.side x).test.isSome then some .inFlight else none

/-- A display test that begins at the next refresh. -/
def freshTest (byHost bySequence : Bool) : DisplayTest :=
  { done := 0, listed := List.replicate 28 false, byHost := byHost, bySequence := bySequence }

/-- The host starts a display test at a side (R119). -/
def State.startHostTest (s : State) (x : Side) : State := s.mapSide x fun d => { d with test := some (freshTest true false) }

/-- The PSC starts a display test at a side, or joins the one in flight, be it one that a step that timed out asked for
(R119, R161; DESIGN CHOICE, assumption 52). -/
def State.startSequenceTest (s : State) (x : Side) : State :=
  s.mapSide x fun d =>
    { d with test := match d.test with
        | some t => some { t with bySequence := true }
        | none => some (freshTest false true) }

/-- The number of positions a test has listed. -/
def DisplayTest.count (t : DisplayTest) : Nat := t.listed.countP id

/-- The side's faults cleared by a test that passed (R120). -/
def DduSide.clearFaults (d : DduSide) : DduSide :=
  { d with counts := d.counts.map fun _ => 0, faulted := d.faulted.map fun _ => false, sideFault := false }

/-- A display test of a side ends with a result and its report (R120, R121). -/
def State.endTest (s : State) (x : Side) (result : TestResult) : State :=
  match (s.side x).test with
  | none => s
  | some t =>
    let s := s.mapSide x fun d => { d with test := none }
    let s := if result = .passed then
        let was := (s.side x).sideFault
        let s := s.mapSide x (·.clearFaults)
        if was then s.changed (.displayFault x) false else s
      else s
    s.post (.side x) (.displayTestDone t.byHost t.bySequence result t.count)

/-! ## The display hold (R122, R123) -/

/-- The hold a side takes at the entry to MAINS_LOST, judged on the state before the entry (R122). -/
def State.holdDecision (s : State) (x : Side) : Hold :=
  let st := (s.point x).st
  let awaiting := decide (st = .fuelling) || decide (st = .slowing) || decide (st = .stopping)
    || (decide (st = .starting) && s.holds x)
  if !s.refreshing x then .none
  else if awaiting then .awaitingFinish
  else if st = .finished ∨ (s.side x).shown.final then
    .timing (s.now + 60000 * s.display.holdTime)
  else .none

/-- A hold ends with a reason (R123). -/
def State.endHold (s : State) (x : Side) (reason : HoldEnd) : State :=
  if (s.side x).hold = .none then s
  else (s.mapSide x fun d => { d with hold := .none }).post (.side x) (.displayHoldEnd reason)

/-- The side takes a hold; one that would start timing with a hold time of 0 ends at that moment (R122, R123). -/
def State.takeHold (s : State) (x : Side) (hold : Hold) : State :=
  let s := s.mapSide x fun d => { d with hold := hold }
  match hold with
  | .timing _ => if s.display.holdTime = 0 then s.endHold x .expired else s
  | .none => s
  | .awaitingFinish => s

/-- The point of a side is finalized: a hold that awaited it starts timing (R123). -/
def State.holdFinished (s : State) (x : Side) : State :=
  if (s.side x).hold = .awaitingFinish then s.takeHold x (.timing (s.now + 60000 * s.display.holdTime)) else s

end Sys2Proof.Machine
end

