-- ==== Sys2Proof/Machine/Motors.lean ====
section
/-! DEFINITION. The opening of the valves (R63), the motors (R62) and the motor start queue (R176, R177). -/

namespace Sys2Proof.Machine

/-- The report of a delivery's start (R63, 11.4). -/
def startedReport (r : DeliveryRecord) (full : Bool) : ReportData := .deliveryStarted r full

/-- The valves of a point's meter open: at full flow, or on SLOW alone when the delivery has no slow-down count or its
SLOW compare has fired (R63). -/
def State.openValves (s : State) (p : Point) (m : Meter) (r : DeliveryRecord) : State :=
  let full := decide (r.nSlow ≠ 0) && !hasFired (s.channel m).slow
  let s := s.commandValves m full true
  let due := if r.noFlow = 0 then none else some (s.now + 1000 * r.noFlow)
  let s := s.mapPoint p fun d =>
    { d with st := if full then .fuelling else .slowing, auth := none, authDue := none, noFlowDue := due }
  ((s.mapPou p (·.valvesOpen)).touchDeliveries).post (.point p) (startedReport r full)

/-- The motor of a meter is running and has been on for the run-up time of the meter's record (R63). -/
def State.runUpDone (s : State) (m : Meter) : Bool :=
  decide ((s.motor m).st = .running) && decide ((s.motor m).onSince + (s.channel m).record.runUp ≤ s.now)

/-- The valve-opening test of a point (R63). -/
def State.tryOpen (s : State) (p : Point) : State :=
  let d := s.point p
  match s.heldBy p, d.current with
  | some m, some r =>
    if d.st = .starting ∧ d.zeroPassed ∧ s.runUpDone m ∧ s.good .valveSupply then s.openValves p m r else s
  | _, _ => s

/-- The valve-opening test of the holder of a meter. -/
def State.tryOpenHolder (s : State) (m : Meter) : State :=
  match s.dle.holders.get m with
  | some p => s.tryOpen p
  | none => s

/-! ## The motor start queue -/

/-- The most meters the queue holds (R176). -/
def startQueueRoom : Nat := 4

/-- The head of the motor start queue may be granted (R176). -/
def State.grantDue (s : State) : Bool := decide (s.psc.lastGrant + s.psc.spacing ≤ s.now)

/-- A grant: the head leaves the queue, the last grant is set and the motor goes on (R62, R176). -/
def State.grant (s : State) (m : Meter) (rest : List Meter) : State :=
  let s := s.mapPsc fun c => { c with startQueue := rest, lastGrant := s.now }
  (s.setMotor m { st := .running, onSince := s.now, runOnDue := none }).tryOpenHolder m

/-- The tests of the head, as long as they grant; `fuel` bounds them by the room of the queue (R176). -/
def State.testHead (s : State) : Nat → State
  | 0 => s
  | fuel + 1 =>
    match s.psc.startQueue with
    | [] => s
    | m :: rest => if s.grantDue then (s.grant m rest).testHead fuel else s

/-- The head of the queue is tested (R176). -/
def State.testStartQueue (s : State) : State := s.testHead startQueueRoom

/-- A motor start request joins the tail, and the head is tested (R176). -/
def State.requestStart (s : State) (m : Meter) : State :=
  (s.mapPsc fun c => { c with startQueue := c.startQueue ++ [m] }).testStartQueue

/-- A request is withdrawn; when it was the head, the new head is tested (R177). -/
def State.withdrawStart (s : State) (m : Meter) : State :=
  let head := decide (s.psc.startQueue.head? = some m)
  let s := s.mapPsc fun c => { c with startQueue := c.startQueue.filter fun x => decide (x ≠ m) }
  if head then s.testStartQueue else s

/-! ## The motors (R62) -/

/-- A new holder demands the motor of its meter (R61, R62). -/
def State.demandMotor (s : State) (m : Meter) : State :=
  let x := s.motor m
  match x.st with
  | .off => (s.setMotor m { x with st := .awaitingGrant }).requestStart m
  | .runOn => s.setMotor m { x with st := .running, runOnDue := none }
  | .awaitingGrant => s
  | .running => s

/-- The holder of a meter enters STOPPING: a motor that awaits its grant is withdrawn, and a running one runs on
(R62). -/
def State.dropMotor (s : State) (m : Meter) : State :=
  let x := s.motor m
  match x.st with
  | .awaitingGrant => (s.setMotor m { x with st := .off }).withdrawStart m
  | .running => s.setMotor m { x with st := .runOn }
  | .off => s
  | .runOn => s

/-- A meter is released without a waiter: a motor in RUN_ON starts its run-on timer, or goes off at once (R62). -/
def State.releaseMotor (s : State) (m : Meter) : State :=
  let x := s.motor m
  let time := (s.channel m).record.runOn
  if x.st = .runOn then
    if time = 0 then s.setMotor m { x with st := .off }
    else s.setMotor m { x with runOnDue := some (s.now + 1000 * time) }
  else s

/-- The PSC leaves RUN and DRAINING: every motor is off at once and the start queue is emptied without grants (R62,
R177). -/
def State.allMotorsOff (s : State) : State :=
  { s with dle := { s.dle with motors := s.dle.motors.map fun x => { x with st := .off, runOnDue := none } }
           psc := { s.psc with startQueue := [] } }

/-- The output of a motor (R62). -/
def Motor.output (x : Motor) : Bool :=
  match x.st with
  | .running => true
  | .runOn => true
  | .off => false
  | .awaitingGrant => false

end Sys2Proof.Machine
end

