-- ==== Sys2Proof/Machine/Flags.lean ====
section
/-! DEFINITION. The flags byte of a delivery record (11.3) and the flags that stand before finalization (R52). -/

namespace Sys2Proof.Machine

/-- The flags of a record begun with this target: PRESET_CUT alone may be set (R52). -/
def begunFlags (presetCut : Bool) : DeliveryFlags :=
  { overrun := false, limitExceeded := false, presetCut := presetCut, clamped := false, displayFault := false
    recovered := false, pulsesDropped := false }

/-- A bit of a byte. -/
def flagBit (b : Bool) (place : Nat) : Nat := if b then 2 ^ place else 0

/-- The flags byte of a record; bit 7 is 0 (11.3). -/
def DeliveryFlags.byte (f : DeliveryFlags) : Nat :=
  flagBit f.overrun 0 + flagBit f.limitExceeded 1 + flagBit f.presetCut 2 + flagBit f.clamped 3
    + flagBit f.displayFault 4 + flagBit f.recovered 5 + flagBit f.pulsesDropped 6

/-- The flags byte as DELIVERY_FINISHED carries it: bit 7 is the zero flag, set when V_cl is 0 (R70, 11.3). -/
def DeliveryRecord.finishedByte (r : DeliveryRecord) : Nat := r.flags.byte + flagBit (decide (r.volume = 0)) 7

end Sys2Proof.Machine
end

