-- ==== Sys2Proof/Machine/Delivery.lean ====
section
/-! DEFINITION. The Delivery Engine (chapter 4): the states of a point, the meter hold arbiter, lifts, stopping and
finalization, and what the engine does with the events of the other blocks. -/

namespace Sys2Proof.Machine

/-! ## Entries to the free states -/

/-- A point in IDLE with a nozzle up goes on to CALLING (R57). -/
def State.callIfUp (s : State) (p : Point) : State :=
  match s.lowestUp p with
  | none => s
  | some k =>
    (s.mapPoint p fun d => { d with st := .calling, position := some k }).post (.point p) (.nozzleCall k false false)

/-- A point stripped of what its sale held, in a state that has none of it. -/
def PointData.toFree (d : PointData) (st : PointSt) : PointData :=
  { d with st := st, auth := none, authDue := none, position := none, zeroPassed := false, noFlowDue := none
           quietDue := none }

/-- A point enters IDLE (R38, R57). -/
def State.enterIdle (s : State) (p : Point) : State := ((s.mapPoint p (·.toFree .idle)).adopt p).callIfUp p

/-- A point enters CLOSED (R38, R57). -/
def State.enterClosed (s : State) (p : Point) : State := (s.mapPoint p (·.toFree .closed)).adopt p

/-- A cleared point enters IDLE while the points are open, and CLOSED otherwise (R71, R72). -/
def State.enterFree (s : State) (p : Point) : State := if s.pointsOpen then s.enterIdle p else s.enterClosed p

/-- The current record becomes the previous one and the point a free one (R71, R72). -/
def State.clearRecord (s : State) (p : Point) : State :=
  ((s.mapPoint p fun d => { d with previous := d.current, current := none, saleTable := none, figuresAt := none
  }).touchDeliveries).enterFree p

/-! ## Leaving STARTING before the meter is held -/

/-- A point is removed as waiter (R59). -/
def State.removeWaiter (s : State) (p : Point) : State :=
  { s with dle := { s.dle with waiters := s.dle.waiters.map fun w => if w = some p then none else w } }

/-- The begun record is discarded, and its sequence number is given to the next record begun (R52, R99). -/
def State.discard (s : State) (p : Point) : State :=
  (s.mapPoint p fun d =>
    { d with current := none, saleTable := none, figuresAt := none, lastSeq := (d.lastSeq + 65535) % 65536
    }).touchDeliveries

/-- A point leaves STARTING, its meter not held: it stops waiting and its record is discarded (R64). -/
def State.leaveStarting (s : State) (p : Point) : State := (s.removeWaiter p).discard p

/-- The authorization timer of a point starts with the timeout captured at grant (R74). -/
def PointData.startAuthTimer (d : PointData) (now : Nat) : PointData :=
  { d with authDue := if d.authTimeout = 0 then none else some (now + 1000 * d.authTimeout) }

/-- A point returns from STARTING to AUTHORIZED with its authorization and a restarted timer (R56, R59). -/
def State.returnToAuthorized (s : State) (p : Point) : State :=
  (s.leaveStarting p).mapPoint p fun d => { d with st := .authorized, position := none }.startAuthTimer s.now

/-- A waiter is refused with a reason (R59). -/
def State.refuseWaiter (s : State) (p : Point) (reason : LiftRefusal) : State :=
  let k := (s.point p).position.getD .p1
  (s.returnToAuthorized p).post (.point p) (.nozzleRefused k reason)

/-- A standing authorization ends with a reason, and the point enters IDLE. -/
def State.endAuthorization (s : State) (p : Point) (reason : AuthEnd) : State :=
  (s.post (.point p) (.authEnded reason)).enterIdle p

/-! ## Stopping (R68) -/

/-- Entry to STOPPING with a cause (R68); a zero check of the side is withdrawn (R118). -/
def State.enterStopping (s : State) (p : Point) (m : Meter) (cause : StopCause) : State :=
  let quiet := ((s.point p).current.map (·.quiet)).getD 0
  let seq := ((s.point p).current.map (·.seq)).getD 0
  let s := s.mapPoint p fun d =>
    { d with st := .stopping, current := d.current.map fun r => { r with cause := some cause }, zeroPassed := false
             noFlowDue := none, quietDue := some (s.now + quiet) }
  let s := (((s.commandValves m false false).dropMotor m).withdrawZero p).touchDeliveries
  s.post (.point p) (.deliveryStopping seq cause)

/-- A point that holds its meter in STARTING, or is in FUELLING or SLOWING, enters STOPPING with a cause; a point in any
other state keeps its own (R64, R66, R69). -/
def State.stopHolder (s : State) (p : Point) (cause : StopCause) : State :=
  match s.heldBy p with
  | some m => if (s.point p).st = .starting ∨ (s.point p).st.flowing then s.enterStopping p m cause else s
  | none => s

/-- The point is in STARTING and does not hold its meter. -/
def State.waiting (s : State) (p : Point) : Bool := decide ((s.point p).st = .starting) && !s.holds p

/-! ## The meter hold arbiter (R58 to R61) -/

/-- A point in STARTING becomes the holder of its meter: the MIU's notice, the snapshot, the zero check, the POU's start
notice and the motor. A zero check that fails at once takes the point to STOPPING after them (R61, R116; assumption
11). -/
def State.becomeHolder (s : State) (p : Point) (m : Meter) : State :=
  match (s.point p).current with
  | none => s
  | some r =>
    let s := s.mapChannel m (·.hold p r.nSlow r.nStop)
    let s := { s with dle := { s.dle with holders := s.dle.holders.set m (some p) } }
    let s := s.mapCurrent p fun r => { r with snapshot := (s.channel m).snapshot }
    let s := s.mapPou p (·.startNotice r.seq m r.vapour (s.dle.timings.get p).divider)
    let (s, failed) := s.touchDeliveries.askZero p
    let s := s.demandMotor m
    if failed then s.stopHolder p .displayFault else s

/-- A claim on a meter (R58). The record just begun is handed to the RTM as one that is not held before a free meter makes
the point its holder, so that the write of the begun record comes first (R99). -/
def State.claim (s : State) (p : Point) (m : Meter) : State :=
  match s.dle.holders.get m with
  | none => s.commitDeliveries.becomeHolder p m
  | some h =>
    { s with dle := { s.dle with waiters := s.dle.waiters.set m (some p) } }.post (.point p) (.meterWait m h)

/-- The holder's meter is handed over to its waiter, or becomes free, and its motor moves (R59, R62). -/
def State.releaseMeter (s : State) (m : Meter) : State :=
  match s.dle.waiters.get m with
  | some w =>
    { s with dle := { s.dle with waiters := s.dle.waiters.set m none } }.becomeHolder w m
  | none =>
    (({ s with dle := { s.dle with holders := s.dle.holders.set m none } }).mapChannel m (·.release)).releaseMotor m

/-! ## Lifts (R52 to R55, R60) -/

/-- The record begun by an accepted lift (R23, R52). -/
def beginRecord (d : PointData) (a : Authorization) (k : Position) (h : HoseEntry) (e : GradeEntry) (q : Nat)
    (mode : Rounding) (t : PointTiming) (now : Stamp) : DeliveryRecord :=
  let price := e.price a.level
  let target := targetOf mode price e.slowDown q a
  { seq := (d.lastSeq + 1) % 65536
    position := k
    grade := h.grade
    meter := h.meter
    generation := d.generation
    level := a.level
    price := price
    q := q
    rounding := mode
    slowDown := e.slowDown
    vapour := e.vapour
    preset := a.preset
    amountLimit := a.amountLimit
    volumeLimit := a.volumeLimit
    session := a.session
    target := target.volume
    source := target.source
    nSlow := target.nSlow
    nStop := target.nStop
    quiet := t.quiet
    noFlow := t.noFlow
    snapshot := 0
    net := 0
    reverse := 0
    volume := 0
    amount := 0
    cause := none
    flags := begunFlags target.presetCut
    start := now
    finish := none
    pulses := 0
    final := false }

/-- The record that a lift of a position would begin at a point with an authorization. -/
def State.liftRecord (s : State) (p : Point) (a : Authorization) (k : Position) : DeliveryRecord :=
  let h := s.hose p k
  let d := s.point p
  beginRecord d a k h (s.ptu.entry d.generation h.grade) (s.channel h.meter).record.q s.dle.rounding
    (s.dle.timings.get p) s.stamp

/-- The grade mask permits a grade (R49). -/
def maskPermits (mask : Nat) (g : Grade) : Bool := mask.testBit (g.number - 1)

/-- Another nozzle of the point is up (R54). -/
def State.anotherUp (s : State) (p : Point) (k : Position) : Bool :=
  Position.all.any fun j => decide (j ≠ k) && s.up p j

/-- The lift tests of R54 in order: the first that fails. -/
def State.liftRefusal (s : State) (p : Point) (a : Authorization) (k : Position) : Option LiftRefusal :=
  let h := s.hose p k
  let d := s.point p
  if !h.enabled then some .hoseDisabled
  else if !maskPermits a.mask h.grade then some .gradeNotAuthorized
  else if (s.ptu.entry d.generation h.grade).price a.level = 0 ∨ s.displayCloses p h.grade then some .gradeClosed
  else if s.unusable h.meter then some .meterFault
  else if s.anotherUp p k then some .conflict
  else if (s.liftRecord p a k).target = 0 then some .limitTooSmall
  else none

/-- An accepted lift: the record is begun and the meter is claimed (R44, R54). -/
def State.acceptLift (s : State) (p : Point) (a : Authorization) (k : Position) : State :=
  let r := s.liftRecord p a k
  let table := (s.ptu.find (s.point p).generation).map (·.table)
  let s := s.mapPoint p fun d =>
    { d with st := .starting, position := some k, authDue := none, current := some r, lastSeq := r.seq
             saleTable := table, figuresAt := none, zeroPassed := false }
  s.touchDeliveries.claim p r.meter

/-- A lift judged at a point in AUTHORIZED (R54). -/
def State.judgeLift (s : State) (p : Point) (k : Position) : State :=
  match (s.point p).auth with
  | none => s
  | some a =>
    match s.liftRefusal p a k with
    | some reason => s.post (.point p) (.nozzleRefused k reason)
    | none => s.acceptLift p a k

/-! ## Finalization (R70, R71) -/

/-- The final record of a delivery: the final figures and flags, the finish time and the final mark (R30, R31, R70). -/
def DeliveryRecord.finalized (r : DeliveryRecord) (net : Int) (reverse : Nat) (finish : Stamp) : DeliveryRecord :=
  { (r.figured net reverse).flagged with finish := some finish, final := true }

/-- Items 1 to 5 of R70 at a point that holds a meter: the final record is written and handed to the RTM, the meter is
released or handed over, and the DDU and the POU are told. The point is FINISHED. A display test of its side that is in
flight runs on (R111, R121; DESIGN CHOICE, assumption 53). -/
def State.finalize (s : State) (p : Point) (m : Meter) (r : DeliveryRecord) : State :=
  let c := s.channel m
  let r := r.finalized c.net c.reverse s.stamp
  let s := s.mapPoint p fun d =>
    { d with st := .finished, current := some r, auth := none, authDue := none, position := none, zeroPassed := false
             noFlowDue := none, quietDue := none }
  let s := (s.handFinalization p r).releaseMeter m
  ((s.mapSide p (·.final r.volume r.amount)).mapPou p (·.endNotice)).holdFinished p

/-- Finalization at the quiet-time expiry: R70 whole, and the auto-clear of a delivery of 0 cl (R70, R71). -/
def State.finish (s : State) (p : Point) : State :=
  match s.heldBy p, (s.point p).current with
  | some m, some r =>
    let s := s.finalize p m r
    match (s.point p).current with
    | none => s
    | some r =>
      let s := s.post (.point p) (.deliveryFinished r)
      if r.volume = 0 then s.clearRecord p else s
  | _, _ => s

/-! ## Events of the meters (R59, R65 to R67, R69) -/

/-- A step notice: the quiet timer of a point in STOPPING restarts, and on a forward step the no-flow timer of a flowing
one (R67, R69). -/
def State.stepNotice (s : State) (p : Point) (isForward : Bool) : State :=
  s.mapPoint p fun d =>
    let quiet := (d.current.map (·.quiet)).getD 0
    let noFlow := (d.current.map (·.noFlow)).getD 0
    { d with quietDue := if d.st = .stopping then some (s.now + quiet) else d.quietDue
             noFlowDue := if isForward && d.st.flowing && decide (noFlow ≠ 0) then some (s.now + 1000 * noFlow)
               else d.noFlowDue }

/-- A SLOW compare event (R64, R65, R99): a point in STARTING needs nothing more than the fired flag. -/
def State.slowEvent (s : State) (p : Point) (m : Meter) : State :=
  if (s.point p).st = .fuelling then
    ((s.commandValves m false true).mapPoint p fun d => { d with st := .slowing }).touchDeliveries
  else s

/-- The stop cause of a target's source (R26). -/
def Source.cause : Source → StopCause
  | .preset => .preset
  | .limit => .limit
  | .capacity => .capacity

/-- A STOP compare event (R64, R66). -/
def State.stopEvent (s : State) (p : Point) : State :=
  match (s.point p).current with
  | some r => s.stopHolder p r.source.cause
  | none => s

/-- A meter fault or a valve fault event: the holder stops with the cause, and then a waiter is refused, whichever
point each of them is (R59, R64, R66; the order: DESIGN CHOICE, assumption 23). -/
def State.meterEvent (s : State) (m : Meter) (cause : StopCause) : State :=
  let waiter := s.dle.waiters.get m
  let s := match s.dle.holders.get m with
    | some p => s.stopHolder p cause
    | none => s
  match waiter with
  | some w => s.refuseWaiter w .meterFault
  | none => s

/-! ## Events of the displays (R59, R64, R113, R114, R117) -/

/-- A side-fault event. -/
def State.sideFaultEvent (s : State) (x : Side) : State :=
  if s.waiting x then s.refuseWaiter x .gradeClosed else s.stopHolder x .displayFault

/-- A grade-closed event. -/
def State.gradeClosedEvent (s : State) (x : Side) (g : Grade) : State :=
  if s.waiting x && ((s.point x).current.any fun r => decide (r.grade = g)) then s.refuseWaiter x .gradeClosed else s

/-- A zero-check-failed event: the check is over, and a point in STARTING stops (R64, R117). -/
def State.zeroFailed (s : State) (x : Side) : State :=
  let s := s.withdrawZero x
  if (s.point x).st = .starting then s.stopHolder x .displayFault else s

/-- A zero-check-passed event (R63, R117). -/
def State.zeroPassed (s : State) (x : Side) : State :=
  ((s.withdrawZero x).mapPoint x fun d => { d with zeroPassed := true }).tryOpen x

/-! ## Ending authorizations (R73 to R78) -/

/-- The act of CANCEL at a point (R64, R73). -/
def State.cancelPoint (s : State) (p : Point) : State :=
  if (s.point p).st = .authorized then s.enterIdle p
  else if s.waiting p then (s.leaveStarting p).enterIdle p
  else s.stopHolder p .hostCancel

/-- An end of permission at a point that has not yet let fuel flow: AUTHORIZED goes to IDLE, STARTING is handled by
R64. -/
def State.endPermission (s : State) (p : Point) (reason : AuthEnd) (cause : StopCause) : State :=
  if (s.point p).st = .authorized then s.endAuthorization p reason
  else if s.waiting p then (s.leaveStarting p).endAuthorization p reason
  else if (s.point p).st = .starting then s.stopHolder p cause
  else s

/-- An assertion of the emergency stop at a point in STARTING, FUELLING or SLOWING (R64, R66, R77). -/
def State.emergencyDelivery (s : State) (p : Point) : State :=
  if (s.point p).st.flowing then s.stopHolder p .emergency
  else if (s.point p).st = .starting then s.endPermission p .emergency .emergency
  else s

/-- An assertion of the emergency stop at a point in AUTHORIZED (R77). -/
def State.emergencyAuthorized (s : State) (p : Point) : State :=
  if (s.point p).st = .authorized then s.endAuthorization p .emergency else s

/-- An assertion of the emergency stop on the points: the deliveries first, and then the authorizations, each at point A
before point B (R77, R78; DESIGN CHOICE, assumption 23). -/
def State.emergencyStop (s : State) : State :=
  (((s.emergencyDelivery .a).emergencyDelivery .b).emergencyAuthorized .a).emergencyAuthorized .b

/-- A point's authorization is bound to a session (R49). -/
def PointData.boundTo (d : PointData) (session : Nat) : Bool := d.auth.any fun a => decide (a.session = some session)

/-- The end of a reader session at a point (R64, R76). -/
def State.sessionEndPoint (s : State) (p : Point) (session : Nat) : State :=
  if (s.point p).boundTo session then s.endPermission p .readerLost .readerLost else s

/-- The end of a reader session, at point A before point B (R76; DESIGN CHOICE, assumption 23). -/
def State.sessionEnd (s : State) (session : Nat) : State := (s.sessionEndPoint .a session).sessionEndPoint .b session

/-- A point in AUTHORIZED or STARTING holds an authorization bound to the gate's current session (R49). -/
def State.bindingStands (s : State) : Bool :=
  match s.crg.session with
  | none => false
  | some n => Point.all.any fun p =>
      (decide ((s.point p).st = .authorized) || decide ((s.point p).st = .starting)) && (s.point p).boundTo n

/-- The host-silence expiry at a point (R75). -/
def State.silencePoint (s : State) (p : Point) : State :=
  if (s.point p).st = .authorized then s.endAuthorization p .hostSilent else s

/-! ## Power (R79, R80) -/

/-- A point is told that the points open (R79). -/
def State.openPoint (s : State) (p : Point) : State := if (s.point p).st = .closed then s.enterIdle p else s

/-- The points open, point A before point B (R79; DESIGN CHOICE, assumption 23). -/
def State.openPoints (s : State) : State := (s.openPoint .a).openPoint .b

/-- A point is told that draining is complete (R79). -/
def State.drainPoint (s : State) (p : Point) : State :=
  if (s.point p).st = .idle ∨ (s.point p).st = .calling then s.enterClosed p else s

/-- The points close at the completion of draining, point A before point B (R79; DESIGN CHOICE, assumption 23). -/
def State.drainPoints (s : State) : State := (s.drainPoint .a).drainPoint .b

/-- A point in AUTHORIZED as the PSC leaves RUN or DRAINING (R80). -/
def State.closeAuthorized (s : State) (p : Point) : State :=
  if (s.point p).st = .authorized then (s.post (.point p) (.authEnded .power)).enterClosed p else s

/-- A point in STARTING, FUELLING or SLOWING as the PSC leaves RUN or DRAINING (R64, R66, R80). -/
def State.closeDelivery (s : State) (p : Point) : State :=
  if s.waiting p then ((s.leaveStarting p).post (.point p) (.authEnded .power)).enterClosed p
  else s.stopHolder p .powerLoss

/-- The points close as the PSC leaves RUN or DRAINING, in the order of R80: the free points, the authorized ones, the
deliveries; in each of them point A before point B (R80; DESIGN CHOICE, assumption 23). -/
def State.closePoints (s : State) : State :=
  let s := s.drainPoints
  let s := (s.closeAuthorized .a).closeAuthorized .b
  (s.closeDelivery .a).closeDelivery .b

/-- VALVE_SUPPLY_OK has become false (R66). -/
def State.supplyLostPoint (s : State) (p : Point) : State :=
  if (s.point p).st.flowing then s.stopHolder p .valveSupplyLost else s

/-- A change of VALVE_SUPPLY_OK reaches the points, point A before point B (R63, R66; DESIGN CHOICE, assumption 23). -/
def State.valveSupplyEvent (s : State) (good : Bool) : State :=
  if good then (s.tryOpen .a).tryOpen .b else (s.supplyLostPoint .a).supplyLostPoint .b

/-- A point of AUTHORIZED…STOPPING stands (R169). -/
def State.anySelling (s : State) : Bool := Point.all.any fun p => (s.point p).st.selling

/-- The pulser hold stands (R173). -/
def State.pulserHold (s : State) : Bool := Point.all.any fun p => decide ((s.point p).st = .stopping)

/-- A point of STARTING…STOPPING has a delivery that names the meter (R14). -/
def State.inDelivery (s : State) (m : Meter) : Bool :=
  Point.all.any fun p => (s.point p).st.delivering && (s.point p).current.any fun r => decide (r.meter = m)

end Sys2Proof.Machine
end

