-- ==== Sys2Proof/Machine/Gate.lean ====
section
/-! DEFINITION. The Card Reader Gate (chapter 8): the reader packets, the gate states, sessions, passage in both
directions, and quarantine. -/

namespace Sys2Proof.Machine

/-! ## The packets of the reader link (8.1, 11.5) -/

/-- The kinds a reader sends (11.5). -/
inductive ReaderKind where
  | hello
  | pass
  | presence
  | idle
  | loopOn
  | loopOff
  | unknown
  deriving DecidableEq, Repr

/-- The kind a kind code names (11.5). -/
def readerKind (b : Byte) : ReaderKind :=
  match b.toNat with
  | 0x10 => .hello
  | 0x11 => .pass
  | 0x12 => .presence
  | 0x13 => .idle
  | 0x14 => .loopOn
  | 0x15 => .loopOff
  | _ => .unknown

/-- The length fixed for a kind allows this length (R129). -/
def ReaderKind.takes : ReaderKind → Nat → Bool
  | .hello, n => n = 12
  | .pass, n => 1 ≤ n && n ≤ 64
  | .presence, n => n = 1
  | .idle, n => n = 0
  | .loopOn, n => n = 0
  | .loopOff, n => n = 0
  | .unknown, n => n ≤ 64

/-- A reader packet as the gate reads it: the toggle and the verdict of its control byte, and its payload (R199). -/
structure ReaderPacket where
  kind : ReaderKind
  toggle : Bool
  verdict : Verdict
  payload : List Byte
  deriving DecidableEq, Repr

/-- The verdict a control byte carries in bits 1 and 2 (11.5). -/
def verdictOf (control : Byte) : Verdict :=
  match control.toNat / 2 % 4 with
  | 0 => .none
  | 1 => .accepted
  | 2 => .held
  | _ => .refused

/-- The number of a verdict (11.5). -/
def Verdict.number : Verdict → Nat
  | .none => 0
  | .accepted => 1
  | .held => 2
  | .refused => 3

/-- A complete reply judged by its length and CRC: the packet, or none where it is a bad packet (R129). -/
def readPacket (bytes : List Byte) : Option ReaderPacket :=
  match bytes with
  | kind :: control :: len :: rest =>
    let n := len.toNat
    if rest.length = n + 2 ∧ (readerKind kind).takes n
        ∧ rest.drop n = crc16Bytes (kind :: control :: len :: rest.take n) then
      some { kind := readerKind kind, toggle := control.getLsbD 0, verdict := verdictOf control, payload := rest.take n }
    else none
  | _ => none

/-- The bytes of a packet the gate builds; bits 4 to 7 of its control byte are 0 (R199). -/
def gatePacket (kind : Byte) (toggle : Bool) (verdict : Verdict) (sync : Bool) (payload : List Byte) : List Byte :=
  let control := (if toggle then 1 else 0) + 2 * verdict.number + (if sync then 8 else 0)
  let body := kind :: BitVec.ofNat 8 control :: BitVec.ofNat 8 payload.length :: payload
  body ++ crc16Bytes body

/-- The identity record of a HELLO (11.5). -/
def identityOf (payload : List Byte) : Identity :=
  match payload with
  | t0 :: t1 :: r0 :: r1 :: serial => { type := le16 t0 t1, revision := le16 r0 r1, serial := serial }
  | _ => { type := 0, revision := 0, serial := payload }

/-! ## The gate and its load (8.2) -/

/-- The READER load is on (8.2, R130): in POWERING outside an off interval, and in SYNC, OPEN and ECHO. -/
def Crg.loadOn (c : Crg) : Bool :=
  match c.st with
  | .off => false
  | .powering => c.offDue.isNone
  | .sync => true
  | .opened => true
  | .echo => true
  | .quarantine => false

/-- The gate has poll instants: SYNC, OPEN or ECHO (R128). -/
def Crg.polls (c : Crg) : Bool :=
  match c.st with
  | .sync => true
  | .opened => true
  | .echo => true
  | _ => false

/-- The time an attempt has in POWERING, and again in SYNC, in milliseconds (R132). -/
def attemptTime : Nat := 10000

/-- The off interval of a retry, in milliseconds (R132). -/
def offInterval : Nat := 1000

/-- The gate with no exchange in progress and nothing for the next packet to answer. -/
def Crg.quietLink (c : Crg) : Crg :=
  { c with exchange := none, pollOwed := false, verdict := .none, lastGood := none }

/-- The load goes on in POWERING: an attempt begins, and the boot time runs if the supply is good (R132). -/
def Crg.beginAttempt (c : Crg) (now : Nat) (supply : Bool) : Crg :=
  { c with offDue := none, attemptDue := now + attemptTime
           bootDue := if supply then some (now + c.settings.bootTime) else none }

/-- Entry to SYNC: the HELLO wait begins (R132); the miss count is held at 0, and a packet owed stays owed (R128). An
echo run stands on, since no rule ends it there (DEDUCED, assumption 42). -/
def Crg.enterSync (c : Crg) (now : Nat) : Crg :=
  { c with st := .sync, attemptDue := now + attemptTime, bootDue := none, offDue := none, miss := 0
           exchange := none, verdict := .none, lastGood := none }

/-! ## Sessions (R133, R134) -/

/-- The outbound mailbox is flushed, head first (R134). -/
def State.flushOutbound (s : State) : State :=
  let s' := s.crg.outbound.foldl (fun s e => s.post .none (.readerOutboundEnd e.tag .flushed)) s
  s'.mapCrg fun c => { c with outbound := [] }

/-- The DLE is handed the end of a session, if there was one (R134, R76). -/
def State.tellSessionEnd (s : State) (session : Option Nat) : State :=
  match session with
  | some n => s.sessionEnd n
  | none => s

/-- A change of gate state that opens no session: a session that stood ends, its mailbox flushed before the READER_GATE
report; the DLE takes the session's end after it (R130, R134, 8.10). -/
def State.moveGate (s : State) (cause : GateCause) (f : Crg → Crg) : State :=
  let old := s.crg.st
  let ended := s.crg.session
  let s := s.flushOutbound.mapCrg fun c => f { c with session := none }
  (s.post .none (.readerGate old s.crg.st cause ended none false)).tellSessionEnd ended

/-- The gate takes a good HELLO: the next session opens, and a session that stood ends before it (R133, R137). -/
def State.openSession (s : State) (cause : GateCause) (id : Identity) : State :=
  let old := s.crg.st
  let ended := s.crg.session
  let changed := (s.crg.identity.map fun x => decide (x ≠ id)).getD false
  let number := (s.crg.counter + 1) % 65536
  let s := s.flushOutbound.mapCrg fun c =>
    { c with st := .opened, counter := number, session := some number, identity := some id, readerToggle := false
             gateToggle := false, miss := 0, run := none, attempts := 0, bootDue := none, verdict := .accepted }
  (s.post .none (.readerGate old .opened cause (some number) (some id) changed)).tellSessionEnd ended

/-! ## Quarantine (R145, R146) -/

/-- The inbound queue is emptied at entry to QUARANTINE (R146). -/
def State.flushInbound (s : State) : State :=
  let sessions := s.crg.inbound.map (·.session)
  if sessions = [] then s
  else
    (s.mapCrg fun c => { c with inbound := [], flushed := satAdd 65535 c.flushed sessions.length }).post .none
      (.readerInboundFlushed sessions)

/-- Entry to QUARANTINE (R146). -/
def State.quarantine (s : State) (cause : QuarantineCause) : State :=
  let old := s.crg.st
  let ended := s.crg.session
  let s := s.flushOutbound.flushInbound.mapCrg fun c =>
    { c.quietLink with st := .quarantine, cause := some cause, session := none, miss := 0, errors := 0, attempts := 0
                       run := none, losses := [], offDue := none, bootDue := none }
  (s.post .none (.readerGate old .quarantine (.quarantine cause) ended none false)).tellSessionEnd ended

/-- An assertion of the tamper line as the gate takes it (R145). -/
def State.tamperAct (s : State) : State :=
  if s.crg.st ≠ .quarantine then s.quarantine .tamper
  else if s.crg.cause = some .tamper then s
  else
    (s.mapCrg fun c => { c with cause := some .tamper }).post .none
      (.readerGate .quarantine .quarantine (.quarantine .tamper) none none false)

/-! ## Powering up and down (R131, R132, R143, R147, R148) -/

/-- The gate enters POWERING and turns the load on (R131, R143, R147). The miss count and an echo run stand as they are,
since R143 lists neither: they are 0 and none where the gate comes from OFF or QUARANTINE (DEDUCED, assumption 42). -/
def State.powerGate (s : State) (cause : GateCause) (f : Crg → Crg) : State :=
  let supply := s.good .readerSupply
  s.moveGate cause fun c => { (f c).quietLink with st := .powering }.beginAttempt s.now supply

/-- READER_ON in OFF, from the host or from a step (R131). -/
def State.readerOnFromOff (s : State) (cause : GateCause) : State :=
  s.powerGate cause fun c => { c with attempts := 0 }

/-- READER_OFF, from the host or from the PSC (R148). -/
def State.readerOffAct (s : State) (cause : GateCause) : State :=
  if s.crg.st = .off ∨ s.crg.st = .quarantine then s
  else s.moveGate cause fun c =>
    { c.quietLink with st := .off, miss := 0, errors := 0, run := none, losses := [], offDue := none, bootDue := none }

/-- A failure of an attempt (R132). -/
def State.attemptFailed (s : State) : State :=
  if 3 ≤ s.crg.attempts + 1 then s.quarantine .noHello
  else s.moveGate .retry fun c =>
    { c.quietLink with st := .powering, attempts := c.attempts + 1
                       offDue := some (s.now + offInterval), bootDue := none }

/-- A change of READER_SUPPLY_OK reaches the gate (R132, R143). -/
def State.readerSupplyEvent (s : State) (good : Bool) : State :=
  match s.crg.st with
  | .powering =>
    if s.crg.offDue.isSome then s
    else s.mapCrg fun c => { c with bootDue := if good then some (s.now + c.settings.bootTime) else none }
  | .sync => if good then s else s.powerGate .supplyLost id
  | .opened => if good then s else s.powerGate .supplyLost id
  | .echo => if good then s else s.powerGate .supplyLost id
  | .off => s
  | .quarantine => s

/-! ## Link loss and violations (R142, R144) -/

/-- The time a link loss is remembered, in milliseconds (R142). -/
def lossMemory : Nat := 600000

/-- The link is lost (R142). -/
def State.linkLost (s : State) : State :=
  let recent := s.crg.losses.filter fun t => decide (s.now - t ≤ lossMemory)
  if 2 ≤ recent.length then s.quarantine .linkLostRepeated
  else s.moveGate .linkLost fun c => { c with losses := recent ++ [s.now] }.enterSync s.now

/-- A violation (R144). -/
def State.violation (s : State) : State :=
  let s := s.mapCrg fun c => { c with errors := satAdd 255 c.errors 1 }
  if s.crg.settings.errorThreshold ≤ s.crg.errors then s.quarantine .errorRate else s

/-! ## Packets of the gate (R128, R140, R199) -/

/-- The packet the gate sends at a poll instant, and whether it is a PASS (R128). -/
def Crg.nextPacket (c : Crg) : List Byte × Bool :=
  match c.st with
  | .opened =>
    match c.outbound with
    | e :: _ => (gatePacket 0x02 c.gateToggle c.verdict false e.payload, true)
    | [] => (gatePacket 0x01 false c.verdict false [], false)
  | .echo =>
    match c.lastGood with
    | some bytes => (bytes, false)
    | none => (gatePacket 0x01 false c.verdict false [], false)
  | _ => (gatePacket 0x01 false c.verdict true [], false)

/-- The gate sends a packet, which opens an exchange (R128). -/
def Crg.send (c : Crg) (now : Nat) : Crg :=
  let (bytes, pass) := c.nextPacket
  { c with sent := bytes, exchange := some { sentAt := now, pass := pass }, pollOwed := false, verdict := .none
           lastGood := none }

/-- The exchange is over. -/
def State.endExchange (s : State) : State := s.mapCrg fun c => { c with exchange := none }

/-- A packet owed from a poll instant that fell into the reply is sent when the reply ends (R128). -/
def State.sendOwed (s : State) : State :=
  s.mapCrg fun c => if c.pollOwed && c.polls then c.send s.now else c

/-! ## Packets of the reader (R129, R135 to R137, R140, R149, R150) -/

/-- The verdict for the next gate packet. -/
def State.answer (s : State) (v : Verdict) : State := s.mapCrg fun c => { c with verdict := v }

/-- A new sequenced packet given a final verdict flips the expected reader toggle (R135). -/
def State.answerFinal (s : State) (v : Verdict) : State :=
  s.mapCrg fun c => { c with verdict := v, readerToggle := !c.readerToggle }

/-- The reader's verdict on the head of the mailbox (R140). -/
def State.outboundVerdict (s : State) (v : Verdict) : State :=
  match s.crg.outbound with
  | [] => s
  | e :: rest =>
    let remove (o : Outcome3) : State :=
      (s.mapCrg fun c => { c with outbound := rest, gateToggle := !c.gateToggle }).post .none
        (.readerOutboundEnd e.tag o)
    match v with
    | .accepted => remove .delivered
    | .refused => remove .refused
    | .held => s
    | .none => s

/-- A new PASS in OPEN (R136). -/
def State.takePass (s : State) (session : Nat) (payload : List Byte) : State :=
  if s.crg.inbound.length < s.crg.settings.holdThreshold then
    let first := s.crg.inbound.isEmpty
    let s := (s.mapCrg fun c =>
      { c with inbound := c.inbound ++ [{ session := session, arrived := s.stamp, payload := payload }]
      }).answerFinal .accepted
    if first then s.post .none (.readerInbound session) else s
  else s.answer .held

/-- A new PRESENCE in OPEN (R129, R137). -/
def State.takePresence (s : State) (session : Nat) (payload : List Byte) : State :=
  if payload = [0x01] then (s.answerFinal .accepted).post .none (.readerPresence session true)
  else if payload = [0x02] then (s.answerFinal .accepted).post .none (.readerPresence session false)
  else (s.answerFinal .refused).violation

/-- The echo run after a loop packet of a kind: one that stands goes on, and otherwise one begins (R149, R150). -/
def Crg.runAt (c : Crg) (kind : EchoKind) (now : Nat) : Nat :=
  match c.run with
  | some (k, t) => if k = kind then t else now
  | none => now

/-- The time a run of loop packets must have lasted, in milliseconds (R149, R150). -/
def echoTime : Nat := 3000

/-- A good packet of another kind than the run's, or a bad packet, ends the echo run. A duplicate and a refused packet
count as taken (DEDUCED, assumption 43). -/
def State.breakRun (s : State) : State := s.mapCrg fun c => { c with run := none }

/-- A LOOP_ON in OPEN (R149). -/
def State.takeLoopOn (s : State) : State :=
  let began := s.crg.runAt .loopOn s.now
  let s := s.mapCrg fun c => { c with run := some (.loopOn, began) }
  if began + echoTime ≤ s.now ∧ s.crg.settings.echo ∧ ¬ s.bindingStands then
    s.moveGate .echoStart fun c => { c with st := .echo, miss := 0, run := none, verdict := .none }
  else s.answer .accepted

/-- A LOOP_OFF in ECHO (R150). -/
def State.takeLoopOff (s : State) : State :=
  let began := s.crg.runAt .loopOff s.now
  let s := s.mapCrg fun c => { c with run := some (.loopOff, began) }
  if began + echoTime ≤ s.now then s.moveGate .echoEnd (·.enterSync s.now) else s

/-- A packet of this kind is of the echo run's own kind (R149, R150). -/
def Crg.continuesRun (c : Crg) (k : ReaderKind) : Bool :=
  match c.run, k with
  | some (.loopOn, _), .loopOn => true
  | some (.loopOff, _), .loopOff => true
  | _, _ => false

/-- A good packet of a kind in SYNC ends an echo run that stands on there and is of another kind (R149, R150;
assumptions 42 and 43). -/
def State.breakOther (s : State) (k : ReaderKind) : State := if s.crg.continuesRun k then s else s.breakRun

/-- A kind refused in SYNC or OPEN (R129). -/
def State.refusePacket (s : State) : State := (s.answer .refused).violation

/-- A good packet in SYNC (R129). -/
def State.judgeInSync (s : State) (k : ReaderPacket) : State :=
  let s := s.breakOther k.kind
  match k.kind with
  | .hello => s.openSession .hello (identityOf k.payload)
  | .idle => s
  | .pass => s.refusePacket
  | .presence => s.refusePacket
  | .loopOn => s.refusePacket
  | .loopOff => s.refusePacket
  | .unknown => s.refusePacket

/-- A good packet in OPEN, in a session (R129, R135). -/
def State.judgeInOpen (s : State) (session : Nat) (k : ReaderPacket) : State :=
  let isNew := decide (k.toggle = s.crg.readerToggle)
  match k.kind with
  | .hello => s.openSession .readerRestart (identityOf k.payload)
  | .pass => if isNew then s.breakRun.takePass session k.payload else s.breakRun.answer .accepted
  | .presence => if isNew then s.breakRun.takePresence session k.payload else s.breakRun.answer .accepted
  | .idle => s.breakRun.answer .accepted
  | .loopOn => s.takeLoopOn
  | .loopOff => s.breakRun.answer .accepted
  | .unknown => s.breakRun.refusePacket

/-- A good packet in ECHO; the next gate packet sends it back (R129, R150). -/
def State.judgeInEcho (s : State) (k : ReaderPacket) : State :=
  match k.kind with
  | .loopOff => s.takeLoopOff
  | .unknown => s.breakRun.violation
  | .hello => s.breakRun
  | .pass => s.breakRun
  | .presence => s.breakRun
  | .idle => s.breakRun
  | .loopOn => s.breakRun

/-- A good packet is judged by its kind and the gate state; the reader's verdict on a PASS of the gate is taken before
it (R129, R140; assumption 20). -/
def State.judgePacket (s : State) (pass : Bool) (bytes : List Byte) (k : ReaderPacket) : State :=
  match s.crg.st, s.crg.session with
  | .sync, _ => s.judgeInSync k
  | .opened, some n =>
    let s := s.mapCrg fun c => { c with miss := 0, lastGood := some bytes }
    let s := if pass then s.outboundVerdict k.verdict else s
    s.judgeInOpen n k
  | .echo, _ => (s.mapCrg fun c => { c with miss := 0, lastGood := some bytes }).judgeInEcho k
  | _, _ => s

/-- A bad packet: no verdict, one violation, and a run of loop packets ends (R129, R149, R150). -/
def State.badPacket (s : State) : State := s.breakRun.violation

end Sys2Proof.Machine
end

