-- ==== Sys2Proof/Machine/Power.lean ====
section
/-! DEFINITION. The Power Sequencing Controller (chapter 9): the loads, the step table, waking, sleep and the shutdown
run, mains loss and return, the comparators and the day clock. -/

namespace Sys2Proof.Machine

/-! ## The loads (R158) -/

/-- The PSC's drive of a load; that of READER is what the PSC last handed the gate, whatever the host has asked of the
gate since (R130, R158). -/
def State.drive (s : State) : Load → Bool
  | .pulserSupply => s.psc.drives.pulserSupply
  | .valveSupply => s.psc.drives.valveSupply
  | .displayA => s.psc.drives.displayA
  | .displayB => s.psc.drives.displayB
  | .heaterA => s.psc.drives.heaterA
  | .heaterB => s.psc.drives.heaterB
  | .reader => s.psc.drives.reader
  | .aux1 => s.psc.drives.aux1
  | .aux2 => s.psc.drives.aux2

/-- A hold keeps the load on (R158, R172, R173). -/
def State.heldOn (s : State) : Load → Bool
  | .pulserSupply => s.pulserHold
  | .displayA => decide ((s.side .a).hold ≠ .none)
  | .displayB => decide ((s.side .b).hold ≠ .none)
  | .valveSupply => false
  | .heaterA => false
  | .heaterB => false
  | .reader => false
  | .aux1 => false
  | .aux2 => false

/-- The output of a load: that of READER is as the gate's state gives, and every other follows its drive and its hold
(R130, R158). -/
def State.output (s : State) : Load → Bool
  | .reader => s.crg.loadOn
  | l => s.drive l || s.heldOn l

/-- The load is on as the shutdown run takes it: READER is on from POWERING to ECHO, an off interval of a retry
included (R132, R170; assumption 29). -/
def State.loadIsOn (s : State) : Load → Bool
  | .reader => decide (s.crg.st ≠ .off) && decide (s.crg.st ≠ .quarantine)
  | l => s.output l

/-- The drives with one of them replaced. -/
def Drives.with (d : Drives) (l : Load) (on : Bool) : Drives :=
  match l with
  | .pulserSupply => { d with pulserSupply := on }
  | .valveSupply => { d with valveSupply := on }
  | .displayA => { d with displayA := on }
  | .displayB => { d with displayB := on }
  | .heaterA => { d with heaterA := on }
  | .heaterB => { d with heaterB := on }
  | .reader => { d with reader := on }
  | .aux1 => { d with aux1 := on }
  | .aux2 => { d with aux2 := on }

/-- The side of a display load. -/
def displayOf : Load → Option Side
  | .displayA => some .a
  | .displayB => some .b
  | _ => none

/-- A side's load may have gone off: a display test in flight is aborted, and a zero check fails (R118, R121). -/
def State.darken (s : State) (x : Side) : State :=
  if s.refreshing x then s
  else
    let s := s.endTest x .aborted
    if (s.side x).zero = .none then s else s.zeroFailed x

/-- The PSC sets the drive of a load, and hands the gate a READER_OFF where it turns READER off (R148, R158). -/
def State.setDrive (s : State) (l : Load) (on : Bool) : State :=
  let s := s.mapPsc fun c => { c with drives := c.drives.with l on }
  match l with
  | .reader => if on then s else s.readerOffAct .sequence
  | l =>
    match displayOf l with
    | some x => s.darken x
    | none => s

/-- Every drive becomes off in one event, side A's display before side B's (R121; DESIGN CHOICE, assumption 23), and the
gate is handed a READER_OFF (R158, R162, R171). -/
def State.allOff (s : State) : State :=
  let s := s.mapPsc fun c => { c with drives := noDrives }
  ((s.darken .a).darken .b).readerOffAct .sequence

/-- Each drive takes the value of its load's output (R158, R166). -/
def State.drivesFromOutputs (s : State) : State :=
  s.mapPsc fun c =>
    { c with drives :=
        { pulserSupply := s.output .pulserSupply, valveSupply := s.output .valveSupply, displayA := s.output .displayA
          displayB := s.output .displayB, heaterA := s.output .heaterA, heaterB := s.output .heaterB
          reader := s.output .reader, aux1 := s.output .aux1, aux2 := s.output .aux2 } }

/-- The heater demand drives the heaters in RUN and DRAINING (R125). -/
def State.driveHeaters (s : State) : State :=
  if s.pointsOpen then
    let a := s.heaterDemand .a
    let b := s.heaterDemand .b
    s.mapPsc fun c => { c with drives := { c.drives with heaterA := a, heaterB := b } }
  else s

/-! ## Power states (9.2) -/

/-- A change of power state and its report (9.2). -/
def State.enterPower (s : State) (p : PowerSt) (cause : PowerCause) : State :=
  let old := s.psc.power
  let s := s.mapPsc fun c => { c with power := p }
  s.post .none (.powerState old p cause s.psc.intended)

/-- The intended state takes a value, written into CONFIG at a change (R157). -/
def State.intend (s : State) (i : Intended) : State :=
  if s.psc.intended = i then s else (s.mapPsc fun c => { c with intended := i }).touchConfig

/-! ## The step table (R160 to R163) -/

/-- What happens next to the step in hand. -/
inductive StepMove where
  | begins (n : Nat)
  | checks
  | passes
  | fails (reason : StepReason) (dduReason : Nat)
  deriving DecidableEq, Repr

/-- A step of the table, by its number from 1. -/
def Psc.step? (c : Psc) (n : Nat) : Option PowerStep := if n = 0 then none else c.steps[n - 1]?

/-- The step in hand with its number. -/
def Psc.inHand (c : Psc) : Option (Nat × PowerStep) :=
  c.cursor.bind fun k => (c.step? k.step).map fun st => (k.step, st)

/-- The cursor stands at a step in a phase from now on. -/
def State.place (s : State) (n : Nat) (phase : StepPhase) : State :=
  s.mapPsc fun c => { c with cursor := some { step := n, phase := phase, since := s.now } }

/-- The end of the sequence; the retry count of no step reads 0 (R163; assumption 46). -/
def State.sequenceDone (s : State) : State :=
  let s := s.mapPsc fun c => { c with cursor := none, retries := 0 }
  ((s.enterPower .run .sequenceDone).openPoints).driveHeaters

/-- ABORT: the sequence ends without success; the retry count of no step reads 0 (R162; DESIGN CHOICE, assumption
46). -/
def State.halt (s : State) : State :=
  let s := s.mapPsc fun c => { c with cursor := none, retries := 0 }
  (s.enterPower .halted .stepAbort).allOff

/-- A step's action on its load: the drive takes the commanded value, and the gate is handed a READER_ON, which it takes
in OFF. The READER_ON of a step that finds the gate in QUARANTINE is not taken (R131, R160). -/
def State.applyAction (s : State) (st : PowerStep) : State × Bool :=
  match st.load with
  | none => (s, true)
  | some .reader =>
    let t := s.setDrive .reader st.turnOn
    if st.turnOn ∧ s.crg.st = .off then (t.readerOnFromOff .sequence, true)
    else (t, !st.turnOn || decide (s.crg.st ≠ .quarantine))
  | some l => (s.setDrive l st.turnOn, true)

/-- The number of a display test refusal, as STEP_FAILED carries it. -/
def TestRefusal.number : TestRefusal → Nat
  | .loadOff => 1
  | .holding => 2
  | .selling => 3
  | .inFlight => 4

/-- What the check of a step finds on entry to CHECK: passed, failed, or neither yet (R160, R161). A display test that
can begin is begun. -/
def State.enterCheck (s : State) (st : PowerStep) : State × Option StepMove :=
  let wait : Option StepMove := if st.timeout = 0 then some (.fails .checkTimeout 0) else none
  match st.check with
  | .none => (s, some .passes)
  | .condition c => (s, if s.good c then some .passes else wait)
  | .readerOpen =>
    (s, if s.crg.st = .opened then some .passes
        else if s.crg.st = .quarantine then some (.fails .quarantined 0) else wait)
  | .displayTest x =>
    match s.testBarred x with
    | some r => (s, some (.fails .testNotRun r.number))
    | none => (s.startSequenceTest x, wait)

/-- A step fails with an action: the report, kept as the last particulars (R162, R180). -/
def State.reportFailure (s : State) (n : Nat) (st : PowerStep) (reason : StepReason) (ddu : Nat) (action : StepAction) :
    State :=
  let f : StepFailure :=
    { step := n, load := st.load, check := st.check, reason := reason, dduReason := ddu, action := action
      attempt := 1 + s.psc.retries }
  (s.mapPsc fun c => { c with lastFailure := some f }).post .none (.stepFailed f)

/-- RETRY: the step enters RETRY_WAIT and an ON step's load goes off (R162). -/
def State.enterRetryWait (s : State) (n : Nat) (st : PowerStep) : State :=
  let s := (s.mapPsc fun c => { c with retries := c.retries + 1 }).place n .retryWait
  match st.turnOn, st.load with
  | true, some l => s.setDrive l false
  | _, _ => s

/-- The sequence goes on from a move of the step in hand, through every step that passes or fails in the same event;
`fuel` bounds the moves (R160 to R163). -/
def State.runSteps : Nat → StepMove → State → State
  | 0, _, s => s
  | fuel + 1, .begins n, s =>
    match s.psc.step? n with
    | none => s.sequenceDone
    | some st =>
      let (s, taken) := (s.place n .settle).applyAction st
      if !taken then s.runSteps fuel (.fails .quarantined 0)
      else if st.settle = 0 then s.runSteps fuel .checks
      else s
  | fuel + 1, .checks, s =>
    match s.psc.inHand with
    | none => s
    | some (n, st) =>
      match (s.place n .check).enterCheck st with
      | (s, some move) => s.runSteps fuel move
      | (s, none) => s
  | fuel + 1, .passes, s =>
    match s.psc.inHand with
    | none => s
    | some (n, _) => (s.mapPsc fun c => { c with retries := 0 }).runSteps fuel (.begins (n + 1))
  | fuel + 1, .fails reason ddu, s =>
    match s.psc.inHand with
    | none => s
    | some (n, st) =>
      match st.onFail with
      | .abort => (s.reportFailure n st reason ddu .abort).halt
      | .proceed =>
        ((s.reportFailure n st reason ddu .proceed).mapPsc fun c => { c with retries := 0 }).runSteps fuel
          (.begins (n + 1))
      | .retry count =>
        if s.psc.retries < count then
          let s := (s.reportFailure n st reason ddu .retry).enterRetryWait n st
          if st.settle = 0 then s.runSteps fuel (.begins n) else s
        else (s.reportFailure n st reason ddu .abort).halt

/-- Enough moves for every step of the table with all its retries. -/
def Psc.stepFuel (c : Psc) : Nat := 16 * (c.steps.length + 1)

/-- The sequence goes on from a move. -/
def State.advanceSteps (s : State) (move : StepMove) : State := s.runSteps s.psc.stepFuel move

/-- The step in hand is in CHECK with this check. -/
def Psc.checking (c : Psc) (k : Check) : Bool :=
  decide (c.power = .waking) && (c.cursor.any fun x => decide (x.phase = .check))
    && (c.inHand.any fun x => decide (x.2.check = k))

/-- The gate's notices of entry to OPEN and to QUARANTINE reach a READER_OPEN check (R130, R161). -/
def State.gateNotice (s : State) : State :=
  if s.psc.checking .readerOpen then
    if s.crg.st = .opened then s.advanceSteps .passes
    else if s.crg.st = .quarantine then s.advanceSteps (.fails .quarantined 0)
    else s
  else s

/-- The DDU hands the PSC the result of a test it asked for (R161). -/
def State.testNotice (s : State) (x : Side) (result : TestResult) : State :=
  if s.psc.checking (.displayTest x) then
    match result with
    | .passed => s.advanceSteps .passes
    | .failed => s.advanceSteps (.fails .testFailed 0)
    | .aborted => s.advanceSteps (.fails .testAborted 0)
  else s

/-! ## Waking (R164 to R166) -/

/-- The power cause of a wake cause. -/
def WakeCause.power : WakeCause → PowerCause
  | .request => .request
  | .schedule => .schedule
  | .nozzle => .nozzle
  | .card => .card
  | .mainsReturn => .mainsReturn

/-- Entry to WAKING (R166). -/
def State.enterWaking (s : State) (cause : PowerCause) : State :=
  let s := (s.drivesFromOutputs.intend .run).mapPsc fun c =>
    { c with wakePending := none, shutdown := [], retries := 0, lastFailure := none }
  (s.enterPower .waking cause).advanceSteps (.begins 1)

/-- A wake takes the PSC into WAKING (R164). -/
def State.wakeNow (s : State) (cause : WakeCause) : State :=
  (s.post .none (.wake cause .waking)).enterWaking cause.power

/-- A wake waits for mains (R164, R165). -/
def State.wakeLater (s : State) (cause : WakeCause) : State :=
  (s.mapPsc fun c => { c with wakePending := some cause }).post .none (.wake cause .pending)

/-- A wake returns the PSC from DRAINING to RUN and abandons the drain (R164). -/
def State.backToRun (s : State) (cause : WakeCause) : State :=
  ((s.intend .run).post .none (.wake cause .run)).enterPower .run cause.power

/-- A wake where mains is present, and a deferred one where it is not. -/
def State.wakeOrDefer (s : State) (cause : WakeCause) : State :=
  if s.good .mains then s.wakeNow cause else s.wakeLater cause

/-- The wake minute (R164, R179). -/
def State.wakeMinute (s : State) : State :=
  match s.psc.power with
  | .night => s.wakeOrDefer .schedule
  | .halted => s.wakeOrDefer .schedule
  | .draining => s.backToRun .schedule
  | .mainsLost => s.wakeLater .schedule
  | .waking => s
  | .run => s

/-- A wake line that its enable lets through (R164). -/
def State.wakeLine (s : State) (cause : WakeCause) (enabled : Bool) : State :=
  if enabled ∧ s.psc.power = .night then s.wakeOrDefer cause else s

/-! ## Sleep, drain and the shutdown run (R168 to R170) -/

/-- The loads that the ON steps name, from the last step to the first, each at its first appearance (R170). -/
def shutdownOrder (steps : List PowerStep) : List Load :=
  let named := (steps.reverse.filter (·.turnOn)).filterMap (·.load)
  let first := named.foldl (fun l x => if l.contains x then l else l ++ [x]) []
  first ++ Load.all.filter fun l => !first.contains l

/-- The next listed load that is on goes off; those already off are passed over (R170). -/
def State.shutNext (s : State) : State :=
  match s.psc.shutdown.dropWhile fun l => !s.loadIsOn l with
  | [] => s.mapPsc fun c => { c with shutdown := [] }
  | l :: rest => (s.mapPsc fun c => { c with shutdown := rest }).setDrive l false

/-- The interval of the shutdown run, in milliseconds (R170). -/
def shutdownInterval : Nat := 100

/-- Entry to NIGHT from a drain: the points close, the motors stop and the shutdown run begins (R169, R170). -/
def State.completeDrain (s : State) : State :=
  let s := (s.drainPoints.allMotorsOff).enterPower .night .drainDone
  let list := (shutdownOrder s.psc.steps).filter s.loadIsOn
  (s.mapPsc fun c => { c with shutdown := list, shutdownDue := s.now + shutdownInterval }).shutNext

/-- Drain completion, tested in an event that enters DRAINING or in which a point leaves AUTHORIZED…STOPPING; `before`
is the state before the event (R169). -/
def State.drainTest (s before : State) : State :=
  if s.psc.power = .draining ∧ s.anySelling = false ∧ (before.psc.power ≠ .draining ∨ before.anySelling = true) then
    s.completeDrain
  else s

/-- SLEEP, and the night minute (R168). Drain completion is tested at the end of the event. -/
def State.sleepAct (s : State) (cause : PowerCause) : State :=
  match s.psc.power with
  | .run => (s.intend .night).enterPower .draining cause
  | .draining => s
  | .waking => ((s.intend .night).mapPsc fun c => { c with cursor := none, retries := 0 }).completeDrain
  | .halted => ((s.intend .night).mapPsc fun c => { c with wakePending := none }).enterPower .night cause
  | .night => (s.intend .night).mapPsc fun c => { c with wakePending := none }
  | .mainsLost => (s.intend .night).mapPsc fun c => { c with wakePending := none }

/-! ## Mains loss and return (R171 to R175) -/

/-- MAINS_OK has become false in WAKING, RUN or DRAINING (R171). The holds are decided on the loads as they stood
(R172). The sequence stops before the display tests end, so that a step whose test is aborted does not fail, and the tests
end before the holds are taken (R121, R161; DEDUCED, assumption 12). Of the two sides' tests and of their holds, side A's
comes first (R120, R121, R123; DESIGN CHOICE, assumption 23). -/
def State.mainsLoss (s : State) : State :=
  let holdA := s.holdDecision .a
  let holdB := s.holdDecision .b
  let s := (s.mapPsc fun c => { c with cursor := none, retries := 0 }).enterPower .mainsLost .mainsLoss
  let s := (s.endTest .a .aborted).endTest .b .aborted
  let s := (s.takeHold .a holdA).takeHold .b holdB
  (s.allMotorsOff.closePoints).allOff

/-- The display holds end with a reason, and loads whose drive is off go dark; side A comes before side B (R123, R172;
DESIGN CHOICE, assumption 23). -/
def State.endHolds (s : State) (reason : HoldEnd) : State :=
  ((((s.endHold .a reason)).endHold .b reason).darken .a).darken .b

/-- A wake that waits for mains, or the intended state RUN, wakes the part at the rise of mains in NIGHT; only the
former wakes a HALTED part (R164, R165). Where one event takes the part from MAINS_LOST to NIGHT and on to WAKING, the
posts are POWER_STATE of NIGHT, WAKE and POWER_STATE of WAKING (R164, R165; DESIGN CHOICE, assumption 23). -/
def State.mainsRise (s : State) : State :=
  match s.psc.power, s.psc.wakePending with
  | .night, some cause => s.wakeNow cause
  | .night, none => if s.psc.intended = .run then s.wakeNow .mainsReturn else s
  | .halted, some cause => s.wakeNow cause
  | .mainsLost, pending =>
    if s.psc.intended = .run then (s.drivesFromOutputs.endHolds .mainsReturn).wakeNow .mainsReturn
    else
      let s := (s.endHolds .mainsReturn).enterPower .night .mainsReturn
      match pending with
      | some cause => s.wakeNow cause
      | none => s
  | _, _ => s

/-- MAINS_OK has become false (R171). -/
def State.mainsFall (s : State) : State :=
  match s.psc.power with
  | .waking => s.mainsLoss
  | .run => s.mainsLoss
  | .draining => s.mainsLoss
  | .night => s
  | .halted => s
  | .mainsLost => s

/-! ## The comparators (R154, R155) -/

/-- The timer of the present direction runs: the input is on the far side of the reference in force (R154). -/
def Sensor.timing (x : Sensor) (millivolts : Nat) : Bool :=
  if x.good then decide (millivolts < ladder x.settings.kf) else decide (ladder x.settings.kr ≤ millivolts)

/-- The persistence of the present direction (R154). -/
def Sensor.persistence (x : Sensor) : Nat := if x.good then x.settings.failMs else x.settings.recoverMs

/-- The sensor whose condition has just become a value: the timer of the new direction starts from zero (R154). -/
def Sensor.become (x : Sensor) (value : Bool) (millivolts now : Nat) : Sensor :=
  let x := { x with good := value }
  { x with since := if x.timing millivolts then some now else none }

/-- The change of a condition is handed to the blocks that use it (R155). -/
def State.handCondition (s : State) (c : Comparator) (good : Bool) : State :=
  match c with
  | .mains => if good then s.mainsRise else s.mainsFall
  | .standby => if !good ∧ s.psc.power = .mainsLost then s.endHolds .standbyLost else s
  | .valveSupply => s.retimeAll.valveSupplyEvent good
  | .pulserSupply => if good then s else s.suspendAll
  | .readerSupply => s.readerSupplyEvent good
  | .displaySupply => s
  | .warmA => s.driveHeaters
  | .warmB => s.driveHeaters

/-- A condition becomes a value: posted, handed on, and taken by a step that checks it (R154, R155, R160). -/
def State.conditionBecomes (s : State) (c : Comparator) (value : Bool) : State :=
  let mv := s.pins.millivolts.sc c
  let s := s.mapPsc fun k => { k with sensors := k.sensors.setSc c ((k.sensors.sc c).become value mv s.now) }
  let checked := s.psc.checking (.condition c)
  let s := (s.changed (.sense c) value).handCondition c value
  if value && checked && s.psc.checking (.condition c) then s.advanceSteps .passes else s

/-! ## The day clock (R178, R179) -/

/-- The clock one second later (R178). -/
def Stamp.next (t : Stamp) : Stamp :=
  if t.sec + 1 < 86400 then { t with sec := t.sec + 1 } else { day := (t.day + 1) % 65536, sec := 0 }

/-- A minute of the schedule is reached at a second of the day (R179). -/
def reaches (minute : Option Nat) (sec : Nat) : Bool := minute.any fun m => decide (60 * m = sec)

/-- The clock advances by its own running, and a minute of the schedule it reaches is taken (R178, R179). -/
def State.clockSecond (s : State) : State :=
  let s := s.mapPsc fun c => { c with clock := c.clock.next, secondDue := c.secondDue + 1000 }
  if !s.psc.clockSet then s
  else if reaches s.psc.schedule.night s.psc.clock.sec then s.sleepAct .schedule
  else if reaches s.psc.schedule.wake s.psc.clock.sec then s.wakeMinute
  else s

/-! ## The end of an event -/

/-- What an event leaves to be taken at its end: the gate's notices to the PSC, drain completion, and the changes of
retained content; `before` is the state before the event (R97, R161, R169). -/
def State.settle (s before : State) : State := ((s.gateNotice).drainTest before).commit

end Sys2Proof.Machine
end

