-- ==== Sys2Proof/Machine/Start.lean ====
section
/-! DEFINITION. The loss of the supply, and the two kinds of start: the judgement of the regions, the recovery of
interrupted sales, and the state every block takes (R45, R46, R83, R98, R100 to R105, R127, R153, R181, R194 to
R196). -/

namespace Sys2Proof.Machine

variable {α : Type}

/-! ## The fall of the supply (R98, R183) -/

/-- What an abandoned write leaves of a region (R98). -/
def Region.abandon (r : Region α) (fate : WriteFate) : Region α :=
  match r.inFlight with
  | none => { r with held := false }
  | some content =>
    match fate with
    | .untouched => { r with inFlight := none, held := false }
    | .completed => { r.finish with held := false }
    | .torn count check => { r.setOther (unsoundCopy count check content) with inFlight := none, held := false }

/-- The standby supply falls or RESET is asserted: the part stops, its writes in flight are abandoned, and a request in
hand or in the buffer is lost (R98, R183). -/
def State.supplyFall (s : State) (f : WriteFates) : State :=
  { s with
    powered := false
    hlp := { s.hlp with hand := none, buffer := [], rx := .hunt }
    rtm := { s.rtm with
      config := s.rtm.config.abandon f.config
      totals := s.rtm.totals.abandon f.totals
      deliveries := s.rtm.deliveries.abandon f.deliveries
      unwritten := [], carried := [], owed := [], dirtyConfig := false, dirtyDeliveries := false } }

/-! ## The judgement of a region (R100) -/

/-- One write count is later than another (R100). -/
def laterCount (x y : BitVec 32) : Bool := 1 ≤ (x - y).toNat && (x - y).toNat < 2147483648

/-- The content, count and validity of a region judged by its two copies (R100). -/
def Region.judge (r : Region α) (default : α) : α × BitVec 32 × Validity :=
  if r.copy1.sound then
    if r.copy2.sound then
      if laterCount r.copy2.count r.copy1.count then (r.copy2.content, r.copy2.count, .good)
      else (r.copy1.content, r.copy1.count, .good)
    else (r.copy1.content, r.copy1.count, if r.copy2.count = r.copy1.count + 1 then .older else .good)
  else if r.copy2.sound then
    (r.copy2.content, r.copy2.count, if r.copy1.count = r.copy2.count + 1 then .older else .good)
  else (default, 0, .defaulted)

/-- A copy found unsound for another reason than an abandoned write (R98, R102). -/
def Copy.spoil (c : Copy α) (spoiled : Bool) : Copy α :=
  if spoiled then unsoundCopy c.count c.check c.content else c

/-- A region with copies spoiled. -/
def Region.spoil (r : Region α) (first second : Bool) : Region α :=
  { r with copy1 := r.copy1.spoil first, copy2 := r.copy2.spoil second }

/-- The retained memory with the copies spoiled that a power-on start finds unsound. -/
def Rtm.spoil (r : Rtm) (x : Spoiled) : Rtm :=
  { r with
    config := r.config.spoil x.config1 x.config2
    totals := r.totals.spoil x.totals1 x.totals2
    deliveries := r.deliveries.spoil x.deliveries1 x.deliveries2 }

/-! ## The marks (R101) -/

/-- The totalization mark a point takes where TOTALS is DEFAULTED (R101). -/
def SavedPoint.mark (p : SavedPoint) : Option Nat :=
  match p.current with
  | some r => if r.final then some r.seq else none
  | none => none

/-- The totals a start begins from, by the validities of TOTALS and DELIVERIES (R101). -/
def startTotals (t : Totals) (vt : Validity) (d : DeliveriesImage) (vd : Validity) : Totals :=
  if vt = .defaulted then defaultTotals (if vd = .defaulted then .fill none else d.map (·.mark))
  else if vd = .defaulted then { t with marks := .fill none }
  else t

/-! ## Recovery of one point (R102, R103) -/

/-- One point at a start: its retained part, the totals as its additions so far will leave them, the additions whose
records the region held when it was found (`before`: those of previous records) and those of its current record
(`after`), and the records whose DELIVERY_FINISHED follows the START report. -/
structure Recovery where
  saved : SavedPoint
  totals : Totals
  before : List Addition
  after : List Addition
  reports : List DeliveryRecord
  deriving DecidableEq, Repr

/-- The previous record of a point where TOTALS was found OLDER: its addition is made again, before any finalization
(R103), and its report follows the START report (R104). -/
def Recovery.examinePrevious (x : Recovery) (p : Point) : Recovery :=
  match x.saved.previous, x.totals.marks.get p with
  | some r, some n =>
    if r.final ∧ n ≠ r.seq ∧ x.saved.current.all fun c => decide (n ≠ c.seq) then
      { x with totals := x.totals.add (additionOf p r), before := x.before ++ [additionOf p r]
               reports := x.reports ++ [r] }
    else x
  | _, _ => x

/-- The TOTALS write that a start makes for a current record; none where the point's mark already holds its number
(R102, R103). -/
def Recovery.addCurrent (x : Recovery) (p : Point) (r : DeliveryRecord) : Recovery :=
  if x.totals.marks.get p = some r.seq then x
  else { x with totals := x.totals.add (additionOf p r), after := x.after ++ [additionOf p r] }

/-- The record finalized from its retained figures (R102). -/
def DeliveryRecord.recovered (r : DeliveryRecord) (figuresAt : Option Stamp) : DeliveryRecord :=
  let net := if figuresAt.isSome then r.net else 0
  let r := r.finalized net r.reverse (figuresAt.getD r.start)
  { r with cause := some (r.cause.getD .powerLoss), flags := { r.flags with recovered := true } }

/-- A delivery that the start interrupted, and a record begun and not held (R102). -/
def Recovery.finishInterrupted (x : Recovery) (p : Point) : Recovery :=
  match x.saved.current with
  | none => x
  | some r =>
    if r.final then x
    else if x.saved.st = .settled then
      { x with saved := { x.saved with current := none, table := none, figuresAt := none, st := .settled, held := true
                                       lastSeq := (x.saved.lastSeq + 65535) % 65536 } }
    else
      let r := r.recovered x.saved.figuresAt
      { x.addCurrent p r with
        saved := { x.saved with current := some r, st := .settled, held := true }, reports := x.reports ++ [r] }

/-- A final current record whose addition the totals lack (R103). -/
def Recovery.examineCurrent (x : Recovery) (p : Point) : Recovery :=
  match x.saved.current with
  | none => x
  | some r =>
    if r.final ∧ x.totals.marks.get p ≠ some r.seq then { x.addCurrent p r with reports := x.reports ++ [r] } else x

/-- A delivery that a restart finalized: its report follows the START report (R81). -/
def Recovery.restarted (x : Recovery) (owed : Bool) : Recovery :=
  match x.saved.current with
  | some r => if owed && r.final && !x.reports.contains r then { x with reports := x.reports ++ [r] } else x
  | none => x

/-- A final record of 0 cl is auto-cleared (R71, R83). -/
def SavedPoint.autoClear (x : SavedPoint) : SavedPoint :=
  match x.current with
  | some r =>
    if r.final ∧ r.volume = 0 then { x with current := none, previous := some r, table := none, figuresAt := none }
    else x
  | none => x

/-- Everything a start does for one point's sales, up to the auto-clear (R101 to R104). -/
def recoverPoint (p : Point) (saved : SavedPoint) (t : Totals) (vt vd : Validity) (owed : Bool) : Recovery :=
  let x : Recovery := { saved := saved, totals := t, before := [], after := [], reports := [] }
  if vd = .defaulted then x
  else
    let x := if vt = .older then x.examinePrevious p else x
    let x := x.finishInterrupted p
    let x := if vt = .defaulted then x else x.examineCurrent p
    x.restarted owed

/-! ## Generations at a start (R45, R46) -/

/-- The generation that a point left in FINISHED keeps, with its table (R45). -/
def SavedPoint.kept (p : SavedPoint) : Option Generation :=
  match p.current with
  | some r => if r.final then some { number := r.generation, table := p.table.getD defaultPrices } else none
  | none => none

/-- The generations to republish, one for each number. -/
def keptGenerations (d : DeliveriesImage) : List Generation :=
  match d.a.kept, d.b.kept with
  | some x, some y => if x.number = y.number then [x] else [x, y]
  | some x, none => [x]
  | none, some y => [y]
  | none, none => []

/-- The least number from 0 that none of these generations holds; `fuel` bounds the search (R46). -/
def leastFree (l : List Generation) : Nat → Nat → Nat
  | 0, n => n
  | fuel + 1, n => if l.any fun g => decide (g.number = n) then leastFree l fuel (n + 1) else n

/-- The PTU at a start (R45, R46). -/
def startPtu (t : Ptu) (vc : Validity) (d : DeliveriesImage) : Ptu :=
  let kept := keptGenerations d
  let number := if vc = .defaulted then leastFree kept 3 0 else t.newest
  let table := t.newestTable
  { published := { number := number, table := table } :: kept.filter fun g => decide (g.number ≠ number)
    newest := number
    staging := table }

/-! ## The start itself -/

/-- The figures a side shows after a start (R127). -/
def SavedPoint.shown (p : SavedPoint) : Shown :=
  let of (r : DeliveryRecord) : Shown := { volume := r.volume, amount := r.amount, final := true }
  match p.current with
  | some r => if r.final then of r else (p.previous.map of).getD { volume := 0, amount := 0, final := false }
  | none => (p.previous.map of).getD { volume := 0, amount := 0, final := false }

/-- The generation a point refers to after a start (R45). -/
def SavedPoint.reference (p : SavedPoint) (newest : Nat) : Nat := (p.kept.map (·.number)).getD newest

/-- The DELIVERY_FINISHED reports of a point's records, posted after the START report with the day clock of the new start,
a sale that RESTART finalized among them (R104, R186; DESIGN CHOICE, assumption 51). -/
def State.postFinished (s : State) (p : Point) (l : List DeliveryRecord) : State :=
  l.foldl (fun s r => s.post (.point p) (.deliveryFinished r)) s

/-- The settings stand in both copies of CONFIG as the blocks took them, the generations that a kept record republishes
among them (R45, R100; assumption 8). -/
def State.sealConfig (s : State) : State :=
  let config := s.configImage
  s.mapRtm fun r => { r with config := freshRegion r.config.copy1.count config }

/-- The writes of a start, which are writes of R97 (R102 to R104). `found` is the content of DELIVERIES as it was found
and `finished` the content with the interrupted deliveries finished. The additions `before` have their records in the
region already. A write of DELIVERIES begins where finishing changed the region, and the additions `after` wait for its
end; an auto-clear is a further change. -/
def State.writeRecovered (s : State) (found finished : DeliveriesImage) (before after : List Addition) : State :=
  let s := s.mapRtm fun r => { r with owed := before }.pumpTotals
  let s := s.mapRtm fun r =>
    if finished = found then { r with owed := r.owed ++ after }.pumpTotals
    else { r with unwritten := after }.takeDeliveries finished
  let image := s.deliveriesImage
  if image = finished then s else s.mapRtm (·.takeDeliveries image)

/-- A start with a cause: the regions are judged and their contents put in both copies, every block takes its state, the
interrupted sales are finished and their writes begin, and the reports of the start follow the START report. `owed`
marks the points whose delivery a restart finalized. -/
def State.start (s : State) (cause : StartCause) (owed : Pair Bool) : State :=
  let (c, nc, vc) := s.rtm.config.judge defaultConfig
  let (t, nt, vt) := s.rtm.totals.judge (defaultTotals (.fill none))
  let (d, nd, vd) := s.rtm.deliveries.judge (.fill defaultSaved)
  let t := startTotals t vt d vd
  let a := recoverPoint .a d.a t vt vd owed.a
  let b := recoverPoint .b d.b a.totals vt vd owed.b
  let found := d
  let finished : DeliveriesImage := ⟨a.saved, b.saved⟩
  let d := finished.map (·.autoClear)
  let ptu := startPtu c.ptu vc d
  let s : State :=
    { now := s.now
      powered := true
      pins := s.pins
      hlp := startHlp c cause vc vt vd
      miu := c.meters.map fun r => startChannel r s.now
      dle := startDle c
      points := ⟨startPoint d.a (d.a.reference ptu.newest), startPoint d.b (d.b.reference ptu.newest)⟩
      ptu := ptu
      pou := .fill (startPou s.now)
      ddu := ⟨startSide d.a.shown s.now, startSide d.b.shown (s.now + 50)⟩
      display := c.display
      crg := startCrg c.gate s.now
      psc := startPsc c s.pins.millivolts s.now
      rtm := startRtm c t found nc nt nd vc vt vd
      pending := s.pending }
  let s := (((s.postFinished .a a.reports).postFinished .b b.reports).sealConfig).writeRecovered found finished
    (a.before ++ b.before) (a.after ++ b.after)
  if s.pins.tamper then s.tamperAct else s

/-- A power-on start (R98, R100). -/
def State.powerOn (s : State) (cause : PowerOn) (spoiled : Spoiled) : State :=
  (s.mapRtm (·.spoil spoiled)).start (match cause with
    | .standby => .standby
    | .resetInput => .resetInput) (.fill false)

/-! ## The warm start (R81, R105, R194) -/

/-- RESTART finalizes a delivery whose point holds its meter (R81). Its report waits for the start. A display test that the
zero check waited for runs on at the FINISHED point (R111, R118; DESIGN CHOICE, assumption 53). -/
def State.restartHolder (s : State) (p : Point) : State :=
  match s.heldBy p, (s.point p).current with
  | some m, some r =>
    let r := if (s.point p).st = .stopping then r else { r with cause := some .hostRestart }
    let s := ((s.commandValves m false false).dropMotor m).withdrawZero p
    (s.finalize p m r).mapPoint p fun d => { d with reportOwed := true }
  | _, _ => s

/-- RESTART discards the record of a point in STARTING that does not hold its meter, and the point enters CLOSED, where it
takes the newest generation (R38, R64, R81). No AUTH_ENDED is posted (DEDUCED, assumption 16). -/
def State.restartWaiter (s : State) (p : Point) : State :=
  if s.waiting p then (s.leaveStarting p).enterClosed p else s

/-- The pending pulses of both outputs are discarded: the counts of the records stand as they were when the restart was
taken (R92). -/
def State.dropPulses (s : State) : State := { s with pou := s.pou.map fun u => { u with queue := [] } }

/-- The finalizations of RESTART, and those of the deliveries begun after it was taken that the warm start meets (R17,
R81, R92). -/
def State.restartFinalize (s : State) : State :=
  (((s.dropPulses.restartWaiter .a).restartWaiter .b).restartHolder .a).restartHolder .b

/-- Enough ends of writes for every write in flight, held or owed. -/
def Rtm.writeFuel (r : Rtm) : Nat := r.owed.length + r.carried.length + r.unwritten.length + 8

/-- The writes in flight and the changes held are let end; `fuel` bounds them (R105). -/
def State.endWrites (s : State) : Nat → State
  | 0 => s
  | fuel + 1 =>
    if s.rtm.idle then s
    else
      let s := if s.rtm.writing .config then s.endConfigWrite else s
      let s := if s.rtm.writing .deliveries then s.endDeliveriesWrite else s
      let s := if s.rtm.writing .totals then s.endTotalsWrite else s
      s.endWrites fuel

/-- The warm start that follows the OK reply of RESTART. A delivery begun since RESTART was taken is finalized too, and
what no write carries yet is written, before the regions are judged (R17, R105, R194; assumption 16). -/
def State.warmStart (s : State) : State :=
  let s := s.restartFinalize.retainDeliveries.commit
  let owed := s.points.map (·.reportOwed)
  (s.endWrites s.rtm.writeFuel).start .restart owed

end Sys2Proof.Machine
end

