-- ==== Sys2Proof/Machine/Link.lean ====
section
/-! DEFINITION. The Host Link Port's receiver and reply path (R182 to R184, R191): bytes in, the receive buffer, the
request in hand, and the sending of its reply. -/

namespace Sys2Proof.Machine

/-! ## Bytes and frames -/

/-- The most frames that wait in the receive buffer (R183). -/
def bufferRoom : Nat := 2

/-- A discarded frame is counted (R182). -/
def Hlp.countError (h : Hlp) : Hlp := { h with frameErrors := satAdd 65535 h.frameErrors 1 }

/-- The silence timer restarts with the full time when that is not 0 (R191). -/
def Hlp.restartSilence (h : Hlp) (now : Nat) : Hlp :=
  if h.silenceTime = 0 then h else { h with silence := .running (now + 1000 * h.silenceTime) }

/-- A request taken with none in hand stands for its own good frame, which restarts the silence timer (R191; assumption
3). -/
def Hlp.heard (h : Hlp) (now : Nat) : Hlp := if h.hand.isNone then h.restartSilence now else h

/-- When no request is in hand, the oldest frame of the buffer becomes the request in hand (R183). -/
def Hlp.takeNext (h : Hlp) : Hlp :=
  match h.hand, h.buffer with
  | none, f :: rest => { h with hand := some (.taken f), buffer := rest }
  | _, _ => h

/-- A good frame joins the buffer, or is discarded at a full one; it restarts the silence timer (R182, R183, R191). -/
def Hlp.goodFrame (h : Hlp) (now : Nat) (f : Frame) : Hlp :=
  let h := h.restartSilence now
  if h.buffer.length < bufferRoom then { h with buffer := h.buffer ++ [f] }.takeNext
  else { h with overruns := satAdd 65535 h.overruns 1 }

/-- A byte arrives on the host line (R182). -/
def Hlp.byte (now : Nat) (h : Hlp) (b : Byte) : Hlp :=
  let (phase, event) := rxByte h.rx b
  let h := { h with rx := phase }
  match event with
  | .quiet => h
  | .good f => h.goodFrame now f
  | .discarded => h.countError

/-- Bytes arrive on the host line. -/
def Hlp.bytes (now : Nat) (h : Hlp) (l : List Byte) : Hlp := l.foldl (Hlp.byte now) h

/-- A frame in progress is abandoned, for a gap or for a byte with a faulty stop bit (R182). -/
def Hlp.abandonFrame (h : Hlp) : Hlp :=
  match h.rx with
  | .hunt => h
  | .inside _ => { h with rx := .hunt }.countError

/-! ## Statuses and reasons (R185, R197) -/

/-- The refusal reasons, in the order of the reason table (R185). -/
inductive Reason where
  | unknownKind | badLength | badField | wrongState | notPermitted | closed | stopped | sessionMismatch | full | noMains
  deriving DecidableEq, Repr

/-- The number of a reason (R197). -/
def Reason.number : Reason → Nat
  | .unknownKind => 1
  | .badLength => 2
  | .badField => 3
  | .wrongState => 4
  | .notPermitted => 5
  | .closed => 6
  | .stopped => 7
  | .sessionMismatch => 8
  | .full => 9
  | .noMains => 10

/-- A reply payload with status OK (R185, R197). -/
def okReply (content : List Byte) : List Byte := u8 0 ++ content

/-- A reply payload with status ACCEPTED. -/
def acceptedReply (content : List Byte) : List Byte := u8 1 ++ content

/-- The reply payload BUSY. -/
def busyReply : List Byte := u8 2

/-- A reply payload with status REFUSED and its reason. -/
def refusedReply (r : Reason) : List Byte := u8 3 ++ u8 r.number

/-- A reply payload with status EMPTY. -/
def emptyReply (content : List Byte) : List Byte := u8 4 ++ content

/-! ## The request in hand (R183, R184, R97) -/

/-- The part takes this request now: it is the request in hand, or none is in hand and the command brings it
(assumption 3). -/
def State.takes (s : State) (i : Instr) : Bool :=
  s.powered && match s.hlp.hand with
    | none => true
    | some (.taken f) => match requestOf f with
        | .ok j => decide (j = i.framed)
        | .error _ => false
    | some _ => false

/-- The reply of the request in hand, to be sent at once or after the ends of some writes (R97, R184). -/
def Hlp.handReply (h : Hlp) (kind : Nat) (reply : List Byte) (config deliveries : Nat) : Hlp :=
  { h with hand := some (if config = 0 ∧ deliveries = 0 then .replying kind reply
                         else .waiting kind reply config deliveries) }

/-- The ends of writes of a region that a reply waits for, when the event changed the region's content: the write in
flight, if any, and the first that begins after the change (R97). -/
def writesAwaited (dirty writing : Bool) : Nat := if dirty then (if writing then 2 else 1) else 0

/-- The request in hand has been answered: its changes are handed to the RTM, and its reply is sent or waits (R97,
R184). -/
def State.respond (s : State) (kind : Nat) (reply : List Byte) : State :=
  let config := writesAwaited s.rtm.dirtyConfig s.rtm.config.inFlight.isSome
  let deliveries := writesAwaited s.rtm.dirtyDeliveries s.rtm.deliveries.inFlight.isSome
  (s.mapHlp fun h => (h.heard s.now).handReply kind reply config deliveries).commit

/-- A write of a region has ended: a waiting reply counts it (R97). -/
def Hand.writeEnded (h : Hand) (region : RegionName) : Hand :=
  match h with
  | .waiting kind reply config deliveries =>
    let c := if region = .config then config - 1 else config
    let d := if region = .deliveries then deliveries - 1 else deliveries
    if c = 0 ∧ d = 0 then .replying kind reply else .waiting kind reply c d
  | h => h

/-- The reply of RESTART is sent once every write has ended (R194). -/
def State.restartReply (s : State) : State :=
  if s.hlp.hand = some .restarting ∧ s.rtm.idle then
    s.mapHlp fun h => { h with hand := some (.replying 0x41 (okReply [])) }
  else s

/-- The reply in hand is the OK of RESTART, whose last byte brings the warm start (R194). -/
def Hand.restarts : Hand → Bool
  | .replying kind reply => decide (kind = 0x41) && decide (reply = okReply [])
  | _ => false

/-- The reply frame of a request: its kind plus 80h, and the payload. The kind byte of a request of kind 80h or above
wraps modulo 256 (R184; DESIGN CHOICE, assumption 41). -/
def replyFrame (kind : Nat) (reply : List Byte) : Frame := ⟨BitVec.ofNat 8 (kind + 0x80), reply⟩

end Sys2Proof.Machine
end

