-- ==== Sys2Proof/Machine/Operands.lean ====
section
/-! DEFINITION. The operands of the requests: their fields judged against their ranges (R197, R198 and the rule of each
request), and the encodings of the values, records and reports that replies carry (chapter 11; assumption 15). -/

namespace Sys2Proof.Machine

/-! ## Fields read (R197, R198) -/

/-- A flag byte: 0 or 1 (R198). -/
def flagOf : Nat → Option Bool
  | 0 => some false
  | 1 => some true
  | _ => none

/-- A number within a range that includes both ends. -/
def inRange (lo hi n : Nat) : Option Nat := if lo ≤ n ∧ n ≤ hi then some n else none

/-- The rounding mode of a code (R21). -/
def roundingOf : Nat → Option Rounding
  | 1 => some .halfUp
  | 2 => some .down
  | _ => none

/-- The price level of a code (R50). -/
def levelOf : Nat → Option Level
  | 1 => some .one
  | 2 => some .two
  | _ => none

/-- A meter record whose fields lie in the ranges of R13. -/
def meterRecordOf (f : MeterFields) : Option MeterRecord := do
  let present ← flagOf f.present
  let q ← inRange 2000 60000 f.q
  let reverseLimit ← inRange 0 65535 f.reverseLimit
  let creepThreshold ← inRange 1 65535 f.creepThreshold
  let phaseThreshold ← inRange 1 255 f.phaseThreshold
  let runUp ← inRange 0 5000 f.runUp
  let runOn ← inRange 0 60 f.runOn
  return { present := present, q := q, reverseLimit := reverseLimit, creepThreshold := creepThreshold
           phaseThreshold := phaseThreshold, runUp := runUp, runOn := runOn }

/-- A grade entry of STAGE_PRICES with its grade, in the ranges of R33; vapour recovery is a flag, 1 for enabled (DESIGN
CHOICE, assumption 15). -/
def gradeEntryOf (f : GradeFields) : Option (Grade × GradeEntry) := do
  let g ← Grade.ofNumber f.grade
  let price1 ← inRange 0 9999 f.price1
  let price2 ← inRange 0 9999 f.price2
  let slowDown ← inRange 0 999 f.slowDown
  let vapour ← flagOf f.vapour
  return (g, { price1 := price1, price2 := price2, slowDown := slowDown, vapour := vapour })

/-- No two entries of a list name the same grade (R35). -/
def distinctGrades : List (Grade × GradeEntry) → Bool
  | [] => true
  | x :: rest => !(rest.any fun y => decide (y.1 = x.1)) && distinctGrades rest

/-- The entries of STAGE_PRICES: at most 8, each in range, no grade twice (R35). -/
def gradeEntriesOf (l : List GradeFields) : Option (List (Grade × GradeEntry)) :=
  if 8 < l.length then none
  else match l.mapM gradeEntryOf with
    | some es => if distinctGrades es then some es else none
    | none => none

/-- The base of STAGE_PRICES: whether it is RESET (R35). -/
def resetOf : Nat → Option Bool
  | 1 => some false
  | 2 => some true
  | _ => none

/-- A hose entry whose meter's record is present (R47). -/
def hoseEntryOf (present : Meter → Bool) (f : HoseFields) : Option HoseEntry := do
  let g ← Grade.ofNumber f.grade
  let m ← Meter.ofNumber f.meter
  let enabled ← flagOf f.enabled
  if present m then some { grade := g, meter := m, enabled := enabled } else none

/-- Four hose entries (R47). -/
def hoseSideOf (present : Meter → Bool) (t : Quad HoseFields) : Option (Quad HoseEntry) := do
  let e1 ← hoseEntryOf present t.e1
  let e2 ← hoseEntryOf present t.e2
  let e3 ← hoseEntryOf present t.e3
  let e4 ← hoseEntryOf present t.e4
  return ⟨e1, e2, e3, e4⟩

/-- The whole hose table (R47). -/
def hoseTableOf (present : Meter → Bool) (t : HoseTableFields) : Option HoseTable := do
  let a ← hoseSideOf present t.a
  let b ← hoseSideOf present t.b
  return ⟨a, b⟩

/-- A point timing record in the ranges of R48; the divider 0 stands for 65,536. -/
def timingOf (f : TimingFields) : Option PointTiming := do
  let quiet ← inRange 200 5000 f.quiet
  let noFlow ← inRange 0 300 f.noFlow
  let authTimeout ← inRange 0 3600 f.authTimeout
  let divider ← inRange 0 65535 f.divider
  return { quiet := quiet, noFlow := noFlow, authTimeout := authTimeout
           divider := if divider = 0 then 65536 else divider }

/-- The preset kind of a code (R50). -/
def presetKindOf : Nat → Option PresetKind
  | 1 => some .volume
  | 2 => some .amount
  | _ => none

/-- An optional field: absent when its presence bit is clear, and otherwise required to be in range (R198). -/
def optionalField {α : Type} (presence place : Nat) (value : Option α) : Option (Option α) :=
  if presence.testBit place then value.map some else some none

/-- An authorization's fields in the ranges of R49, with the time of grant (R50, R198). -/
def authorizationOf (f : AuthFields) (granted : Stamp) : Option Authorization := do
  let presence ← inRange 0 15 f.presence
  let mask ← inRange 1 255 f.mask
  let level ← levelOf f.level
  let preset ← optionalField presence 0 ((presetKindOf f.presetKind).bind fun k =>
    (inRange 1 999999 f.presetValue).map fun v => ({ kind := k, value := v } : Preset))
  let amountLimit ← optionalField presence 1 (inRange 1 999999 f.amountLimit)
  let volumeLimit ← optionalField presence 2 (inRange 1 999999 f.volumeLimit)
  let session ← optionalField presence 3 (inRange 0 65535 f.session)
  return { mask := mask, level := level, preset := preset, amountLimit := amountLimit, volumeLimit := volumeLimit
           session := session, granted := granted }

/-- The display settings in the ranges of R107. -/
def displaySettingsOf (f : DisplayFields) : Option DisplaySettings := do
  let a ← inRange 0 3 f.amountDecimals
  let v ← inRange 0 3 f.volumeDecimals
  let p ← inRange 0 3 f.priceDecimals
  let h ← inRange 0 60 f.holdTime
  return { amountDecimals := a, volumeDecimals := v, priceDecimals := p, holdTime := h }

/-- The gate settings in the ranges of R151. -/
def gateSettingsOf (f : GateFields) : Option GateSettings := do
  let h ← inRange 1 8 f.holdThreshold
  let e ← inRange 1 255 f.errorThreshold
  let b ← inRange 500 10000 f.bootTime
  let echo ← flagOf f.echo
  return { holdThreshold := h, errorThreshold := e, bootTime := b, echo := echo }

/-- The comparator settings in the ranges of R154, kr not below kf (R156). -/
def senseSettingsOf (f : SenseFields) : Option SenseSettings := do
  let kf ← inRange 0 15 f.kf
  let kr ← inRange 0 15 f.kr
  let failMs ← inRange 0 2000 f.failMs
  let recoverMs ← inRange 0 10000 f.recoverMs
  if kr < kf then none else some { kf := kf, kr := kr, failMs := failMs, recoverMs := recoverMs }

/-- The load of a step record: 0 is NONE (11.3). -/
def stepLoadOf : Nat → Option (Option Load)
  | 0 => some none
  | n => (Load.ofNumber n).map some

/-- The action of a step record: whether it is ON. -/
def actionOf : Nat → Option Bool
  | 1 => some true
  | 2 => some false
  | _ => none

/-- The check of a step record; its comparator is read for a CONDITION alone (11.3). -/
def checkOf (kind comparator : Nat) : Option Check :=
  match kind with
  | 0 => some .none
  | 1 => (Comparator.ofNumber comparator).map .condition
  | 2 => some .readerOpen
  | 3 => some (.displayTest .a)
  | 4 => some (.displayTest .b)
  | _ => none

/-- The failure action of a step record; its retry count is read for RETRY alone (11.3). -/
def onFailOf (action retries : Nat) : Option OnFail :=
  match action with
  | 1 => some .abort
  | 2 => some .proceed
  | 3 => (inRange 1 3 retries).map .retry
  | _ => none

/-- A step record in the ranges of R159. -/
def stepOf (f : StepFields) : Option PowerStep := do
  let load ← stepLoadOf f.load
  let turnOn ← actionOf f.action
  let settle ← inRange 0 60000 f.settle
  let check ← checkOf f.checkKind f.comparator
  let timeout ← inRange 0 1800 f.timeout
  let onFail ← onFailOf f.failure f.retries
  return { load := load, turnOn := turnOn, settle := settle, check := check, timeout := timeout, onFail := onFail }

/-- A step table of 1 to 16 steps (R159). -/
def stepTableOf (l : List StepFields) : Option (List PowerStep) :=
  if l.length = 0 ∨ 16 < l.length then none else l.mapM stepOf

/-- The schedule in the ranges of R179; both minutes present must differ. Bit 0 of the presence byte is the night minute's
and bit 1 the wake minute's, and the wake enables are flags, 1 for enabled (R197, R198; DESIGN CHOICE, assumption
15). -/
def scheduleOf (f : ScheduleFields) : Option Schedule := do
  let presence ← inRange 0 3 f.presence
  let night ← optionalField presence 0 (inRange 0 1439 f.night)
  let wake ← optionalField presence 1 (inRange 0 1439 f.wake)
  let nozzle ← flagOf f.nozzle
  let card ← flagOf f.card
  if night.isSome ∧ night = wake then none
  else some { night := night, wake := wake, nozzleWake := nozzle, cardWake := card }

/-- The full-queue policy of a code (R190). -/
def policyOf : Nat → Option Policy
  | 1 => some .keepOldest
  | 2 => some .keepNewest
  | _ => none

/-- The report mode of a code (R190). -/
def reportModeOf : Nat → Option ReportMode
  | 1 => some .off
  | 2 => some .onSet
  | 3 => some .onChange
  | _ => none

/-- The 24 report modes, in the order of the table of R189 (R190). -/
def reportModesOf (l : List Nat) : Option ReportModes :=
  match l.mapM reportModeOf with
  | some [a1, a2, a3, a4, b1, b2, b3, b4, c1, c2, c3, c4, e, x, y, t, s1, s2, s3, s4, s5, s6, s7, s8] =>
    some { meterFault := ⟨a1, a2, a3, a4⟩, meterCreep := ⟨b1, b2, b3, b4⟩, valveFault := ⟨c1, c2, c3, c4⟩
           emergencyStop := e, displayFault := ⟨x, y⟩, tamper := t, sense := ⟨s1, s2, s3, s4, s5, s6, s7, s8⟩ }
  | _ => none

/-- The points a request names: 1 A, 2 B, 3 BOTH (R197). -/
def pointsOf : Nat → Option (List Point)
  | 1 => some [.a]
  | 2 => some [.b]
  | 3 => some [.a, .b]
  | _ => none

/-- The meters a request names: 1 to 4, 0 ALL (R15, R197). -/
def metersOf : Nat → Option (List Meter)
  | 0 => some Meter.all
  | n => (Meter.ofNumber n).map fun m => [m]

/-! ## Values sent (R197) -/

/-- A flag. -/
def flagBytes (b : Bool) : List Byte := u8 (if b then 1 else 0)

/-- A timestamp. -/
def Stamp.bytes (t : Stamp) : List Byte := u16 t.day ++ u32 t.sec

/-- A signed number in 4 bytes. -/
def signedBytes (n : Int) : List Byte := u32 (BitVec.ofInt 32 n).toNat

/-- A duration in milliseconds, saturating, or none (R197). -/
def durationBytes : Option Nat → List Byte
  | some n => u32 (min n 0xFFFFFFFE)
  | none => u32 0xFFFFFFFF

/-- A time remaining to a moment. -/
def remaining (due : Option Nat) (now : Nat) : List Byte := durationBytes (due.map fun t => t - now)

/-- A value that may be none: a presence byte and the value's bytes, 0 when it is absent (R197). -/
def optionBytes {α : Type} (width : Nat) (f : α → List Byte) : Option α → List Byte
  | some x => u8 1 ++ f x
  | none => u8 0 ++ List.replicate width 0

/-- A list with its count (R197). -/
def listBytes {α : Type} (f : α → List Byte) (l : List α) : List Byte := u8 l.length ++ l.flatMap f

/-- A name as text (R197). -/
def textBytes (t : String) : List Byte := listBytes (fun c => u8 c.toNat) t.toList

/-- A set of positions: bit p - 1 for position p (R197). -/
def positionSet : List Bool → Nat
  | [] => 0
  | b :: rest => (if b then 1 else 0) + 2 * positionSet rest

/-- The number of an optional enumeration, 0 for none (R197). -/
def optNumber {α : Type} (f : α → Nat) : Option α → Nat
  | some x => f x
  | none => 0

/-- A symbol (R197). -/
def Symbol.code : Symbol → Nat
  | .digit d dot => d + (if dot then 0x10 else 0)
  | .blank => 0x20
  | .dash => 0x21
  | .all => 0x22

/-! ## Numbers of enumerations (R197) -/

def Rounding.number : Rounding → Nat
  | .halfUp => 1
  | .down => 2

def Level.number : Level → Nat
  | .one => 1
  | .two => 2

def PresetKind.number : PresetKind → Nat
  | .volume => 1
  | .amount => 2

def Source.number : Source → Nat
  | .preset => 1
  | .limit => 2
  | .capacity => 3

def StopCause.number : StopCause → Nat
  | .preset => 1
  | .limit => 2
  | .capacity => 3
  | .nozzleHung => 4
  | .noFlow => 5
  | .reverseFlow => 6
  | .meterFault => 7
  | .valveFault => 8
  | .displayFault => 9
  | .valveSupplyLost => 10
  | .emergency => 11
  | .powerLoss => 12
  | .hostCancel => 13
  | .readerLost => 14
  | .hostRestart => 15

def LiftRefusal.number : LiftRefusal → Nat
  | .hoseDisabled => 1
  | .gradeNotAuthorized => 2
  | .gradeClosed => 3
  | .meterFault => 4
  | .conflict => 5
  | .limitTooSmall => 6

def AuthEnd.number : AuthEnd → Nat
  | .expired => 1
  | .hostSilent => 2
  | .readerLost => 3
  | .emergency => 4
  | .power => 5

def PointSt.number : PointSt → Nat
  | .closed => 1
  | .idle => 2
  | .calling => 3
  | .authorized => 4
  | .starting => 5
  | .fuelling => 6
  | .slowing => 7
  | .stopping => 8
  | .finished => 9

def MotorSt.number : MotorSt → Nat
  | .off => 1
  | .awaitingGrant => 2
  | .running => 3
  | .runOn => 4

def PulsePhase.number : PulsePhase → Nat
  | .ready => 1
  | .high => 2
  | .low => 3

def TestResult.number : TestResult → Nat
  | .passed => 1
  | .failed => 2
  | .aborted => 3

def HoldEnd.number : HoldEnd → Nat
  | .expired => 1
  | .standbyLost => 2
  | .mainsReturn => 3

def GateSt.number : GateSt → Nat
  | .off => 1
  | .powering => 2
  | .sync => 3
  | .opened => 4
  | .echo => 5
  | .quarantine => 6

def QuarantineCause.number : QuarantineCause → Nat
  | .tamper => 1
  | .errorRate => 2
  | .noHello => 3
  | .linkLostRepeated => 4

def GateCause.number : GateCause → Nat
  | .request => 1
  | .sequence => 2
  | .supplyReady => 3
  | .retry => 4
  | .hello => 5
  | .readerRestart => 6
  | .linkLost => 7
  | .supplyLost => 8
  | .echoStart => 9
  | .echoEnd => 10
  | .release => 11
  | .quarantine c => 11 + c.number

def EchoKind.number : EchoKind → Nat
  | .loopOn => 1
  | .loopOff => 2

def Outcome3.number : Outcome3 → Nat
  | .delivered => 1
  | .refused => 2
  | .flushed => 3

def PowerSt.number : PowerSt → Nat
  | .night => 1
  | .waking => 2
  | .run => 3
  | .draining => 4
  | .mainsLost => 5
  | .halted => 6

def Intended.number : Intended → Nat
  | .night => 1
  | .run => 2

def WakeCause.number : WakeCause → Nat
  | .request => 1
  | .schedule => 2
  | .nozzle => 3
  | .card => 4
  | .mainsReturn => 5

def WakeOutcome.number : WakeOutcome → Nat
  | .waking => 1
  | .run => 2
  | .pending => 3

def PowerCause.number : PowerCause → Nat
  | .request => 1
  | .schedule => 2
  | .nozzle => 3
  | .card => 4
  | .mainsReturn => 5
  | .sequenceDone => 6
  | .stepAbort => 7
  | .drainDone => 8
  | .mainsLoss => 9

def Check.number : Check → Nat
  | .none => 0
  | .condition _ => 1
  | .readerOpen => 2
  | .displayTest .a => 3
  | .displayTest .b => 4

/-- The comparator byte of a check, 0 where the check is no CONDITION (11.3). -/
def Check.comparator : Check → Nat
  | .condition c => c.number
  | _ => 0

def OnFail.number : OnFail → Nat
  | .abort => 1
  | .proceed => 2
  | .retry _ => 3

/-- The retry count byte of a failure action, sent as 0 where the action is not RETRY (11.3; DESIGN CHOICE, assumption
15). -/
def OnFail.retries : OnFail → Nat
  | .retry n => n
  | _ => 0

def StepPhase.number : StepPhase → Nat
  | .settle => 1
  | .check => 2
  | .retryWait => 3

def StepReason.number : StepReason → Nat
  | .checkTimeout => 1
  | .quarantined => 2
  | .testFailed => 3
  | .testAborted => 4
  | .testNotRun => 5

def StepAction.number : StepAction → Nat
  | .abort => 1
  | .proceed => 2
  | .retry => 3

def Policy.number : Policy → Nat
  | .keepOldest => 1
  | .keepNewest => 2

def StartCause.number : StartCause → Nat
  | .standby => 1
  | .resetInput => 2
  | .restart => 3

def Validity.number : Validity → Nat
  | .good => 1
  | .older => 2
  | .defaulted => 3

def SilenceTimer.number : SilenceTimer → Nat
  | .off => 1
  | .stopped => 2
  | .running _ => 3
  | .expired => 4

def Adoption.number : Adoption → Nat
  | .apply => 1
  | .back => 2

/-! ## Records sent (11.3) -/

def MeterRecord.bytes (r : MeterRecord) : List Byte :=
  flagBytes r.present ++ u16 r.q ++ u16 r.reverseLimit ++ u16 r.creepThreshold ++ u8 r.phaseThreshold ++ u16 r.runUp
    ++ u8 r.runOn

/-- A grade entry; vapour recovery is a flag, 1 for enabled (DESIGN CHOICE, assumption 15). -/
def GradeEntry.bytes (g : Grade) (e : GradeEntry) : List Byte :=
  u8 g.number ++ u16 e.price1 ++ u16 e.price2 ++ u16 e.slowDown ++ flagBytes e.vapour

/-- The eight grade entries of a table. -/
def priceTableBytes (t : PriceTable) : List Byte := Grade.all.flatMap fun g => GradeEntry.bytes g (t.get g)

def HoseEntry.bytes (h : HoseEntry) : List Byte := u8 h.grade.number ++ u8 h.meter.number ++ flagBytes h.enabled

/-- The eight hose entries, A1 to A4 and then B1 to B4. -/
def hoseTableBytes (t : HoseTable) : List Byte := t.toList.flatMap fun q => q.toList.flatMap HoseEntry.bytes

def PointTiming.bytes (t : PointTiming) : List Byte :=
  u16 t.quiet ++ u16 t.noFlow ++ u16 t.authTimeout ++ u16 t.divider

/-- The presence bits 0 to 3 of an authorization's fields (11.3). -/
def presenceBits (preset : Option Preset) (amountLimit volumeLimit session : Option Nat) : Nat :=
  flagBit preset.isSome 0 + flagBit amountLimit.isSome 1 + flagBit volumeLimit.isSome 2 + flagBit session.isSome 3

/-- The optional fields of an authorization in their places: preset kind and value, limits, bound session (11.3). -/
def authFieldBytes (preset : Option Preset) (amountLimit volumeLimit session : Option Nat) : List Byte :=
  u8 (optNumber (fun p => p.kind.number) preset) ++ u32 (optNumber (·.value) preset) ++ u32 (amountLimit.getD 0)
    ++ u32 (volumeLimit.getD 0) ++ u16 (session.getD 0)

/-- Bytes 1 to 18 of an authorization and its time of grant: 24 bytes (11.3). -/
def Authorization.bytes (a : Authorization) : List Byte :=
  u8 (presenceBits a.preset a.amountLimit a.volumeLimit a.session) ++ u8 a.mask ++ u8 a.level.number
    ++ authFieldBytes a.preset a.amountLimit a.volumeLimit a.session ++ a.granted.bytes

/-- A delivery record: 86 bytes (11.3). -/
def DeliveryRecord.bytes (r : DeliveryRecord) : List Byte :=
  u16 r.seq ++ u8 r.position.number ++ u8 r.grade.number ++ u8 r.meter.number ++ u16 r.generation ++ u8 r.level.number
    ++ u16 r.price ++ u16 r.q ++ u8 r.rounding.number ++ u16 r.slowDown ++ flagBytes r.vapour
    ++ u8 (presenceBits r.preset r.amountLimit r.volumeLimit r.session + flagBit r.cause.isSome 4
        + flagBit r.finish.isSome 5)
    ++ authFieldBytes r.preset r.amountLimit r.volumeLimit r.session
    ++ u32 r.target ++ u8 r.source.number ++ u32 r.nSlow ++ u32 r.nStop ++ u16 r.quiet ++ u16 r.noFlow
    ++ u32 r.snapshot.toNat ++ signedBytes r.net ++ u16 r.reverse ++ u32 r.volume ++ u32 r.amount
    ++ u8 (optNumber StopCause.number r.cause) ++ u8 r.flags.byte ++ r.start.bytes
    ++ (match r.finish with
        | some t => t.bytes
        | none => List.replicate 6 0)
    ++ u32 r.pulses ++ flagBytes r.final

def DisplaySettings.bytes (t : DisplaySettings) : List Byte :=
  u8 t.amountDecimals ++ u8 t.volumeDecimals ++ u8 t.priceDecimals ++ u8 t.holdTime

def GateSettings.bytes (t : GateSettings) : List Byte :=
  u8 t.holdThreshold ++ u8 t.errorThreshold ++ u16 t.bootTime ++ flagBytes t.echo

def SenseSettings.bytes (t : SenseSettings) : List Byte := u8 t.kf ++ u8 t.kr ++ u16 t.failMs ++ u16 t.recoverMs

def PowerStep.bytes (t : PowerStep) : List Byte :=
  u8 (optNumber Load.number t.load) ++ u8 (if t.turnOn then 1 else 2) ++ u16 t.settle ++ u8 t.check.number
    ++ u8 t.check.comparator ++ u16 t.timeout ++ u8 t.onFail.number ++ u8 t.onFail.retries

/-- The schedule; bit 0 of its presence byte is the night minute's and bit 1 the wake minute's, and the wake enables are
flags, 1 for enabled (DESIGN CHOICE, assumption 15). -/
def Schedule.bytes (t : Schedule) : List Byte :=
  u8 (flagBit t.night.isSome 0 + flagBit t.wake.isSome 1) ++ u16 (t.night.getD 0) ++ u16 (t.wake.getD 0)
    ++ flagBytes t.nozzleWake ++ flagBytes t.cardWake

def Identity.bytes (t : Identity) : List Byte := u16 t.type ++ u16 t.revision ++ t.serial

/-- The particulars of a failed step: 8 bytes (11.4). -/
def StepFailure.bytes (f : StepFailure) : List Byte :=
  u8 f.step ++ u8 (optNumber Load.number f.load) ++ u8 f.check.number ++ u8 f.check.comparator ++ u8 f.reason.number
    ++ u8 f.dduReason ++ u8 f.action.number ++ u8 f.attempt

/-! ## Reports sent (11.4) -/

/-- The code of a report's kind (11.4). -/
def ReportData.kind : ReportData → Nat
  | .start _ _ _ _ => 0x01
  | .condition _ _ => 0x02
  | .nozzleCall _ _ _ => 0x10
  | .nozzleRefused _ _ => 0x11
  | .nozzleHang _ => 0x12
  | .meterWait _ _ => 0x13
  | .authEnded _ => 0x14
  | .deliveryStarted _ _ => 0x15
  | .deliveryStopping _ _ => 0x16
  | .deliveryFinished _ => 0x17
  | .priceAdopted _ _ _ _ => 0x18
  | .displayDigitFault _ _ => 0x20
  | .displayTestDone _ _ _ _ => 0x21
  | .displayHoldEnd _ => 0x22
  | .readerGate _ _ _ _ _ _ => 0x28
  | .readerInbound _ => 0x29
  | .readerPresence _ _ => 0x2A
  | .readerOutboundEnd _ _ => 0x2B
  | .readerInboundFlushed _ => 0x2C
  | .powerState _ _ _ _ => 0x30
  | .wake _ _ => 0x31
  | .stepFailed _ => 0x32

/-- The initiator of a display test: HOST, SEQUENCE or BOTH (11.4). -/
def initiatorNumber (byHost bySequence : Bool) : Nat := (if byHost then 1 else 0) + (if bySequence then 2 else 0)

/-- The data of a report (11.4). -/
def ReportData.bytes : ReportData → List Byte
  | .start cause c t d => u8 cause.number ++ u8 c.number ++ u8 t.number ++ u8 d.number
  | .condition c v => u8 c.number ++ flagBytes v
  | .nozzleCall k closed uncleared => u8 k.number ++ u8 (flagBit closed 0 + flagBit uncleared 1)
  | .nozzleRefused k reason => u8 k.number ++ u8 reason.number
  | .nozzleHang k => u8 k.number
  | .meterWait m h => u8 m.number ++ u8 h.number
  | .authEnded reason => u8 reason.number
  | .deliveryStarted r full =>
    u16 r.seq ++ u8 r.position.number ++ u8 r.grade.number ++ u8 r.meter.number ++ u16 r.price ++ u32 r.target
      ++ u8 r.source.number ++ u8 (if full then 1 else 2)
  | .deliveryStopping seq cause => u16 seq ++ u8 cause.number
  | .deliveryFinished r =>
    u16 r.seq ++ u32 r.volume ++ u32 r.amount ++ u8 (optNumber StopCause.number r.cause) ++ u8 r.finishedByte
  | .priceAdopted old new cause retired =>
    u16 old ++ u16 new ++ u8 cause.number ++ flagBytes retired.isSome ++ u16 (retired.getD 0)
  | .displayDigitFault positions noSense => u32 (positionSet positions) ++ flagBytes noSense
  | .displayTestDone byHost bySequence result listed =>
    u8 (initiatorNumber byHost bySequence) ++ u8 result.number ++ u8 listed
  | .displayHoldEnd reason => u8 reason.number
  | .readerGate old new cause session identity changed =>
    u8 old.number ++ u8 new.number ++ u8 cause.number
      ++ u8 (flagBit session.isSome 0 + flagBit identity.isSome 1 + flagBit changed 2) ++ u16 (session.getD 0)
      ++ (match identity with
          | some t => t.bytes
          | none => List.replicate 12 0)
  | .readerInbound session => u16 session
  | .readerPresence session cardIn => u16 session ++ u8 (if cardIn then 1 else 2)
  | .readerOutboundEnd tag outcome => u16 tag ++ u8 outcome.number
  | .readerInboundFlushed sessions => listBytes u16 sessions
  | .powerState old new cause intended => u8 old.number ++ u8 new.number ++ u8 cause.number ++ u8 intended.number
  | .wake cause outcome => u8 cause.number ++ u8 outcome.number
  | .stepFailed f => f.bytes

/-- The target byte of a report (11.4). -/
def ReportTarget.number : ReportTarget → Nat
  | .none => 0x00
  | .point p => p.number
  | .side x => 0x10 + x.number
  | .meter m => 0x20 + m.number

/-- A report entry: header and data (11.4). -/
def Report.bytes (r : Report) : List Byte :=
  u8 r.data.kind ++ u8 r.target.number ++ r.time.bytes ++ u8 r.data.bytes.length ++ r.data.bytes

end Sys2Proof.Machine
end

