-- ==== Sys2Proof/Machine/Answers.lean ====
section
/-! DEFINITION. How a command is taken: a request answered by its owner, an event of a running part, and an event that
also moves an input. -/

namespace Sys2Proof.Machine

/-- An owner's answer to a request: a reply alone, which changes nothing (a read, a refusal, BUSY), or a changed state
with its reply (R184). -/
inductive Answer where
  | only (reply : List Byte)
  | acts (s : State) (reply : List Byte)
  deriving DecidableEq, Repr

/-- The kind code of a request; 0 for an event. -/
def kindOf (i : Instr) : Nat := (i.request?.map (·.1)).getD 0

/-- The state after a request in hand has been answered (R184, R97). -/
def State.answered (s : State) (kind : Nat) : Answer → State
  | .only reply => s.mapHlp fun h => (h.heard s.now).handReply kind reply 0 0
  | .acts s' reply => ((s'.gateNotice).drainTest s).respond kind reply

/-- A request that the part takes is answered; any other command of its kind changes nothing (assumption 3). -/
def State.request (s : State) (i : Instr) (a : Answer) : Host.Outcome State Fault Refusal :=
  if s.takes i then .next (s.answered (kindOf i) a) else .next s

/-- A refusal. -/
def refuse (r : Reason) : Answer := .only (refusedReply r)

/-- An answer that needs a field in range, and is BAD_FIELD without it. -/
def orBadField {α : Type} (x : Option α) (f : α → Answer) : Answer :=
  match x with
  | some v => f v
  | none => refuse .badField

/-- An event of a running part: its effect and what it leaves for the end of the event; none where the part is in no
state for it (4.4). -/
def State.event (s : State) (r : Option State) : Host.Outcome State Fault Refusal :=
  match r with
  | some s' => if s.powered then .next (s'.settle s) else .next s
  | none => .next s

/-- An event that moves an input, whether or not the part runs: `moved` is the state with the input at its new level,
and `f` what a running part does with it (assumption 5). -/
def State.inputEvent (s moved : State) (f : State → State) : Host.Outcome State Fault Refusal :=
  if s.powered then .next ((f moved).settle s) else .next moved

end Sys2Proof.Machine
end

