-- ==== Sys2Proof/Machine/ExecMeters.lean ====
section
/-! DEFINITION. The commands of the Meter Input Unit (chapter 1), and SET_ROUNDING (chapter 2). -/

namespace Sys2Proof.Machine

/-! ## Requests -/

/-- The calibration switch as sampled with a request (assumption 4). -/
def State.calibrate (s : State) (cal : Bool) : State := { s with pins := { s.pins with calibration := cal } }

/-- A meter takes a new record (R14): a channel that becomes suspended loses its reference, and the valves are evaluated
as the present flag gives (R2, R11, R12). -/
def State.loadRecord (s : State) (m : Meter) (r : MeterRecord) : State :=
  let s := s.mapChannel m fun c => { c with record := r, reference := if r.present then c.reference else none }
  (s.retime m).touchConfig

/-- LOAD_METER (R14). -/
def execLoadMeter (cal : Bool) (meter : Nat) (fields : MeterFields) (s : State) : Host.Outcome State Fault Refusal :=
  let s' := s.calibrate cal
  s.request (.loadMeter cal meter fields)
    (if !cal then .acts s' (refusedReply .notPermitted)
     else match Meter.ofNumber meter, meterRecordOf fields with
       | some m, some r =>
         if s'.inDelivery m then .acts s' (refusedReply .wrongState)
         else .acts (s'.loadRecord m r) (okReply [])
       | _, _ => .acts s' (refusedReply .badField))

/-- A latch that changes from set to clear posts its change (R15). -/
def State.clearedLatch (s : State) (c : Condition) (was : Bool) : State := if was then s.changed c false else s

/-- METER_RESET of one meter; its cleared latches post FAULT, then CREEP, then VALVE_FAULT (R15, R186; DESIGN CHOICE,
assumption 23). -/
def State.resetMeter (s : State) (m : Meter) : State :=
  let c := s.channel m
  let s := (s.mapChannel m (·.cleared)).restartMismatch m
  ((s.clearedLatch (.meterFault m) c.fault).clearedLatch (.meterCreep m) c.creep).clearedLatch (.valveFault m)
    c.valveFault

/-- METER_RESET; ALL is M1, M2, M3 and then M4 (R15, R186; DESIGN CHOICE, assumption 23). -/
def execMeterReset (meter : Nat) (s : State) : Host.Outcome State Fault Refusal :=
  s.request (.meterReset meter)
    (orBadField (metersOf meter) fun l => .acts (l.foldl State.resetMeter s) (okReply []))

/-- The state of a compare: a presence byte, its point and its fired flag (R16). -/
def compareBytes (a : Option Armed) : List Byte := optionBytes 5 (fun x => u32 x.point ++ flagBytes x.fired) a

/-- The content of READ_METER's reply; the latches, and the commands and senses of the valves, are flags: 1 for set and
for open (R16; DESIGN CHOICE, assumption 15). -/
def State.meterReply (s : State) (m : Meter) : List Byte :=
  let c := s.channel m
  c.record.bytes ++ flagBytes (s.decoding m) ++ u32 c.counter.toNat ++ u8 (optNumber Point.number c.holder)
    ++ u32 c.snapshot.toNat ++ signedBytes (if c.holder.isSome then c.net else 0) ++ u16 c.reverse
    ++ compareBytes c.slow ++ compareBytes c.stop ++ u16 c.windowCount ++ u16 c.lastWindow ++ u16 c.errorTotal
    ++ u16 c.creepCount ++ flagBytes c.fault ++ flagBytes c.creep ++ flagBytes c.valveFault
    ++ flagBytes c.mainOpen ++ flagBytes (s.pins.mainSense.get m) ++ flagBytes c.slowOpen
    ++ flagBytes (s.pins.slowSense.get m)

/-- READ_METER (R16). -/
def execReadMeter (meter : Nat) (s : State) : Host.Outcome State Fault Refusal :=
  s.request (.readMeter meter)
    (orBadField (Meter.ofNumber meter) fun m => .only (okReply (s.meterReply m)))

/-- SET_ROUNDING (R21). -/
def execSetRounding (cal : Bool) (mode : Nat) (s : State) : Host.Outcome State Fault Refusal :=
  let s' := s.calibrate cal
  s.request (.setRounding cal mode)
    (if !cal then .acts s' (refusedReply .notPermitted)
     else match roundingOf mode with
       | some r => .acts { s' with dle := { s'.dle with rounding := r } }.touchConfig (okReply [])
       | none => .acts s' (refusedReply .badField))

/-! ## Events -/

/-- The compare events of a forward step, SLOW before STOP (R9). -/
def State.fireCompares (s : State) (p : Point) (m : Meter) (net : Int) : State :=
  let slow := compareFires (s.channel m).slow net
  let stop := compareFires (s.channel m).stop net
  let s := s.mapChannel m fun c =>
    { c with slow := if slow then markFired c.slow else c.slow, stop := if stop then markFired c.stop else c.stop }
  let s := if slow then s.slowEvent p m else s
  if stop then s.stopEvent p else s

/-- A forward step (R1, R5, R6, R9). -/
def State.forwardStep (s : State) (m : Meter) : State :=
  let s := s.mapChannel m (·.stepForward)
  let c := s.channel m
  match c.holder with
  | none =>
    if c.creepDue then (s.mapChannel m fun c => { c with creep := true }).changed (.meterCreep m) true else s
  | some p => (((s.stepNotice p true).advance p m c.net)).fireCompares p m c.net

/-- A reverse-limit event: a flowing delivery stops (R7, R66). -/
def State.reverseEvent (s : State) (p : Point) (m : Meter) : State :=
  let s := s.mapChannel m fun c => { c with reversePassed := true }
  if (s.point p).st.flowing then s.stopHolder p .reverseFlow else s

/-- A backward step (R1, R6, R7). -/
def State.backwardStep (s : State) (m : Meter) : State :=
  let s := s.mapChannel m (·.stepBackward)
  let c := s.channel m
  match c.holder with
  | none => s
  | some p =>
    let s := s.stepNotice p false
    if c.reverseDue then s.reverseEvent p m else s

/-- A sample of a meter's phases (R1, R2). -/
def State.sample (s : State) (m : Meter) (x : Bool × Bool) : Option State :=
  if !s.decoding m then none
  else
    let taken := s.mapChannel m fun c => { c with reference := some x }
    match (s.channel m).reference with
    | none => some taken
    | some r =>
      match classify r x with
      | .same => none
      | .forward => some (taken.forwardStep m)
      | .backward => some (taken.backwardStep m)
      | .error => some (taken.mapChannel m (·.phaseError))

/-- PULSER_SAMPLE (R1). -/
def execPulserSample (meter : Meter) (phase1 phase2 : Bool) (s : State) : Host.Outcome State Fault Refusal :=
  s.event (s.sample meter (phase1, phase2))

/-- The meter fault sets: the change is posted and the DLE takes the event (R4). -/
def State.setMeterFault (s : State) (m : Meter) : State :=
  ((s.mapChannel m fun c => { c with fault := true }).changed (.meterFault m) true).meterEvent m .meterFault

/-- The end of a phase-error window (R3). -/
def State.endWindow (s : State) (m : Meter) : State :=
  let s := (s.reach (s.channel m).windowDue).mapChannel m (·.windowMove)
  let c := s.channel m
  if c.record.phaseThreshold ≤ c.lastWindow ∧ c.fault = false then s.setMeterFault m else s

/-- PHASE_WINDOW_END (R3). -/
def execPhaseWindowEnd (meter : Meter) (s : State) : Host.Outcome State Fault Refusal :=
  s.event (some (s.endWindow meter))

/-- A drive sense takes a level. -/
def State.moveSense (s : State) (m : Meter) (v : Valve) (isOpen : Bool) : State :=
  match v with
  | .main => { s with pins := { s.pins with mainSense := s.pins.mainSense.set m isOpen } }
  | .slow => { s with pins := { s.pins with slowSense := s.pins.slowSense.set m isOpen } }

/-- VALVE_SENSE_CHANGE (R12). -/
def execValveSenseChange (meter : Meter) (valve : Valve) (isOpen : Bool) (s : State) :
    Host.Outcome State Fault Refusal :=
  s.inputEvent (s.moveSense meter valve isOpen) fun t => t.retime meter

/-- The valve fault sets: the change is posted and the DLE takes the event (R12). -/
def State.setValveFault (s : State) (m : Meter) : State :=
  ((s.mapChannel m fun c => { c with valveFault := true }).changed (.valveFault m) true).meterEvent m .valveFault

/-- A mismatch has lasted its time (R12). -/
def State.mismatchLasted (s : State) (m : Meter) : Option State :=
  match (s.channel m).mismatchSince with
  | none => none
  | some t => if (s.channel m).valveFault then none else some ((s.reach (t + mismatchTime)).setValveFault m)

/-- VALVE_MISMATCH_TIMEOUT (R12). -/
def execValveMismatchTimeout (meter : Meter) (s : State) : Host.Outcome State Fault Refusal :=
  s.event (s.mismatchLasted meter)

end Sys2Proof.Machine
end

