-- ==== Sys2Proof/Machine/ExecPrices.lean ====
section
/-! DEFINITION. The commands of the Price Table Unit (chapter 3). -/

namespace Sys2Proof.Machine

/-- The entries of a list written over a table (R35). -/
def writeEntries (t : PriceTable) (l : List (Grade × GradeEntry)) : PriceTable :=
  l.foldl (fun t x => t.set x.1 x.2) t

/-- STAGE_PRICES (R35). Every accepted request is a change of CONFIG, one that leaves the table as it was included, and
its reply waits for the write (DEDUCED, assumption 47). -/
def execStagePrices (base : Nat) (entries : List GradeFields) (s : State) : Host.Outcome State Fault Refusal :=
  s.request (.stagePrices base entries)
    (orBadField (resetOf base) fun reset =>
      orBadField (gradeEntriesOf entries) fun es =>
        let from_ := if reset then s.ptu.newestTable else s.ptu.staging
        .acts { s with ptu := { s.ptu with staging := writeEntries from_ es } }.touchConfig (okReply []))

/-- APPLY_PRICES (R36). -/
def execApplyPrices (s : State) : Host.Outcome State Fault Refusal :=
  let (s', gone) := s.publish
  s.request .applyPrices (.acts s' (okReply (u16 s'.ptu.newest ++ listBytes u16 gone)))

/-- The published set: each number with the points that refer to it and a mark on the newest, in the order the PTU keeps
them: the newest first after a start, and then the order of publication (R43; DESIGN CHOICE, assumption 48). -/
def State.publishedBytes (s : State) : List Byte :=
  listBytes (fun g => u16 g.number ++ flagBytes (decide ((s.point .a).generation = g.number))
    ++ flagBytes (decide ((s.point .b).generation = g.number)) ++ flagBytes (decide (g.number = s.ptu.newest)))
    s.ptu.published

/-- A table of READ_PRICES: its number or none, its entries and the published set (R43). -/
def State.pricesReply (s : State) (number : Option Nat) (t : PriceTable) : List Byte :=
  okReply (optionBytes 2 u16 number ++ priceTableBytes t ++ s.publishedBytes)

/-- READ_PRICES (R43). -/
def execReadPrices (selector number : Nat) (s : State) : Host.Outcome State Fault Refusal :=
  s.request (.readPrices selector number)
    (match selector with
     | 1 => .only (s.pricesReply none s.ptu.staging)
     | 2 => .only (s.pricesReply (some s.ptu.newest) s.ptu.newestTable)
     | 3 =>
       match s.ptu.find number with
       | some g => .only (s.pricesReply (some g.number) g.table)
       | none => .only (emptyReply s.publishedBytes)
     | _ => refuse .badField)

end Sys2Proof.Machine
end

