-- ==== Sys2Proof/Machine/ExecPoints.lean ====
section
/-! DEFINITION. The commands of the Delivery Engine (chapter 4) and of the Pulse Output Unit (chapter 5). -/

namespace Sys2Proof.Machine

/-! ## Tables -/

/-- A point whose state lets the hose table change (R47). -/
def PointSt.takesHoses : PointSt → Bool
  | .closed => true
  | .idle => true
  | .finished => true
  | _ => false

/-- LOAD_HOSES (R47). -/
def execLoadHoses (entries : HoseTableFields) (s : State) : Host.Outcome State Fault Refusal :=
  s.request (.loadHoses entries)
    (orBadField (hoseTableOf (fun m => (s.channel m).record.present) entries) fun t =>
      if (s.point .a).st.takesHoses && (s.point .b).st.takesHoses then
        .acts { s with dle := { s.dle with hoses := t } }.touchConfig (okReply [])
      else refuse .wrongState)

/-- READ_HOSES (R47). -/
def execReadHoses (s : State) : Host.Outcome State Fault Refusal :=
  s.request .readHoses (.only (okReply (hoseTableBytes s.dle.hoses)))

/-- LOAD_POINT_TIMING (R48). -/
def execLoadPointTiming (point : Nat) (fields : TimingFields) (s : State) : Host.Outcome State Fault Refusal :=
  s.request (.loadPointTiming point fields)
    (orBadField (Point.ofNumber point) fun p =>
      orBadField (timingOf fields) fun t =>
        .acts { s with dle := { s.dle with timings := s.dle.timings.set p t } }.touchConfig (okReply []))

/-- READ_POINT_TIMING (R48). -/
def execReadPointTiming (point : Nat) (s : State) : Host.Outcome State Fault Refusal :=
  s.request (.readPointTiming point)
    (orBadField (Point.ofNumber point) fun p => .only (okReply (s.dle.timings.get p).bytes))

/-! ## Authorizations -/

/-- The binding of an authorization does not fit the gate's session (R50, R51). -/
def State.bindingFails (s : State) (a : Authorization) : Bool :=
  match a.session with
  | none => false
  | some n => decide (s.crg.session ≠ some n)

/-- The point takes an authorization; from CALLING its calling nozzle is judged at once (R50). -/
def State.grantAuthorization (s : State) (p : Point) (a : Authorization) : State :=
  let d := s.point p
  let timeout := (s.dle.timings.get p).authTimeout
  let s' := s.mapPoint p fun d =>
    { d with st := .authorized, auth := some a, authTimeout := timeout, position := none }.startAuthTimer s.now
  match d.st, d.position with
  | .calling, some k => s'.judgeLift p k
  | _, _ => s'

/-- AUTHORIZE (R50). -/
def execAuthorize (point : Nat) (fields : AuthFields) (s : State) : Host.Outcome State Fault Refusal :=
  s.request (.authorize point fields)
    (orBadField (Point.ofNumber point) fun p =>
      orBadField (authorizationOf fields s.stamp) fun a =>
        if s.psc.power ≠ .run then refuse .closed
        else if s.pins.emergency then refuse .stopped
        else if (s.point p).st ≠ .idle ∧ (s.point p).st ≠ .calling then refuse .wrongState
        else if s.bindingFails a then refuse .sessionMismatch
        else .acts (s.grantAuthorization p a) (okReply []))

/-- CANCEL; BOTH is point A before point B (R73; DESIGN CHOICE, assumption 23). -/
def execCancel (point : Nat) (s : State) : Host.Outcome State Fault Refusal :=
  s.request (.cancel point)
    (orBadField (pointsOf point) fun l => .acts (l.foldl State.cancelPoint s) (okReply []))

/-- The current record of a point has another sequence number than this. -/
def PointData.otherSequence (d : PointData) (n : Nat) : Bool := !(d.current.any fun r => decide (r.seq = n))

/-- CLEAR; bit 0 of its presence byte is the sequence number's, and every other bit is 0 (R72, R198; DESIGN CHOICE,
assumption 15). -/
def execClear (point presence sequence : Nat) (s : State) : Host.Outcome State Fault Refusal :=
  s.request (.clear point presence sequence)
    (orBadField (Point.ofNumber point) fun p =>
      orBadField (inRange 0 1 presence) fun presence =>
        if (s.point p).st ≠ .finished ∨ (presence = 1 ∧ (s.point p).otherSequence sequence) then refuse .wrongState
        else .acts (s.clearRecord p) (okReply []))

/-- STOP_ALL (R78). -/
def execStopAll (s : State) : Host.Outcome State Fault Refusal :=
  s.request .stopAll (.acts s.emergencyStop (okReply []))

/-! ## Reading -/

/-- The hold state of a point: HOLDING, WAITING or NEITHER (R82, 11.3). -/
def State.holdNumber (s : State) (p : Point) : Nat :=
  if s.holds p then 1 else if (s.awaitedBy p).isSome then 2 else 3

/-- The meter whose motor READ_DELIVERY names: the one the point holds or waits for, or else the record's (R82). -/
def State.pointMeter (s : State) (p : Point) (r : DeliveryRecord) : Meter :=
  ((s.heldBy p).orElse fun _ => s.awaitedBy p).getD r.meter

/-- The content of READ_DELIVERY's reply (R82, 11.3). -/
def State.deliveryReply (s : State) (p : Point) (r : DeliveryRecord) : List Byte :=
  let d := s.point p
  u8 d.st.number ++ u16 d.generation ++ u8 (s.holdNumber p) ++ u8 (s.motor (s.pointMeter p r)).st.number
    ++ optionBytes 24 Authorization.bytes d.auth ++ r.bytes

/-- READ_DELIVERY (R82). -/
def execReadDelivery (point record : Nat) (s : State) : Host.Outcome State Fault Refusal :=
  s.request (.readDelivery point record)
    (orBadField (Point.ofNumber point) fun p =>
      let tell (r : Option DeliveryRecord) : Answer :=
        match r with
        | some r => .only (okReply (s.deliveryReply p r))
        | none => .only (emptyReply [])
      match record with
      | 1 => tell (s.point p).current
      | 2 => tell (s.point p).previous
      | _ => refuse .badField)

/-- The numbers present in a pulse queue, in the order of their first pulse, each with its pulses (R91; DESIGN CHOICE,
assumption 15). -/
def tagCounts (queue : List Nat) : List (Nat × Nat) :=
  (queue.foldl (fun l t => if l.contains t then l else l ++ [t]) []).map fun t => (t, queue.count t)

/-- The content of READ_PULSE_OUTPUT's reply; the vapour-recovery setting is a flag, 1 for enabled, and one presence byte
stands before the tracked delivery's number and meter (R91; DESIGN CHOICE, assumption 15). -/
def Pou.reply (u : Pou) : List Byte :=
  optionBytes 3 (fun x => u16 x.1 ++ u8 x.2.number) u.tracked ++ flagBytes u.vapour ++ u16 u.divider
    ++ flagBytes u.generating ++ u32 u.high ++ u16 u.residue ++ u8 u.queue.length
    ++ listBytes (fun x => u16 x.1 ++ u8 x.2) (tagCounts u.queue) ++ u8 u.phase.number

/-- READ_PULSE_OUTPUT (R91). -/
def execReadPulseOutput (point : Nat) (s : State) : Host.Outcome State Fault Refusal :=
  s.request (.readPulseOutput point)
    (orBadField (Point.ofNumber point) fun p => .only (okReply (s.pou.get p).reply))

/-! ## Nozzles -/

/-- A nozzle switch takes a level. -/
def State.moveNozzle (s : State) (p : Point) (k : Position) (up : Bool) : State :=
  { s with pins := { s.pins with nozzles := s.pins.nozzles.set p ((s.pins.nozzles.get p).setAt k up) } }

/-- A lift as the point takes it, its switch already up (R53 to R55). -/
def State.lift (s : State) (p : Point) (k : Position) : State :=
  match (s.point p).st with
  | .closed => (s.post (.point p) (.nozzleCall k true false)).wakeLine .nozzle s.psc.schedule.nozzleWake
  | .idle =>
    (s.mapPoint p fun d => { d with st := .calling, position := some k }).post (.point p) (.nozzleCall k false false)
  | .authorized => s.judgeLift p k
  | .finished => s.post (.point p) (.nozzleCall k false true)
  | .calling => s.post (.point p) (.nozzleRefused k .conflict)
  | .starting => s.post (.point p) (.nozzleRefused k .conflict)
  | .fuelling => s.post (.point p) (.nozzleRefused k .conflict)
  | .slowing => s.post (.point p) (.nozzleRefused k .conflict)
  | .stopping => s.post (.point p) (.nozzleRefused k .conflict)

/-- The lifts of an event: those of the switches that were down. -/
def State.freshLifts (s : State) (p : Point) (k : Position) (together : Option Position) : List (Point × Position) :=
  ((p, k) :: (together.map fun j => (p.other, j)).toList).filter fun x => !s.up x.1 x.2

/-- Two lifts that come together are taken with the lower meter number first, and point A first on one meter (R60,
R176). -/
def State.orderLifts (s : State) (l : List (Point × Position)) : List (Point × Position) :=
  match l with
  | [x, y] =>
    let m := (s.hose x.1 x.2).meter.number
    let n := (s.hose y.1 y.2).meter.number
    if n < m ∨ (n = m ∧ y.1 = .a) then [y, x] else [x, y]
  | l => l

/-- NOZZLE_LIFT (R53 to R55, R60). -/
def execNozzleLift (point : Point) (position : Position) (together : Option Position) (s : State) :
    Host.Outcome State Fault Refusal :=
  let l := s.freshLifts point position together
  let moved := l.foldl (fun t x => t.moveNozzle x.1 x.2 true) s
  s.inputEvent moved fun t => (t.orderLifts l).foldl (fun t x => t.lift x.1 x.2) t

/-- A hang of a nozzle that was up, its switch already down (R56). -/
def State.hang (s : State) (p : Point) (k : Position) : State :=
  if (s.point p).position = some k then
    if (s.point p).st = .calling then (s.post (.point p) (.nozzleHang k)).enterIdle p
    else if s.waiting p then (s.returnToAuthorized p).post (.point p) (.nozzleHang k)
    else s.stopHolder p .nozzleHung
  else s

/-- NOZZLE_HANG (R56). -/
def execNozzleHang (point : Point) (position : Position) (s : State) : Host.Outcome State Fault Refusal :=
  s.inputEvent (s.moveNozzle point position false) fun t => if s.up point position then t.hang point position else t

/-! ## Timers of the points and motors -/

/-- START_SPACING_ELAPSED (R176): nothing is timed while the queue is empty. -/
def execStartSpacingElapsed (s : State) : Host.Outcome State Fault Refusal :=
  s.event (if s.psc.startQueue = [] then none
    else some (s.reach (s.psc.lastGrant + s.psc.spacing)).testStartQueue)

/-- RUN_UP_ELAPSED (R63). -/
def execRunUpElapsed (meter : Meter) (s : State) : Host.Outcome State Fault Refusal :=
  s.event (if (s.motor meter).st = .running then
      some ((s.reach ((s.motor meter).onSince + (s.channel meter).record.runUp)).tryOpenHolder meter)
    else none)

/-- NO_FLOW_EXPIRY (R67). -/
def execNoFlowExpiry (point : Point) (s : State) : Host.Outcome State Fault Refusal :=
  s.event ((s.point point).noFlowDue.map fun t => (s.reach t).stopHolder point .noFlow)

/-- QUIET_EXPIRY (R69, R70). -/
def execQuietExpiry (point : Point) (s : State) : Host.Outcome State Fault Refusal :=
  s.event ((s.point point).quietDue.map fun t => (s.reach t).finish point)

/-- RUN_ON_EXPIRY (R62). -/
def execRunOnExpiry (meter : Meter) (s : State) : Host.Outcome State Fault Refusal :=
  s.event ((s.motor meter).runOnDue.map fun t =>
    (s.reach t).setMotor meter { s.motor meter with st := .off, runOnDue := none })

/-- AUTHORIZATION_TIMEOUT (R74). -/
def execAuthorizationTimeout (point : Point) (s : State) : Host.Outcome State Fault Refusal :=
  s.event ((s.point point).authDue.map fun t => (s.reach t).endAuthorization point .expired)

/-! ## Emergency stop -/

/-- The emergency-stop line takes a level. -/
def State.moveEmergency (s : State) (level : Bool) : State := { s with pins := { s.pins with emergency := level } }

/-- EMERGENCY_STOP_ASSERT (R77). -/
def execEmergencyStopAssert (s : State) : Host.Outcome State Fault Refusal :=
  s.inputEvent (s.moveEmergency true) fun t =>
    if s.pins.emergency then t else (t.changed .emergencyStop true).emergencyStop

/-- EMERGENCY_STOP_RELEASE (R77). -/
def execEmergencyStopRelease (s : State) : Host.Outcome State Fault Refusal :=
  s.inputEvent (s.moveEmergency false) fun t => if s.pins.emergency then t.changed .emergencyStop false else t

/-! ## Pulse outputs -/

/-- PULSE_HIGH_END (R89). -/
def execPulseHighEnd (point : Point) (s : State) : Host.Outcome State Fault Refusal :=
  s.event (if (s.pou.get point).phase = .high then
      let t := s.reach ((s.pou.get point).phaseSince + pulseTime)
      some (t.mapPou point fun u => { u with phase := .low, phaseSince := t.now })
    else none)

/-- PULSE_LOW_END (R89, R90). -/
def execPulseLowEnd (point : Point) (s : State) : Host.Outcome State Fault Refusal :=
  s.event (if (s.pou.get point).phase = .low then
      some ((s.reach ((s.pou.get point).phaseSince + pulseTime)).emit point)
    else none)

end Sys2Proof.Machine
end

