-- ==== Sys2Proof/Machine/ExecDisplays.lean ====
section
/-! DEFINITION. READ_TOTALS (chapter 6) and the commands of the Display Drive Unit (chapter 7). -/

namespace Sys2Proof.Machine

/-- The content of READ_TOTALS's reply (R95). -/
def Totals.reply (t : Totals) : List Byte :=
  t.meterVolume.toList.flatMap u64 ++ t.meterCount.toList.flatMap u32 ++ t.gradeVolume.toList.flatMap u64
    ++ t.gradeAmount.toList.flatMap u64 ++ t.marks.toList.flatMap (optionBytes 2 u16)

/-- READ_TOTALS (R95). -/
def execReadTotals (s : State) : Host.Outcome State Fault Refusal :=
  s.request .readTotals (.only (okReply s.totals.reply))

/-- LOAD_DISPLAY (R107). -/
def execLoadDisplay (fields : DisplayFields) (s : State) : Host.Outcome State Fault Refusal :=
  s.request (.loadDisplay fields)
    (orBadField (displaySettingsOf fields) fun t => .acts { s with display := t }.touchConfig (okReply []))

/-- The reply to a display test that is refused (R119). -/
def TestRefusal.reply : TestRefusal → List Byte
  | .loadOff => refusedReply .wrongState
  | .holding => busyReply
  | .selling => busyReply
  | .inFlight => busyReply

/-- DISPLAY_TEST (R119). -/
def execDisplayTest (side : Nat) (s : State) : Host.Outcome State Fault Refusal :=
  s.request (.displayTest side)
    (orBadField (pointsOf side) fun l =>
      match l.findSome? s.testRefusal with
      | some r => .only r.reply
      | none => .acts (l.foldl State.startHostTest s) (acceptedReply []))

/-- The grades closed at a side by window faults, bit k - 1 for grade k (R126). -/
def State.closedGrades (s : State) (x : Side) : Nat := positionSet (Grade.all.map (s.windowCloses x))

/-- The phase of a display test, the refreshes that phase has had, and the positions listed so far (R126). -/
def DisplayTest.progressBytes (t : DisplayTest) : List Byte :=
  u8 (if t.done < 3 then 1 else 2) ++ u8 (t.done % 3) ++ u8 t.count

/-- The operation in flight at a side: its number, its phase, its refresh as the number of refreshes the phase has had,
and the positions listed (R126). A zero check that waits is told as such, with the progress of the test it waits for; one
asked for and not yet begun is in its first phase with no refresh (DESIGN CHOICE, assumption 15). -/
def DduSide.operationBytes (d : DduSide) : List Byte :=
  match d.zero, d.test with
  | .waiting, some t => u8 2 ++ t.progressBytes
  | .waiting, none => u8 2 ++ u8 0 ++ u8 0 ++ u8 0
  | _, some t => u8 3 ++ t.progressBytes
  | .none, none => u8 0 ++ u8 0 ++ u8 0 ++ u8 0
  | .allOn n, none => u8 1 ++ u8 1 ++ u8 n ++ u8 0
  | .zeros n, none => u8 1 ++ u8 2 ++ u8 n ++ u8 0

/-- The hold of a side with the time that remains (R126). -/
def Hold.bytes (h : Hold) (now : Nat) : List Byte :=
  match h with
  | .none => u8 0 ++ durationBytes (Option.none : Option Nat)
  | .awaitingFinish => u8 1 ++ durationBytes (Option.none : Option Nat)
  | .timing due => u8 2 ++ remaining (some due) now

/-- The content of READ_DISPLAY's reply (R126). -/
def State.displayReply (s : State) (x : Side) : List Byte :=
  let d := s.side x
  flagBytes (s.refreshing x) ++ d.driven.flatMap (fun y => u8 y.code) ++ d.counts.flatMap u8
    ++ u32 (positionSet d.faulted) ++ flagBytes d.sideFault ++ u8 (s.closedGrades x) ++ u32 d.shown.volume
    ++ u32 d.shown.amount ++ u8 (if d.shown.final then 1 else 2) ++ d.operationBytes ++ d.hold.bytes s.now
    ++ u8 (if s.heaterDemand x then 1 else 2) ++ s.display.bytes

/-- READ_DISPLAY (R126). -/
def execReadDisplay (side : Nat) (s : State) : Host.Outcome State Fault Refusal :=
  s.request (.readDisplay side)
    (orBadField (Point.ofNumber side) fun x => .only (okReply (s.displayReply x)))

/-! ## The refresh (R109 to R120) -/

/-- The DLE's running figures of a side's point at a refresh instant. A point in STARTING that waits for its meter has
none, and its record is not written at the refresh (R22, R52, R99, R111; DEDUCED, assumption 49). -/
def State.runningFigures (s : State) (p : Point) : State :=
  match s.heldBy p, (s.point p).current with
  | some m, some r =>
    if (s.point p).st.delivering then
      let c := s.channel m
      let r := r.figured c.net c.reverse
      let s := s.mapPoint p fun d => { d with current := some r, figuresAt := some s.stamp }
      (s.mapSide p (·.running r.volume r.amount)).touchDeliveries
    else s
  | _, _ => s

/-- A position of a FINISHED point's side has become faulted (R115). -/
def State.markDisplayFault (s : State) (p : Point) : State :=
  if (s.point p).st = .finished then
    s.mapCurrent p fun r => { r with flags := { r.flags with displayFault := true } }
  else s

/-- The side fault sets, with its condition change and its event (R113). -/
def State.setSideFault (s : State) (x : Side) : State :=
  ((s.mapSide x fun d => { d with sideFault := true }).changed (.displayFault x) true).sideFaultEvent x

/-- The grades that window faults have closed since a state (R114). -/
def State.newlyClosed (s before : State) (x : Side) : List Grade :=
  Grade.all.filter fun g => s.windowCloses x g && !before.displayCloses x g

/-- The judgement of a refresh with what follows from the positions that became faulted (R112 to R115). -/
def State.judgeRefresh (s : State) (x : Side) (diff : List Bool) (noSense : Bool) : State :=
  let (d, newly) := (s.side x).judge diff
  let t := s.mapSide x fun _ => d
  if newly.any id then
    let t := (t.post (.side x) (.displayDigitFault newly noSense)).markDisplayFault x
    let closed := t.newlyClosed s x
    let t := if (newly.take figurePositions).any id && !d.sideFault then t.setSideFault x else t
    closed.foldl (fun t g => t.gradeClosedEvent x g) t
  else t

/-- A phase of the zero check after a refresh; `bad` says whether the refresh would make the phase bad (R117). -/
def State.progressZero (s : State) (x : Side) (bad : Bool) : State :=
  match (s.side x).zero with
  | .none => s
  | .waiting => s
  | .allOn n =>
    if n + 1 < 3 then s.mapSide x fun d => { d with zero := .allOn (n + 1) }
    else if bad then s.zeroFailed x
    else s.mapSide x fun d => { d with zero := .zeros 0 }
  | .zeros n =>
    if n + 1 < 2 then s.mapSide x fun d => { d with zero := .zeros (n + 1) }
    else if bad then s.zeroFailed x
    else s.zeroPassed x

/-- A zero check that waited for the test begins at the next refresh, or fails at once (R116). -/
def State.releaseZero (s : State) (x : Side) : State :=
  if (s.side x).zero = .waiting then
    if (s.side x).sideFault ∨ s.refreshing x = false then s.zeroFailed x
    else s.mapSide x fun d => { d with zero := .allOn 0 }
  else s

/-- A display test after a refresh: the positions it lists, and its end at the sixth (R120). The PSC is handed the
result when it asked for the test. -/
def State.progressTest (s : State) (x : Side) (diff : List Bool) : State :=
  match (s.side x).test with
  | none => s
  | some t =>
    let t := { t with done := t.done + 1, listed := (t.listed.zip diff).map fun (a, b) => a || b }
    let s := s.mapSide x fun d => { d with test := some t }
    if t.done < 6 then s
    else
      let result := if t.count = 0 then TestResult.passed else .failed
      let s := (s.endTest x result).releaseZero x
      if t.bySequence then s.testNotice x result else s

/-- The exchange of a refresh with a powered side (R109, R110, R112, R117, R120). -/
def State.exchangeSide (s : State) (x : Side) (sense : Option (List Byte)) : State :=
  let driven := s.content x
  let judged := s.good .displaySupply
  let diff := differs driven sense
  let listed := if judged then diff else diff.map fun _ => true
  let s := s.mapSide x fun d => { d with driven := driven }
  let s := if judged then s.judgeRefresh x diff sense.isNone else s
  let s := s.progressZero x ((listed.take figurePositions).any id)
  s.progressTest x listed

/-- A refresh instant of a side (R22, R109). -/
def State.refresh (s : State) (x : Side) (sense : Option (List Byte)) : State :=
  let s := s.reach (s.side x).refreshDue
  let s := s.mapSide x fun d => { d with refreshDue := d.refreshDue + 100 }
  let s := s.runningFigures x
  if s.refreshing x then s.exchangeSide x sense else s

/-- REFRESH_INSTANT (R109). -/
def execRefreshInstant (side : Side) (sense : Option (List Byte)) (s : State) : Host.Outcome State Fault Refusal :=
  s.event (some (s.refresh side sense))

/-- DISPLAY_HOLD_EXPIRY (R123). -/
def execDisplayHoldExpiry (side : Side) (s : State) : Host.Outcome State Fault Refusal :=
  s.event (match (s.side side).hold with
    | .timing due => some (((s.reach due).endHold side .expired).darken side)
    | .none => none
    | .awaitingFinish => none)

end Sys2Proof.Machine
end

