-- ==== Sys2Proof/Machine/ExecGate.lean ====
section
/-! DEFINITION. The commands of the Card Reader Gate (chapter 8). -/

namespace Sys2Proof.Machine

/-! ## Requests -/

/-- READER_ON (R131). -/
def execReaderOn (s : State) : Host.Outcome State Fault Refusal :=
  s.request .readerOn
    (if s.psc.power = .mainsLost then refuse .noMains
     else if s.crg.st = .quarantine then refuse .wrongState
     else if s.crg.st = .off then .acts (s.readerOnFromOff .request) (okReply [])
     else .only (okReply []))

/-- READER_OFF (R148). -/
def execReaderOff (s : State) : Host.Outcome State Fault Refusal :=
  s.request .readerOff (.acts (s.readerOffAct .request) (okReply []))

/-- READER_RELEASE (R147). -/
def execReaderRelease (s : State) : Host.Outcome State Fault Refusal :=
  s.request .readerRelease
    (if s.crg.st ≠ .quarantine then refuse .wrongState
     else if s.pins.tamper then refuse .notPermitted
     else if s.psc.power = .mainsLost then refuse .noMains
     else .acts (s.powerGate .release fun c => { c with cause := none, attempts := 0 }) (okReply []))

/-- The most entries the outbound mailbox holds (R139). -/
def mailboxRoom : Nat := 4

/-- READER_POST (R139). -/
def execReaderPost (tag : Nat) (payload : List Byte) (s : State) : Host.Outcome State Fault Refusal :=
  s.request (.readerPost tag payload)
    (if payload.length = 0 ∨ 64 < payload.length then refuse .badField
     else match s.crg.st, s.crg.session with
       | .opened, some n =>
         if mailboxRoom ≤ s.crg.outbound.length then refuse .full
         else
           .acts (s.mapCrg fun c =>
             { c with outbound := c.outbound ++ [{ tag := tag, payload := payload, session := n }] })
             (acceptedReply (u16 n))
       | _, _ => refuse .wrongState)

/-- The content of READER_FETCH's reply (R138); its payload, of varying length, is a list (R197). -/
def State.fetchReply (s : State) (e : Inbound) (left : Nat) : List Byte :=
  u16 e.session ++ e.arrived.bytes ++ listBytes (fun b => [b]) e.payload
    ++ flagBytes (decide (s.crg.session = some e.session)) ++ u8 left

/-- READER_FETCH (R138). -/
def execReaderFetch (s : State) : Host.Outcome State Fault Refusal :=
  s.request .readerFetch
    (match s.crg.inbound with
     | [] => .only (emptyReply [])
     | e :: rest => .acts (s.mapCrg fun c => { c with inbound := rest }) (okReply (s.fetchReply e rest.length)))

/-- LOAD_GATE (R151). -/
def execLoadGate (fields : GateFields) (s : State) : Host.Outcome State Fault Refusal :=
  s.request (.loadGate fields)
    (orBadField (gateSettingsOf fields) fun t =>
      .acts (s.mapCrg fun c => { c with settings := t }).touchConfig (okReply []))

/-- The content of READ_GATE's reply; the loss list is sent oldest moment first (R152; DESIGN CHOICE, assumption 15). -/
def State.gateReply (s : State) : List Byte :=
  let c := s.crg
  u8 c.st.number ++ u8 (optNumber QuarantineCause.number c.cause) ++ u16 c.counter ++ optionBytes 2 u16 c.session
    ++ optionBytes 12 Identity.bytes c.identity ++ flagBytes c.readerToggle ++ flagBytes c.gateToggle
    ++ listBytes (fun e => u16 e.session) c.inbound ++ listBytes (fun e => u16 e.tag) c.outbound ++ u8 c.miss
    ++ u8 c.errors ++ u8 c.attempts ++ listBytes (fun t => durationBytes (some (s.now - t))) c.losses ++ u16 c.flushed
    ++ u8 (optNumber (fun x => x.1.number) c.run) ++ durationBytes (c.run.map fun x => s.now - x.2)
    ++ flagBytes s.pins.tamper ++ flagBytes (s.good .readerSupply) ++ flagBytes c.loadOn ++ c.settings.bytes

/-- READ_GATE (R152). -/
def execReadGate (s : State) : Host.Outcome State Fault Refusal :=
  s.request .readGate (.only (okReply s.gateReply))

/-! ## The link -/

/-- The interval of the poll instants, in milliseconds (R128). -/
def pollInterval : Nat := 100

/-- A poll instant: the gate sends a packet, or owes it until the reply in progress ends. One packet is owed however many
poll instants fall into one reply (R128; DESIGN CHOICE, assumption 30). -/
def State.poll (s : State) : Option State :=
  if s.crg.polls then
    let t := s.reach s.crg.pollDue
    some (t.mapCrg fun c =>
      let c := { c with pollDue := c.pollDue + pollInterval }
      if c.exchange.isSome then { c with pollOwed := true } else c.send t.now)
  else none

/-- POLL_INSTANT (R128). -/
def execPollInstant (s : State) : Host.Outcome State Fault Refusal := s.event s.poll

/-- A reply is complete: it is judged, and a packet owed is sent (R128, R129). -/
def State.takeReply (s : State) (bytes : List Byte) : Option State :=
  match s.crg.exchange with
  | none => none
  | some x =>
    let s := s.endExchange
    match readPacket bytes with
    | some k => some (s.judgePacket x.pass bytes k).sendOwed
    | none => some s.badPacket.sendOwed

/-- READER_REPLY_RECEIVED (R129). -/
def execReaderReplyReceived (bytes : List Byte) (s : State) : Host.Outcome State Fault Refusal :=
  s.event (s.takeReply bytes)

/-- The time a reply has to begin, in milliseconds (R128). -/
def replyTime : Nat := 40

/-- The miss count at which the link is lost (R142). -/
def lossMisses : Nat := 5

/-- A miss (R128, R142). -/
def State.countMiss (s : State) : State :=
  if s.crg.st = .opened ∨ s.crg.st = .echo then
    let s := s.mapCrg fun c => { c with miss := satAdd lossMisses c.miss 1 }
    if lossMisses ≤ s.crg.miss then s.linkLost else s
  else s

/-- No byte of a reply has arrived in its time (R128). -/
def State.missReply (s : State) : Option State :=
  match s.crg.exchange with
  | none => none
  | some x => some (s.reach (x.sentAt + replyTime)).endExchange.countMiss.sendOwed

/-- READER_REPLY_MISS (R128). -/
def execReaderReplyMiss (s : State) : Host.Outcome State Fault Refusal := s.event s.missReply

/-- A reply is broken by a gap and judged as a bad packet (R128). -/
def State.gapReply (s : State) : Option State :=
  match s.crg.exchange with
  | none => none
  | some _ => some s.endExchange.badPacket.sendOwed

/-- READER_REPLY_GAP (R128). -/
def execReaderReplyGap (s : State) : Host.Outcome State Fault Refusal := s.event s.gapReply

/-- The end of an error window (R144). -/
def State.endErrorWindow (s : State) : State :=
  (s.reach s.crg.errorDue).mapCrg fun c => { c with errors := 0, errorDue := c.errorDue + 1000 }

/-- ERROR_WINDOW_END (R144). -/
def execErrorWindowEnd (s : State) : Host.Outcome State Fault Refusal := s.event (some s.endErrorWindow)

/-! ## Powering up -/

/-- An attempt is timed: in POWERING with the load on, and in SYNC (R132). -/
def Crg.attempting (c : Crg) : Bool :=
  match c.st with
  | .powering => c.offDue.isNone
  | .sync => true
  | _ => false

/-- ATTEMPT_TIMEOUT (R132). -/
def execAttemptTimeout (s : State) : Host.Outcome State Fault Refusal :=
  s.event (if s.crg.attempting then some (s.reach s.crg.attemptDue).attemptFailed else none)

/-- OFF_INTERVAL_END (R132). -/
def execOffIntervalEnd (s : State) : Host.Outcome State Fault Refusal :=
  s.event (s.crg.offDue.map fun t =>
    let s := s.reach t
    s.mapCrg fun c => c.beginAttempt s.now (s.good .readerSupply))

/-- The boot time has elapsed: the gate enters SYNC, and its poll instants begin (R128, R132; assumption 13). -/
def State.bootDone (s : State) : State :=
  s.moveGate .supplyReady fun c => { c.enterSync s.now with pollDue := s.now + pollInterval }

/-- BOOT_TIME_ELAPSED (R132). -/
def execBootTimeElapsed (s : State) : Host.Outcome State Fault Refusal :=
  s.event (s.crg.bootDue.map fun t => (s.reach t).bootDone)

/-! ## Tamper -/

/-- The tamper line takes a level. -/
def State.moveTamper (s : State) (level : Bool) : State := { s with pins := { s.pins with tamper := level } }

/-- TAMPER_ASSERT (R145). -/
def execTamperAssert (s : State) : Host.Outcome State Fault Refusal :=
  s.inputEvent (s.moveTamper true) fun t => if s.pins.tamper then t else (t.changed .tamper true).tamperAct

/-- TAMPER_RELEASE (R145). -/
def execTamperRelease (s : State) : Host.Outcome State Fault Refusal :=
  s.inputEvent (s.moveTamper false) fun t => if s.pins.tamper then t.changed .tamper false else t

end Sys2Proof.Machine
end

