-- ==== Sys2Proof/Machine/ExecPower.lean ====
section
/-! DEFINITION. The commands of the Power Sequencing Controller (chapter 9). -/

namespace Sys2Proof.Machine

/-! ## Requests -/

/-- The comparator's settings are replaced; its condition keeps its value and its timer starts afresh (R156). -/
def State.loadSense (s : State) (c : Comparator) (t : SenseSettings) : State :=
  let mv := s.pins.millivolts.sc c
  (s.mapPsc fun k =>
    { k with sensors :=
        k.sensors.setSc c ({ k.sensors.sc c with settings := t }.become (k.sensors.sc c).good mv s.now) }).touchConfig

/-- LOAD_SENSE (R156). -/
def execLoadSense (comparator : Nat) (fields : SenseFields) (s : State) : Host.Outcome State Fault Refusal :=
  s.request (.loadSense comparator fields)
    (orBadField (Comparator.ofNumber comparator) fun c =>
      orBadField (senseSettingsOf fields) fun t => .acts (s.loadSense c t) (okReply []))

/-- LOAD_SEQUENCE; a field out of range is judged before the power state (R159; DESIGN CHOICE, assumption 45). -/
def execLoadSequence (steps : List StepFields) (s : State) : Host.Outcome State Fault Refusal :=
  s.request (.loadSequence steps)
    (orBadField (stepTableOf steps) fun l =>
      if s.psc.power = .waking then refuse .wrongState
      else .acts (s.mapPsc fun c => { c with steps := l }).touchConfig (okReply []))

/-- READ_SEQUENCE (R159). -/
def execReadSequence (s : State) : Host.Outcome State Fault Refusal :=
  s.request .readSequence (.only (okReply (listBytes PowerStep.bytes s.psc.steps)))

/-- WAKE (R164). -/
def execWake (s : State) : Host.Outcome State Fault Refusal :=
  s.request .wake
    (match s.psc.power with
     | .night => if s.good .mains then .acts (s.wakeNow .request) (okReply []) else refuse .noMains
     | .halted => if s.good .mains then .acts (s.wakeNow .request) (okReply []) else refuse .noMains
     | .draining => .acts (s.backToRun .request) (okReply [])
     | .waking => .only (okReply [])
     | .run => .only (okReply [])
     | .mainsLost => refuse .noMains)

/-- SLEEP (R168). -/
def execSleep (s : State) : Host.Outcome State Fault Refusal :=
  s.request .sleep (.acts (s.sleepAct .request) (okReply []))

/-- SET_START_SPACING (R176). -/
def execSetStartSpacing (spacing : Nat) (s : State) : Host.Outcome State Fault Refusal :=
  s.request (.setStartSpacing spacing)
    (orBadField (inRange 0 10000 spacing) fun n =>
      .acts ((s.mapPsc fun c => { c with spacing := n }).touchConfig).testStartQueue (okReply []))

/-- SET_CLOCK (R178). -/
def execSetClock (day second : Nat) (s : State) : Host.Outcome State Fault Refusal :=
  s.request (.setClock day second)
    (orBadField (inRange 0 65535 day) fun d =>
      orBadField (inRange 0 86399 second) fun n =>
        .acts (s.mapPsc fun c => { c with clock := { day := d, sec := n }, clockSet := true }) (okReply []))

/-- SET_SCHEDULE (R179). -/
def execSetSchedule (fields : ScheduleFields) (s : State) : Host.Outcome State Fault Refusal :=
  s.request (.setSchedule fields)
    (orBadField (scheduleOf fields) fun t =>
      .acts (s.mapPsc fun c => { c with schedule := t }).touchConfig (okReply []))

/-- A comparator as READ_POWER tells it: its condition as a flag, 1 for good, its settings, and the time that the timer of
the present direction has run, none where it does not run (R154, R180; DESIGN CHOICE, assumption 15). -/
def Sensor.reply (x : Sensor) (now : Nat) : List Byte :=
  flagBytes x.good ++ x.settings.bytes ++ durationBytes (x.since.map fun t => now - t)

/-- The step cursor as READ_POWER tells it, with the retry count: the step's number and the phase's, each one byte and 0
where there is no cursor (R180; DESIGN CHOICE, assumption 15). -/
def Psc.cursorBytes (c : Psc) (now : Nat) : List Byte :=
  u8 (optNumber (·.step) c.cursor) ++ u8 (optNumber (fun k => k.phase.number) c.cursor)
    ++ durationBytes (c.cursor.map fun k => now - k.since) ++ u8 c.retries

/-- The content of READ_POWER's reply; the wake that waits is a flag and then its cause, 0 for none, and the day
clock's mark a flag, 1 for set (R178, R180; DESIGN CHOICE, assumption 15). -/
def State.powerReply (s : State) : List Byte :=
  let c := s.psc
  u8 c.power.number ++ u8 c.intended.number ++ flagBytes c.wakePending.isSome
    ++ u8 (optNumber WakeCause.number c.wakePending) ++ c.cursorBytes s.now
    ++ optionBytes 8 StepFailure.bytes c.lastFailure
    ++ Load.all.flatMap (fun l => flagBytes (s.drive l) ++ flagBytes (s.output l) ++ flagBytes (s.heldOn l))
    ++ listBytes (fun l => u8 l.number) c.shutdown ++ c.sensors.toList.flatMap (fun x => x.reply s.now)
    ++ listBytes (fun m => u8 m.number) c.startQueue ++ durationBytes (some (s.now - c.lastGrant)) ++ u16 c.spacing
    ++ c.clock.bytes ++ flagBytes c.clockSet ++ c.schedule.bytes

/-- READ_POWER (R180). -/
def execReadPower (s : State) : Host.Outcome State Fault Refusal :=
  s.request .readPower (.only (okReply s.powerReply))

/-! ## Sensing -/

/-- A comparator's input takes a voltage. -/
def State.moveVoltage (s : State) (c : Comparator) (mv : Nat) : State :=
  { s with pins := { s.pins with millivolts := s.pins.millivolts.setSc c mv } }

/-- The timer of a comparator follows its input; a persistence of 0 changes the condition at once (R154). -/
def State.followInput (s : State) (c : Comparator) : State :=
  let x := s.psc.sensors.sc c
  let timing := x.timing (s.pins.millivolts.sc c)
  if timing ∧ x.persistence = 0 then s.conditionBecomes c (!x.good)
  else
    s.mapPsc fun k =>
      { k with sensors := k.sensors.setSc c { x with since := if timing then some (x.since.getD s.now) else none } }

/-- SENSE_INPUT_CHANGE (R154). -/
def execSenseInputChange (comparator : Comparator) (millivolts : Nat) (s : State) : Host.Outcome State Fault Refusal :=
  s.inputEvent (s.moveVoltage comparator millivolts) fun t => t.followInput comparator

/-- SENSE_PERSISTENCE_EXPIRY (R154). -/
def execSensePersistenceExpiry (comparator : Comparator) (s : State) : Host.Outcome State Fault Refusal :=
  let x := s.psc.sensors.sc comparator
  s.event (x.since.map fun t => (s.reach (t + x.persistence)).conditionBecomes comparator (!x.good))

/-- CARD_PRESENT_ASSERT (R164). -/
def execCardPresentAssert (s : State) : Host.Outcome State Fault Refusal :=
  s.event (some (s.wakeLine .card s.psc.schedule.cardWake))

/-! ## The step in hand -/

/-- The step in hand with its cursor, when the sequence runs and the step is in a phase (R160). -/
def Psc.inPhase (c : Psc) (phase : StepPhase) : Option (Cursor × PowerStep) :=
  match c.cursor, c.inHand with
  | some k, some (_, st) => if c.power = .waking ∧ k.phase = phase then some (k, st) else none
  | _, _ => none

/-- SETTLE_TIME_ELAPSED (R160). -/
def execSettleTimeElapsed (s : State) : Host.Outcome State Fault Refusal :=
  s.event ((s.psc.inPhase .settle).map fun (k, st) => (s.reach (k.since + st.settle)).advanceSteps .checks)

/-- CHECK_TIMEOUT (R160). -/
def execCheckTimeout (s : State) : Host.Outcome State Fault Refusal :=
  s.event ((s.psc.inPhase .check).map fun (k, st) =>
    (s.reach (k.since + 1000 * st.timeout)).advanceSteps (.fails .checkTimeout 0))

/-- RETRY_WAIT_END (R162). -/
def execRetryWaitEnd (s : State) : Host.Outcome State Fault Refusal :=
  s.event ((s.psc.inPhase .retryWait).map fun (k, st) => (s.reach (k.since + st.settle)).advanceSteps (.begins k.step))

/-- SHUTDOWN_RUN_TICK (R170). -/
def execShutdownRunTick (s : State) : Host.Outcome State Fault Refusal :=
  s.event (if s.psc.shutdown = [] then none
    else
      let t := s.reach s.psc.shutdownDue
      some (t.mapPsc fun c => { c with shutdownDue := c.shutdownDue + shutdownInterval }).shutNext)

/-- DAY_CLOCK_SECOND (R178). -/
def execDayClockSecond (s : State) : Host.Outcome State Fault Refusal :=
  s.event (some (s.reach s.psc.secondDue).clockSecond)

end Sys2Proof.Machine
end

