-- ==== Sys2Proof/Machine/ExecLink.lean ====
section
/-! DEFINITION. The commands of the Host Link Port (chapter 10) and of the Retained Memory, and the starts. -/

namespace Sys2Proof.Machine

/-! ## Requests -/

/-- The content of an OK reply to FETCH_REPORTS: the number returned, the lost counter, the number remaining and the
entries (R187, 11.4). -/
def fetchContent (out : List Report) (lost left : Nat) : List Byte :=
  u8 out.length ++ u8 lost ++ u8 left ++ out.flatMap Report.bytes

/-- A fetch that is no repeat (R187). -/
def Hlp.fetch (h : Hlp) (maximum : Nat) : Hlp × List Byte :=
  if h.reports = [] ∧ h.lost = 0 then ({ h with lastFetch := some (emptyReply []) }, emptyReply [])
  else
    let out := h.reports.take maximum
    let rest := h.reports.drop maximum
    let reply := okReply (fetchContent out h.lost rest.length)
    ({ h with reports := rest, lost := 0, lastFetch := some reply }, reply)

/-- FETCH_REPORTS (R187). -/
def execFetchReports (maximum again : Nat) (s : State) : Host.Outcome State Fault Refusal :=
  s.request (.fetchReports maximum again)
    (orBadField (inRange 1 8 maximum) fun n =>
      orBadField (flagOf again) fun again =>
        if again then .only (s.hlp.lastFetch.getD (emptyReply []))
        else
          let (h, reply) := s.hlp.fetch n
          .acts { s with hlp := h } reply)

/-- SET_REPORT_MODES (R190). -/
def execSetReportModes (policy : Nat) (modes : List Nat) (s : State) : Host.Outcome State Fault Refusal :=
  s.request (.setReportModes policy modes)
    (orBadField (policyOf policy) fun p =>
      orBadField (reportModesOf modes) fun t =>
        .acts (s.mapHlp fun h => { h with policy := p, modes := t }).touchConfig (okReply []))

/-- The silence time and the timer as SET_HOST_SILENCE leaves them (R191). -/
def Hlp.setSilence (h : Hlp) (now seconds : Nat) : Hlp :=
  { h with silenceTime := seconds, silence := if seconds = 0 then .off else .running (now + 1000 * seconds) }

/-- SET_HOST_SILENCE (R191). -/
def execSetHostSilence (seconds : Nat) (s : State) : Host.Outcome State Fault Refusal :=
  s.request (.setHostSilence seconds)
    (orBadField (inRange 0 600 seconds) fun n =>
      .acts (s.mapHlp (·.setSilence s.now n)).touchConfig (okReply []))

/-- The content of IDENTIFY's reply (R192). -/
def State.identityReply (s : State) : List Byte :=
  textBytes Config.vendorName ++ textBytes Config.partName ++ u16 Config.partRevision ++ u8 s.hlp.startCause.number
    ++ u8 s.rtm.configValidity.number ++ u8 s.rtm.totalsValidity.number ++ u8 s.rtm.deliveriesValidity.number

/-- IDENTIFY (R192). -/
def execIdentify (s : State) : Host.Outcome State Fault Refusal :=
  s.request .identify (.only (okReply s.identityReply))

/-- The moment a running silence timer runs out. -/
def SilenceTimer.due : SilenceTimer → Option Nat
  | .running t => some t
  | .off => none
  | .stopped => none
  | .expired => none

/-- The content of READ_STATUS's reply (R193). -/
def State.statusReply (s : State) : List Byte :=
  u8 s.psc.power.number ++ u8 s.psc.intended.number
    ++ Point.all.flatMap (fun p => u8 (s.point p).st.number ++ u16 (s.point p).generation)
    ++ u8 s.crg.st.number ++ optionBytes 2 u16 s.crg.session
    ++ Condition.all.flatMap (fun c => flagBytes (s.condition c))
    ++ u16 s.hlp.frameErrors ++ u16 s.hlp.overruns ++ u8 s.hlp.reports.length ++ u8 s.hlp.lost
    ++ u8 s.hlp.policy.number ++ u16 s.hlp.silenceTime ++ u8 s.hlp.silence.number ++ remaining s.hlp.silence.due s.now
    ++ flagBytes s.hlp.attn

/-- READ_STATUS: the silence timer is told as the request's own frame leaves it (R191, R193; assumption 3). -/
def execReadStatus (s : State) : Host.Outcome State Fault Refusal :=
  s.request .readStatus (.only (okReply (s.mapHlp (·.heard s.now)).statusReply))

/-- RESTART taken: the deliveries are finalized, a drain whose last sale that was completes, what no write of DELIVERIES
carries yet is written, and the reply waits for every write to end (R81, R105, R169, R194). -/
def State.takeRestart (s : State) : State :=
  let s := (s.restartFinalize.drainTest s).retainDeliveries.mapHlp fun h =>
    { h.heard s.now with hand := some .restarting }
  s.commit.restartReply

/-- RESTART (R194). -/
def execRestart (s : State) : Host.Outcome State Fault Refusal :=
  if s.takes .restart then .next s.takeRestart else .next s

/-! ## The line -/

/-- The reason for which the HLP refuses a frame's request, if it does (R184). -/
def refusalOf (f : Frame) : Option Reason :=
  match requestOf f with
  | .ok _ => none
  | .error .unknownKind => some .unknownKind
  | .error .badLength => some .badLength

/-- The frame is the request in hand, or none is in hand and the command brings it (assumption 3). -/
def State.takesFrame (s : State) (f : Frame) : Bool :=
  s.powered && match s.hlp.hand with
    | none => true
    | some (.taken g) => decide (g = f)
    | some _ => false

/-- REQUEST_REFUSED (R184). -/
def execRequestRefused (kind : Byte) (payload : List Byte) (s : State) : Host.Outcome State Fault Refusal :=
  match refusalOf ⟨kind, payload⟩ with
  | some r =>
    if s.takesFrame ⟨kind, payload⟩ then .next (s.answered kind.toNat (refuse r)) else .next s
  | none => .next s

/-- HOST_FRAME_RECEIVED (R182, R183). -/
def execHostFrameReceived (bytes : List Byte) (s : State) : Host.Outcome State Fault Refusal :=
  if s.powered then .next (s.mapHlp fun h => h.bytes s.now bytes) else .next s

/-- FRAME_DISCARDED (R182). -/
def execFrameDiscarded (bytes : List Byte) (faultyStop : Bool) (s : State) : Host.Outcome State Fault Refusal :=
  if s.powered then
    .next (s.mapHlp fun h =>
      let h := h.bytes s.now bytes
      if faultyStop then h.abandonFrame else h)
  else .next s

/-- FRAME_GAP_TIMEOUT (R182). -/
def execFrameGapTimeout (s : State) : Host.Outcome State Fault Refusal :=
  if s.powered then .next (s.mapHlp (·.abandonFrame)) else .next s

/-- REPLY_SENT (R183, R194). -/
def execReplySent (s : State) : Host.Outcome State Fault Refusal :=
  match s.powered, s.hlp.hand with
  | true, some (.replying kind reply) =>
    if (Hand.replying kind reply).restarts then .next s.warmStart
    else .next (s.mapHlp fun h => { h with hand := none }.takeNext)
  | _, _ => .next s

/-- HOST_SILENCE_EXPIRY, at point A before point B (R75, R191; DESIGN CHOICE, assumption 23). -/
def execHostSilenceExpiry (s : State) : Host.Outcome State Fault Refusal :=
  s.event (s.hlp.silence.due.map fun t =>
    let s := (s.reach t).mapHlp fun h => { h with silence := .expired }
    (s.silencePoint .a).silencePoint .b)

/-! ## Starts and retained writes -/

/-- POWER_ON_START (R100). -/
def execPowerOnStart (cause : PowerOn) (spoiled : Spoiled) (s : State) : Host.Outcome State Fault Refusal :=
  .next (s.powerOn cause spoiled)

/-- SUPPLY_FALL_OR_RESET (R98, R183). -/
def execSupplyFallOrReset (fates : WriteFates) (s : State) : Host.Outcome State Fault Refusal :=
  if s.powered then .next (s.supplyFall fates) else .next s

/-- A write of a region ends: the replies that wait for it are counted down (R97, R194). -/
def State.writeEnds (s : State) (region : RegionName) : State :=
  ((s.endWrite region).mapHlp fun h => { h with hand := h.hand.map (·.writeEnded region) }).restartReply

/-- RETAINED_WRITE_END (R97). -/
def execRetainedWriteEnd (region : RegionName) (s : State) : Host.Outcome State Fault Refusal :=
  if s.powered && s.rtm.writing region then .next (s.writeEnds region) else .next s

end Sys2Proof.Machine
end

