-- ==== Sys2Proof/Machine/Dispatch.lean ====
section
/-! DEFINITION. The effect of every command on everything but the queue: one arm per command, each one call of its meaning. -/

namespace Sys2Proof.Machine

/-- The effect of command `i` on state `s`. -/
def exec (i : Instr) (s : State) : Host.Outcome State Fault Refusal :=
  match i with
  | .loadMeter cal meter fields => Sys2Proof.Machine.execLoadMeter cal meter fields s
  | .meterReset meter => Sys2Proof.Machine.execMeterReset meter s
  | .readMeter meter => Sys2Proof.Machine.execReadMeter meter s
  | .setRounding cal mode => Sys2Proof.Machine.execSetRounding cal mode s
  | .stagePrices base entries => Sys2Proof.Machine.execStagePrices base entries s
  | .applyPrices => Sys2Proof.Machine.execApplyPrices s
  | .readPrices selector number => Sys2Proof.Machine.execReadPrices selector number s
  | .loadHoses entries => Sys2Proof.Machine.execLoadHoses entries s
  | .readHoses => Sys2Proof.Machine.execReadHoses s
  | .loadPointTiming point fields => Sys2Proof.Machine.execLoadPointTiming point fields s
  | .readPointTiming point => Sys2Proof.Machine.execReadPointTiming point s
  | .authorize point fields => Sys2Proof.Machine.execAuthorize point fields s
  | .cancel point => Sys2Proof.Machine.execCancel point s
  | .clear point presence sequence => Sys2Proof.Machine.execClear point presence sequence s
  | .stopAll => Sys2Proof.Machine.execStopAll s
  | .readDelivery point record => Sys2Proof.Machine.execReadDelivery point record s
  | .readPulseOutput point => Sys2Proof.Machine.execReadPulseOutput point s
  | .readTotals => Sys2Proof.Machine.execReadTotals s
  | .loadDisplay fields => Sys2Proof.Machine.execLoadDisplay fields s
  | .displayTest side => Sys2Proof.Machine.execDisplayTest side s
  | .readDisplay side => Sys2Proof.Machine.execReadDisplay side s
  | .readerOn => Sys2Proof.Machine.execReaderOn s
  | .readerOff => Sys2Proof.Machine.execReaderOff s
  | .readerRelease => Sys2Proof.Machine.execReaderRelease s
  | .readerPost tag payload => Sys2Proof.Machine.execReaderPost tag payload s
  | .readerFetch => Sys2Proof.Machine.execReaderFetch s
  | .loadGate fields => Sys2Proof.Machine.execLoadGate fields s
  | .readGate => Sys2Proof.Machine.execReadGate s
  | .loadSense comparator fields => Sys2Proof.Machine.execLoadSense comparator fields s
  | .loadSequence steps => Sys2Proof.Machine.execLoadSequence steps s
  | .readSequence => Sys2Proof.Machine.execReadSequence s
  | .wake => Sys2Proof.Machine.execWake s
  | .sleep => Sys2Proof.Machine.execSleep s
  | .setStartSpacing spacing => Sys2Proof.Machine.execSetStartSpacing spacing s
  | .setClock day second => Sys2Proof.Machine.execSetClock day second s
  | .setSchedule fields => Sys2Proof.Machine.execSetSchedule fields s
  | .readPower => Sys2Proof.Machine.execReadPower s
  | .fetchReports maximum again => Sys2Proof.Machine.execFetchReports maximum again s
  | .setReportModes policy modes => Sys2Proof.Machine.execSetReportModes policy modes s
  | .setHostSilence seconds => Sys2Proof.Machine.execSetHostSilence seconds s
  | .identify => Sys2Proof.Machine.execIdentify s
  | .readStatus => Sys2Proof.Machine.execReadStatus s
  | .restart => Sys2Proof.Machine.execRestart s
  | .requestRefused kind payload => Sys2Proof.Machine.execRequestRefused kind payload s
  | .hostFrameReceived bytes => Sys2Proof.Machine.execHostFrameReceived bytes s
  | .frameDiscarded bytes faultyStop => Sys2Proof.Machine.execFrameDiscarded bytes faultyStop s
  | .frameGapTimeout => Sys2Proof.Machine.execFrameGapTimeout s
  | .replySent => Sys2Proof.Machine.execReplySent s
  | .hostSilenceExpiry => Sys2Proof.Machine.execHostSilenceExpiry s
  | .powerOnStart cause spoiled => Sys2Proof.Machine.execPowerOnStart cause spoiled s
  | .supplyFallOrReset fates => Sys2Proof.Machine.execSupplyFallOrReset fates s
  | .retainedWriteEnd region => Sys2Proof.Machine.execRetainedWriteEnd region s
  | .pulserSample meter phase1 phase2 => Sys2Proof.Machine.execPulserSample meter phase1 phase2 s
  | .phaseWindowEnd meter => Sys2Proof.Machine.execPhaseWindowEnd meter s
  | .valveSenseChange meter valve isOpen => Sys2Proof.Machine.execValveSenseChange meter valve isOpen s
  | .valveMismatchTimeout meter => Sys2Proof.Machine.execValveMismatchTimeout meter s
  | .nozzleLift point position together => Sys2Proof.Machine.execNozzleLift point position together s
  | .nozzleHang point position => Sys2Proof.Machine.execNozzleHang point position s
  | .startSpacingElapsed => Sys2Proof.Machine.execStartSpacingElapsed s
  | .runUpElapsed meter => Sys2Proof.Machine.execRunUpElapsed meter s
  | .noFlowExpiry point => Sys2Proof.Machine.execNoFlowExpiry point s
  | .quietExpiry point => Sys2Proof.Machine.execQuietExpiry point s
  | .runOnExpiry meter => Sys2Proof.Machine.execRunOnExpiry meter s
  | .authorizationTimeout point => Sys2Proof.Machine.execAuthorizationTimeout point s
  | .emergencyStopAssert => Sys2Proof.Machine.execEmergencyStopAssert s
  | .emergencyStopRelease => Sys2Proof.Machine.execEmergencyStopRelease s
  | .pulseHighEnd point => Sys2Proof.Machine.execPulseHighEnd point s
  | .pulseLowEnd point => Sys2Proof.Machine.execPulseLowEnd point s
  | .refreshInstant side sense => Sys2Proof.Machine.execRefreshInstant side sense s
  | .displayHoldExpiry side => Sys2Proof.Machine.execDisplayHoldExpiry side s
  | .pollInstant => Sys2Proof.Machine.execPollInstant s
  | .readerReplyReceived bytes => Sys2Proof.Machine.execReaderReplyReceived bytes s
  | .readerReplyMiss => Sys2Proof.Machine.execReaderReplyMiss s
  | .readerReplyGap => Sys2Proof.Machine.execReaderReplyGap s
  | .errorWindowEnd => Sys2Proof.Machine.execErrorWindowEnd s
  | .attemptTimeout => Sys2Proof.Machine.execAttemptTimeout s
  | .offIntervalEnd => Sys2Proof.Machine.execOffIntervalEnd s
  | .bootTimeElapsed => Sys2Proof.Machine.execBootTimeElapsed s
  | .tamperAssert => Sys2Proof.Machine.execTamperAssert s
  | .tamperRelease => Sys2Proof.Machine.execTamperRelease s
  | .senseInputChange comparator millivolts => Sys2Proof.Machine.execSenseInputChange comparator millivolts s
  | .sensePersistenceExpiry comparator => Sys2Proof.Machine.execSensePersistenceExpiry comparator s
  | .cardPresentAssert => Sys2Proof.Machine.execCardPresentAssert s
  | .settleTimeElapsed => Sys2Proof.Machine.execSettleTimeElapsed s
  | .checkTimeout => Sys2Proof.Machine.execCheckTimeout s
  | .retryWaitEnd => Sys2Proof.Machine.execRetryWaitEnd s
  | .shutdownRunTick => Sys2Proof.Machine.execShutdownRunTick s
  | .dayClockSecond => Sys2Proof.Machine.execDayClockSecond s

end Sys2Proof.Machine
end

