-- ==== Sys2Proof/Safety.lean ====
section
/-! DEFINITION. The terms that claims use: replies, quiet states, what a request that changes retained settings leaves,
and the invariants of the part. -/

namespace Sys2Proof.Machine

/-! ## Replies -/

/-- The state with a reply being sent and nothing else changed but the silence timer, which a request taken with none in
hand restarts (R184, R191; assumption 3). -/
def State.replies (s : State) (kind : Nat) (reply : List Byte) : State :=
  { s with hlp := { s.hlp.heard s.now with hand := some (.replying kind reply) } }

/-- The request kind and the payload of the reply that a request in hand has been given. -/
def Hand.answer : Hand → Option (Nat × List Byte)
  | .taken _ => none
  | .waiting kind reply _ _ => some (kind, reply)
  | .restarting => none
  | .replying kind reply => some (kind, reply)

/-- The reply that a state has in hand. -/
def State.answer? (s : State) : Option (Nat × List Byte) := s.hlp.hand.bind Hand.answer

/-- The state after an accepted request that changed the content of CONFIG and nothing of DELIVERIES: a write of CONFIG
begins with the content as it stands, or is held behind the one in flight, and the OK reply waits for the end of the
first write that begins after the change (R97). -/
def State.configChanged (s : State) (kind : Nat) (reply : List Byte) : State :=
  let busy := s.rtm.config.inFlight.isSome
  { s with
    hlp := { s.hlp.heard s.now with hand := some (.waiting kind reply (if busy then 2 else 1) 0) }
    rtm := { s.rtm with config :=
      if busy then { s.rtm.config with held := true }
      else { s.rtm.config with inFlight := some s.configImage, held := false } } }

/-- The state in which an event has changed the content of DELIVERIES and the change has been handed to the RTM: a write
begins when none is in flight and no TOTALS write of a finalization is owed or in flight, and is held otherwise (R97). -/
def State.deliveriesChanged (s : State) : State :=
  if s.rtm.deliveries.inFlight = none ∧ s.rtm.totals.inFlight = none ∧ s.rtm.owed = [] then
    { s with rtm := { s.rtm with
        deliveries := { s.rtm.deliveries with inFlight := some s.deliveriesImage, held := false }
        carried := s.rtm.carried ++ s.rtm.unwritten, unwritten := [] } }
  else { s with rtm := { s.rtm with deliveries := { s.rtm.deliveries with held := true } } }

/-- Reports posted by the next event stay in the queue: few wait, and a full queue keeps the oldest (R186). -/
def Hlp.hasRoom (h : Hlp) : Bool := decide (h.reports.length ≤ 8) && decide (h.policy = .keepOldest)

/-! ## Quiet states -/

/-- No READER_OPEN check stands whose gate notice has come (R161). -/
def State.noStepDue (s : State) : Bool :=
  !(s.psc.checking .readerOpen && (decide (s.crg.st = .opened) || decide (s.crg.st = .quarantine)))

/-- The state as every event leaves it: no change of retained content is still to be handed to the RTM (R97), and no
gate notice is still to be taken by a step (R161). -/
def State.quiet (s : State) : Bool := !s.rtm.dirtyConfig && !s.rtm.dirtyDeliveries && s.noStepDue

/-- A running part between two events. -/
def State.runs (s : State) : Bool := s.powered && s.quiet

/-! ## Invariants -/

/-- The bounds of the Host Link Port: at most 32 reports, a lost counter of at most 255, at most 2 frames in the buffer,
and error counters that fit (R182, R183, R186). -/
def Hlp.bounded (h : Hlp) : Bool :=
  decide (h.reports.length ≤ 32) && decide (h.lost ≤ 255) && decide (h.buffer.length ≤ 2)
    && decide (h.frameErrors ≤ 65535) && decide (h.overruns ≤ 65535)

/-- A part that runs takes the oldest frame at once: none waits in the buffer while no request is in hand (R183). -/
def Hlp.prompt (h : Hlp) : Bool := h.hand.isSome || h.buffer.isEmpty

/-- The gate has a session exactly while it is OPEN, holds outbound entries only then, and holds no inbound entry in
QUARANTINE; it holds a quarantine cause exactly in QUARANTINE, times an off interval and the boot time in POWERING
alone, and holds no echo run and no misses in OFF and QUARANTINE (R132, R133, R134, R141, R146, R148). -/
def Crg.lawful (c : Crg) : Bool :=
  (decide (c.st = .opened) == c.session.isSome) && (decide (c.st = .opened) || c.outbound.isEmpty)
    && (decide (c.st = .quarantine) == c.cause.isSome) && (decide (c.st ≠ .quarantine) || c.inbound.isEmpty)
    && decide (c.outbound.length ≤ 4) && (decide (c.st = .powering) || (c.bootDue.isNone && c.offDue.isNone))
    && (decide (c.st ≠ .off) && decide (c.st ≠ .quarantine) || (c.run.isNone && decide (c.miss = 0)))

/-- A point in a free state holds no authorization, and one in AUTHORIZED or STARTING holds one bound to a session only
while that session is the gate's current session (4.4, R76). -/
def PointData.bindingLawful (d : PointData) (session : Option Nat) : Bool :=
  match d.auth with
  | none => true
  | some a =>
    match d.st with
    | .closed => false
    | .idle => false
    | .calling => false
    | .authorized => a.session.isNone || decide (a.session = session)
    | .starting => a.session.isNone || decide (a.session = session)
    | .fuelling => true
    | .slowing => true
    | .stopping => true
    | .finished => true

/-- Both points' authorizations obey the law of R76. -/
def State.bindingsLawful (s : State) : Bool :=
  (s.point .a).bindingLawful s.crg.session && (s.point .b).bindingLawful s.crg.session

/-- The sum of some totals, modulo the modulus of the volume totals. -/
def sumTotals (l : List Nat) : Nat := l.sum % totalModulus

/-- The sum of the grade volume totals is the sum of the meter volume totals modulo 10^12, and every totalizer lies
below its modulus (R93). -/
def Totals.lawful (t : Totals) : Bool :=
  decide (sumTotals t.gradeVolume.toList = sumTotals t.meterVolume.toList)
    && t.meterVolume.toList.all (fun n => decide (n < totalModulus))
    && t.meterCount.toList.all (fun n => decide (n < countModulus))
    && t.gradeVolume.toList.all (fun n => decide (n < totalModulus))
    && t.gradeAmount.toList.all (fun n => decide (n < totalModulus))

/-- The totals of a region's two copies and of its write in flight all obey the law of R93. -/
def Rtm.totalsLawful (r : Rtm) : Bool :=
  r.totals.copy1.content.lawful && r.totals.copy2.content.lawful && r.totals.inFlight.all Totals.lawful

/-- The published set is the newest generation and those the points refer to, with no number twice (R33, R39). -/
def State.pricesLawful (s : State) : Bool :=
  decide (s.ptu.published.map (·.number)).Nodup && s.ptu.holds s.ptu.newest && s.ptu.holds (s.point .a).generation
    && s.ptu.holds (s.point .b).generation && s.ptu.published.all (fun g => s.keeps g.number)

/-- The meters that a table of holders or of waiters names a point for. -/
def metersNaming (t : Quad (Option Point)) (p : Point) : List Meter := Meter.all.filter fun m => decide (t.get m = some p)

/-- The meter hold arbiter at a point: from STARTING to STOPPING the point holds or awaits exactly one meter, that of its
current record, and in any other state none; it waits in STARTING alone, and for a meter that the other point holds
(R58). Its timers run in their own states: the authorization timer in AUTHORIZED, the no-flow timer in FUELLING and
SLOWING, the quiet timer in STOPPING (R67, R69, R74). -/
def State.holdLawful (s : State) (p : Point) : Bool :=
  let d := s.point p
  let held := metersNaming s.dle.holders p
  let awaited := metersNaming s.dle.waiters p
  decide (held.length + awaited.length = if d.st.delivering then 1 else 0)
    && (awaited.isEmpty || decide (d.st = .starting))
    && awaited.all (fun m => decide (s.dle.holders.get m = some p.other))
    && (held ++ awaited).all (fun m => d.current.any fun r => decide (r.meter = m))
    && (d.authDue.isNone || decide (d.st = .authorized)) && (d.noFlowDue.isNone || d.st.flowing)
    && (d.quietDue.isNone || decide (d.st = .stopping))

/-- Both points obey the law of the meter hold arbiter. -/
def State.holdsLawful (s : State) : Bool := s.holdLawful .a && s.holdLawful .b

/-- A compare of a held meter that has not fired stands beyond the net count (R8, R9). -/
def Armed.ahead (k : Armed) (net : Int) : Bool := k.fired || decide (k.point = 0) || decide (net < (k.point : Int))

/-- The valves of a meter: one is commanded open only while a point in FUELLING or SLOWING holds the meter and its STOP
compare has not fired, and MAIN only in FUELLING and before the SLOW compare has fired; a compare that has not fired
stands beyond the net count, so that the count of an open valve is below the stop count its compare was armed with, and
that of an open MAIN below the slow-down count (R63). -/
def State.valveLawful (s : State) (m : Meter) : Bool :=
  let c := s.channel m
  decide (c.holder = s.dle.holders.get m) &&
    match c.holder with
    | none => !c.mainOpen && !c.slowOpen
    | some p =>
      let st := (s.point p).st
      (!(c.mainOpen || c.slowOpen) || st.flowing) && (!c.mainOpen || decide (st = .fuelling))
        && c.slow.all (·.ahead c.net) && c.stop.all (·.ahead c.net)
        && (!(decide (st = .starting) || st.flowing) || !hasFired c.stop) && (!c.mainOpen || !hasFired c.slow)

/-- The valves of every meter obey the law of R63, and outside RUN and DRAINING no point is in a state that could open
one: each is CLOSED, runs out in STOPPING, or is FINISHED (4.4, R80). -/
def State.valvesLawful (s : State) : Bool :=
  Meter.all.all s.valveLawful
    && (s.pointsOpen || Point.all.all fun p => (s.point p).st ∈ [.closed, .stopping, .finished])

/-! ## Sales -/

/-- A waiter is back in AUTHORIZED: with its authorization and a timer that starts again, its begun record discarded and its
sequence number given back, and it waits no more (R59, R64). -/
def State.waiterReturned (s t : State) (p : Point) : Prop :=
  let d := s.point p
  t.point p = { d with
    st := .authorized, position := none, current := none, saleTable := none, figuresAt := none
    lastSeq := (d.lastSeq + 65535) % 65536
    authDue := if d.authTimeout = 0 then none else some (t.now + 1000 * d.authTimeout) }
  ∧ ∀ m : Meter, t.dle.waiters.get m ≠ some p

/-- The motor of a meter whose new holder demands it: from RUN_ON it is RUNNING with its run-on timer stopped and its
on-time running on; from OFF it is granted at once where the start queue is empty and the spacing has passed, waits at the
tail of the queue while the spacing has not passed, and behind the head that the test of the queue grants where it has; in
the other two states it stands (R61, R62, R176). -/
def State.motorDemanded (s t : State) (m : Meter) : Prop :=
  let queue := s.psc.startQueue
  let due := s.psc.lastGrant + s.psc.spacing
  match (s.motor m).st with
  | .runOn => t.motor m = { s.motor m with st := .running, runOnDue := none } ∧ t.psc.startQueue = queue
  | .running => t.motor m = s.motor m ∧ t.psc.startQueue = queue
  | .awaitingGrant => t.motor m = s.motor m ∧ t.psc.startQueue = queue
  | .off =>
    (queue = [] → due ≤ t.now → t.motor m = ⟨.running, t.now, none⟩ ∧ t.psc.startQueue = [] ∧ t.psc.lastGrant = t.now)
    ∧ (t.now < due → (t.motor m).st = .awaitingGrant ∧ t.psc.startQueue = queue ++ [m])
    ∧ ∀ h rest, queue = h :: rest → h ≠ m → due ≤ t.now → 1 ≤ s.psc.spacing →
        (t.motor m).st = .awaitingGrant ∧ t.psc.startQueue = rest ++ [m] ∧ (t.motor h).st = .running

/-- What the end of a reader session does at the points whose authorization is bound to it: one in AUTHORIZED, and one in
STARTING that waits for its meter, is free without an authorization, the waiter's begun record discarded, and its end is
reported READER_LOST; one that holds its meter in STARTING stops with that cause; a delivery with its valves open goes
on (R64, R76). -/
def State.sessionEnded (s t : State) (session : Nat) : Prop :=
  ∀ p : Point, (s.point p).boundTo session = true →
    let ended : Prop := (t.point p).st.free = true ∧ (t.point p).auth = none
      ∧ (s.hlp.hasRoom = true → ⟨.point p, s.psc.clock, .authEnded .readerLost⟩ ∈ t.hlp.reports)
    ((s.point p).st = .authorized → ended)
    ∧ ((s.point p).st = .starting → s.heldBy p = none → ended ∧ (t.point p).current = none
      ∧ (t.point p).lastSeq = ((s.point p).lastSeq + 65535) % 65536 ∧ ∀ m : Meter, t.dle.waiters.get m ≠ some p)
    ∧ (∀ (m : Meter) (r : DeliveryRecord), (s.point p).st = .starting → s.heldBy p = some m →
      (s.point p).current = some r → (t.point p).st = .stopping
      ∧ (t.point p).current = some { r with cause := some .readerLost }
      ∧ (t.point p).quietDue = some (t.now + r.quiet) ∧ (t.channel m).mainOpen = false ∧ (t.channel m).slowOpen = false)
    ∧ ((s.point p).st.flowing = true → (t.point p).st = (s.point p).st)

/-! ## Steps of the sequence -/

/-- A step that is waiting once it has begun: it has a settle time, or, with none, its check is a condition that is false
and is given time (R160). -/
def State.stepWaits (t : State) (st : PowerStep) : Bool :=
  decide (1 ≤ st.settle) || (decide (1 ≤ st.timeout) && match st.check with
    | .condition c => !t.good c
    | .none => false
    | .readerOpen => false
    | .displayTest _ => false)

/-- A step fails with ABORT, its own or that of a RETRY whose retries are used up, or with a RETRY that is left. ABORT
halts the part: every drive off, no step in hand. RETRY puts the step in RETRY_WAIT with the next retry counted, and turns
off the load of an ON step, and no other drive moves. Either is kept as the last failure, and reported (R162). -/
def State.stepStops (s t : State) (n : Nat) (st : PowerStep) (before : Load → Bool) (reason : StepReason)
    (ddu retries : Nat) : Prop :=
  let failure (a : StepAction) : StepFailure := ⟨n, st.load, st.check, reason, ddu, a, 1 + retries⟩
  let told (a : StepAction) : Prop := t.psc.lastFailure = some (failure a)
    ∧ (s.hlp.hasRoom = true → ⟨.none, t.psc.clock, .stepFailed (failure a)⟩ ∈ t.hlp.reports)
  (st.onFail = .abort ∨ st.onFail = .retry retries →
    t.psc.power = .halted ∧ t.psc.cursor = none ∧ t.psc.retries = 0 ∧ t.psc.drives = noDrives ∧ told .abort)
  ∧ (∀ k, st.onFail = .retry k → retries < k → 1 ≤ st.settle →
    t.psc.power = .waking ∧ t.psc.cursor = some ⟨n, .retryWait, t.now⟩ ∧ t.psc.retries = retries + 1 ∧ told .retry
    ∧ ∀ l : Load, t.drive l = if st.turnOn = true ∧ st.load = some l then false else before l)

/-- A step begins: it is in SETTLE from now on, or in CHECK where it has no settle time, the drive of its load is as its
action commands and every other drive as it was before. A step that turns READER on and finds the gate in QUARANTINE fails
at once with reason QUARANTINED (R160, R161). -/
def State.stepBegins (s t : State) (n : Nat) (st : PowerStep) (before : Load → Bool) (retries : Nat)
    (last : Option StepFailure) : Prop :=
  let barred : Bool := st.turnOn && decide (st.load = some .reader) && decide (t.crg.st = .quarantine)
  (barred = false → t.stepWaits st = true →
    t.psc.power = .waking ∧ t.psc.cursor = some ⟨n, if 1 ≤ st.settle then .settle else .check, t.now⟩
    ∧ t.psc.retries = retries ∧ t.psc.lastFailure = last
    ∧ ∀ l : Load, t.drive l = if st.load = some l then st.turnOn else before l)
  ∧ (barred = true → s.stepStops t n st before .quarantined 0 retries)

/-- The sequence goes on from the end of step `n`, 0 for its beginning: the next step begins with its retry count at 0,
and after the last step the sequence is done: RUN, no step in hand, each heater driven by its demand and every other
drive as it was before, and the closed points open (R160, R163). -/
def State.goesOn (s t : State) (n : Nat) (before : Load → Bool) (last : Option StepFailure) : Prop :=
  match s.psc.steps[n]? with
  | some st => s.stepBegins t (n + 1) st before 0 last
  | none => t.psc.power = .run ∧ t.psc.cursor = none ∧ t.psc.retries = 0 ∧ t.psc.lastFailure = last
      ∧ (∀ l : Load, t.drive l = match l with
          | .heaterA => t.heaterDemand .a
          | .heaterB => t.heaterDemand .b
          | l => before l)
      ∧ ∀ p : Point, (s.point p).st = .closed → (t.point p).st = .idle ∨ (t.point p).st = .calling

/-- The step in hand fails with a reason and is dealt with by its failure action: ABORT and RETRY stop it, and CONTINUE is
kept as the last failure and goes on as if the step had passed (R162). -/
def State.stepFails (s t : State) (n : Nat) (st : PowerStep) (reason : StepReason) (ddu : Nat) : Prop :=
  s.stepStops t n st s.drive reason ddu s.psc.retries
  ∧ (st.onFail = .proceed → s.goesOn t n s.drive
      (some ⟨n, st.load, st.check, reason, ddu, .proceed, 1 + s.psc.retries⟩))

/-- The part has entered WAKING and begun its sequence: the intended state is RUN, no wake waits, the shutdown run has
stopped, and step 1 has begun from drives that take the outputs of their loads (R158, R166). -/
def State.wakes (s t : State) (outputs : Load → Bool) : Prop :=
  t.psc.intended = .run ∧ t.psc.wakePending = none ∧ t.psc.shutdown = []
  ∧ (t.psc.power = .waking ∨ t.psc.power = .run ∨ t.psc.power = .halted) ∧ s.goesOn t 0 outputs none

/-! ## Starts -/

/-- What an abandoned write leaves of a region by its fate: no write in flight and no change held; both copies as they
were where the copy being written was untouched, or where no write was in flight; the content in flight in the current
copy where it was completed; and an unsound copy beside the current one, which stays as it was, where it was torn
(R98). -/
def Region.abandonedTo {α : Type} (r t : Region α) (fate : WriteFate) : Prop :=
  t.inFlight = none ∧ t.held = false
  ∧ (r.inFlight = none ∨ fate = .untouched → t.copy1 = r.copy1 ∧ t.copy2 = r.copy2 ∧ t.current = r.current)
  ∧ ∀ content, r.inFlight = some content →
    (fate = .completed → t.current.content = content ∧ t.current.sound = true
        ∧ t.current.count = r.current.count + 1)
    ∧ ∀ count check, fate = .torn count check → t.current = r.current
        ∧ (if r.second then t.copy1.sound = false else t.copy2.sound = false)

/-- The state that a start with a cause leaves of every block, whatever the retained memory held: the START report with
the validities first in the queue, the host link at rest, the PSC in NIGHT with every drive off, the points CLOSED or
FINISHED, the meters and the pulse outputs at rest, the gate off unless the tamper line is asserted, and two sound copies
of each region, with nothing in flight or held but the writes of the sales that the start finished (R17, R83, R92, R104,
R105, R127, R153, R181, R195, R196). -/
def State.startedAs (t : State) (cause : StartCause) : Prop :=
  t.powered = true ∧ t.quiet = true ∧ t.rtm.config.inFlight = none ∧ t.rtm.config.held = false
  ∧ (t.rtm.totals.inFlight = none → t.rtm.deliveries.inFlight = none → t.rtm.idle = true)
  ∧ (∃ r ∈ t.hlp.reports.head?, r = ⟨.none, ⟨0, 0⟩,
      .start cause t.rtm.configValidity t.rtm.totalsValidity t.rtm.deliveriesValidity⟩)
  ∧ t.hlp.startCause = cause ∧ t.hlp.hand = none ∧ t.hlp.buffer = [] ∧ t.hlp.rx = .hunt ∧ t.hlp.lost = 0
  ∧ t.psc.power = .night ∧ t.psc.drives = noDrives ∧ t.psc.cursor = none ∧ t.psc.startQueue = []
  ∧ t.psc.clock = ⟨0, 0⟩ ∧ t.psc.clockSet = false ∧ (∀ c : Comparator, t.good c = false)
  ∧ (∀ m : Meter, (t.channel m).counter = 0 ∧ (t.channel m).holder = none ∧ (t.channel m).mainOpen = false
      ∧ (t.channel m).slowOpen = false ∧ (t.motor m).st = .off ∧ t.dle.holders.get m = none
      ∧ t.dle.waiters.get m = none)
  ∧ (∀ p : Point, ((t.point p).st = .closed ∨ (t.point p).st = .finished) ∧ (t.point p).auth = none
      ∧ (t.pou.get p).queue = [] ∧ (t.pou.get p).phase = .ready ∧ (t.side p).sideFault = false
      ∧ (t.side p).hold = .none ∧ (t.side p).test = none)
  ∧ t.crg.st = (if t.pins.tamper then .quarantine else .off) ∧ t.crg.session = none ∧ t.crg.counter = 0
  ∧ t.rtm.config.copy1.sound = true ∧ t.rtm.config.copy2.sound = true
  ∧ t.rtm.totals.copy1.sound = true ∧ t.rtm.totals.copy2.sound = true
  ∧ t.rtm.deliveries.copy1.sound = true ∧ t.rtm.deliveries.copy2.sound = true

end Sys2Proof.Machine
end

