-- ==== Sys2Proof/Certificates/Slice0/Obligations.lean ====
section
/-! DEFINITION. The statements about the model, for the provers. Each formalises what the manual's rules say of a command,
of a figure or of the whole part. -/

open Sys2Proof Sys2Proof.Machine

/-! ## The step, reset and the receiver -/

/-- The command at the front of the queue is run on the state with the queue's rest, and with no command waiting a
millisecond passes (the idle tick is the model's own choice, assumption 1). -/
def Obligations.StepRunsFront : Prop :=
  (∀ (c : Instr) (rest : List Instr) (s : State), step { s with pending := c :: rest } = exec c { s with pending := rest })
    ∧ ∀ s : State, s.pending = [] → step s = .next { s with now := s.now + 1 }

/-- What reset leaves in each block, for the values the manual gives (R17, R83, R92, R127, R153, R181, R196; every
region DEFAULTED by assumption 10), and that every invariant stated below holds there. -/
def Obligations.ResetLeaves : Prop :=
  (∀ m : Meter, let c := State.reset.channel m
    c.counter = 0 ∧ c.windowCount = 0 ∧ c.lastWindow = 0 ∧ c.errorTotal = 0 ∧ c.creepCount = 0 ∧ c.reverse = 0
      ∧ c.fault = false ∧ c.creep = false ∧ c.valveFault = false ∧ c.holder = none ∧ c.snapshot = 0
      ∧ c.slow = none ∧ c.stop = none ∧ c.mainOpen = false ∧ c.slowOpen = false ∧ c.mismatchSince = none
      ∧ c.reference = none ∧ State.reset.decoding m = false)
  ∧ (∀ p : Point, (State.reset.point p).st = .closed ∧ (State.reset.point p).auth = none
      ∧ (State.reset.pou.get p).queue = [] ∧ (State.reset.pou.get p).phase = .ready
      ∧ (State.reset.side p).sideFault = false ∧ State.reset.refreshing p = false ∧ State.reset.heaterDemand p = true)
  ∧ State.reset.crg.st = .off ∧ State.reset.crg.session = none ∧ State.reset.crg.counter = 0
  ∧ State.reset.psc.power = .night ∧ (∀ c : Comparator, State.reset.good c = false)
  ∧ (∀ l : Load, State.reset.output l = false) ∧ State.reset.psc.clock = ⟨0, 0⟩ ∧ State.reset.psc.clockSet = false
  ∧ State.reset.hlp.rx = .hunt ∧ State.reset.hlp.buffer = [] ∧ State.reset.hlp.lost = 0
  ∧ State.reset.hlp.reports.length = 1 ∧ State.reset.hlp.attn = true
  ∧ State.reset.runs = true ∧ State.reset.pricesLawful = true ∧ State.reset.rtm.totalsLawful = true
  ∧ State.reset.crg.lawful = true ∧ State.reset.holdsLawful = true ∧ State.reset.bindingsLawful = true
  ∧ State.reset.valvesLawful = true
  ∧ State.reset.hlp.bounded = true ∧ State.reset.hlp.prompt = true

/-- A frame on the line is taken whole: in HUNT, the bytes of a frame of 1 to 240 counted bytes end in HUNT again with
that frame good, and it joins the request in hand or the buffer or is counted as overrun (R182, R183). -/
def Obligations.ReceiverReadsFrame : Prop :=
  ∀ (h : Hlp) (now : Nat) (f : Frame), h.rx = .hunt → f.payload.length ≤ 239 →
    Hlp.bytes now h f.bytes = h.goodFrame now f

/-- Every well-formed request is read back from the frame that carries it, so that no bit of a field is dropped, and
the frame fits the line: at most 239 payload bytes, a kind below 80h. The calibration switch is an input and no field,
so the request read stands with the switch off (R182, R184, R197, R198). -/
def Obligations.FramesRoundTrip : Prop :=
  (∀ (i : Instr) (f : Frame), i.wf = true → i.frame? = some f → requestOf f = .ok i.framed)
  ∧ (∀ (i : Instr) (f : Frame), i.wf = true → i.frame? = some f → f.payload.length ≤ 239 ∧ f.kind.toNat < 0x80)

/-! ## Meters (chapter 1) -/

/-- LOAD_METER with the calibration switch on, fields in range and no delivery naming the meter replaces the record and
nothing else of the channel but the reference of a suspended channel and the mismatch timer; every other piece of state
stands, the write of CONFIG and the waiting OK reply apart. It is refused NOT_PERMITTED with the switch off, and
WRONG_STATE while a delivery names the meter; a refusal changes nothing but the sampled switch (R2, R12, R14, R97). -/
def Obligations.LoadMeterJudged : Prop :=
  (∀ (s : State) (n : Nat) (f : MeterFields) (m : Meter) (present : Bool), s.runs = true →
     s.takes (.loadMeter true n f) = true → Meter.ofNumber n = some m → f.present = (if present then 1 else 0) →
     2000 ≤ f.q ∧ f.q ≤ 60000 ∧ f.reverseLimit ≤ 65535 ∧ 1 ≤ f.creepThreshold ∧ f.creepThreshold ≤ 65535 ∧
       1 ≤ f.phaseThreshold ∧ f.phaseThreshold ≤ 255 ∧ f.runUp ≤ 5000 ∧ f.runOn ≤ 60 →
     (∀ p : Point, (s.point p).st.delivering = true → ∀ r, (s.point p).current = some r → r.meter ≠ m) →
     let c := s.channel m
     let differs := s.pins.mainSense.get m ≠ c.mainOpen ∨ s.pins.slowSense.get m ≠ c.slowOpen
     exec (.loadMeter true n f) s = .next (State.configChanged
       { s with
         pins := { s.pins with calibration := true }
         miu := s.miu.set m { c with
           record := { present := present, q := f.q, reverseLimit := f.reverseLimit
                       creepThreshold := f.creepThreshold, phaseThreshold := f.phaseThreshold, runUp := f.runUp
                       runOn := f.runOn }
           reference := if present = true then c.reference else none
           mismatchSince := if present = true ∧ s.good .valveSupply = true ∧ differs then some (c.mismatchSince.getD s.now)
             else none } } 1 [0]))
  ∧ ((∀ (s : State) (n : Nat) (f : MeterFields), s.runs = true → s.takes (.loadMeter false n f) = true →
     exec (.loadMeter false n f) s =
       .next (State.replies { s with pins := { s.pins with calibration := false } } 1 [3, 5]))
   ∧ (∀ (s : State) (n : Nat) (f : MeterFields) (m : Meter) (p : Point) (r : DeliveryRecord), s.runs = true →
     s.takes (.loadMeter true n f) = true → Meter.ofNumber n = some m → (meterRecordOf f).isSome = true →
     (s.point p).st.delivering = true → (s.point p).current = some r → r.meter = m →
     exec (.loadMeter true n f) s =
       .next (State.replies { s with pins := { s.pins with calibration := true } } 1 [3, 4])))

/-- METER_RESET of the meters named clears their three latches, the creep count and both window counts and touches
nothing else of any channel but the mismatch timer, and no point; it is answered OK at once (R15). -/
def Obligations.MeterResetClears : Prop :=
  ∀ (s : State) (n : Nat), s.runs = true → s.takes (.meterReset n) = true → n ≤ 4 →
    ∃ t, exec (.meterReset n) s = .next t ∧ t.answer? = some (2, [0]) ∧ { t with hlp := s.hlp, miu := s.miu } = s
      ∧ ∀ m : Meter,
        if n = 0 ∨ n = m.number then
          ∃ since, t.channel m = { s.channel m with
            fault := false, creep := false, valveFault := false, creepCount := 0, windowCount := 0, lastWindow := 0
            mismatchSince := since } ∧ (since = none ∨ since = some s.now)
        else t.channel m = s.channel m

/-- READ_METER changes nothing but the request in hand, and its reply carries the items of R16 in that order; a meter
outside 1 to 4 is refused BAD_FIELD (R16; the form of a compare is the model's, assumption 15). -/
def Obligations.ReadMeterAnswers : Prop :=
  ∀ (s : State) (n : Nat), s.takes (.readMeter n) = true →
   (n = 0 ∨ 4 < n → exec (.readMeter n) s = .next (s.replies 3 [3, 3]))
   ∧ ∀ m : Meter, n = m.number →
    let c := s.channel m
    exec (.readMeter n) s = .next (s.replies 3 (u8 0 ++ c.record.bytes ++ flagBytes (s.decoding m) ++ u32 c.counter.toNat
      ++ u8 (match c.holder with | none => 0 | some p => p.number) ++ u32 c.snapshot.toNat
      ++ u32 (match c.holder with | none => 0 | some _ => (c.counter - c.snapshot).toNat) ++ u16 c.reverse
      ++ compareBytes c.slow ++ compareBytes c.stop ++ u16 c.windowCount ++ u16 c.lastWindow ++ u16 c.errorTotal
      ++ u16 c.creepCount ++ flagBytes c.fault ++ flagBytes c.creep ++ flagBytes c.valveFault
      ++ flagBytes c.mainOpen ++ flagBytes (s.pins.mainSense.get m) ++ flagBytes c.slowOpen
      ++ flagBytes (s.pins.slowSense.get m)))

/-- A sample of a suspended channel, or one equal to the reference, has no effect, and the first sample of a decoding
channel becomes the reference and nothing else. A sample that differs from it on an unheld meter: a forward step adds 1
to the counter and to the creep count, which sets the creep latch at its threshold; a backward step takes 1 from the
counter; a phase error adds 1 to the window count and to the total. No other channel and no point moves (R1, R2, R5). -/
def Obligations.SampleOfUnheldMeter : Prop :=
  (∀ (s : State) (m : Meter) (x y : Bool), s.runs = true →
     (s.decoding m = false ∨ (s.channel m).reference = some (x, y) → exec (.pulserSample m x y) s = .next s)
     ∧ (s.decoding m = true → (s.channel m).reference = none →
       exec (.pulserSample m x y) s = .next { s with miu := s.miu.set m { s.channel m with reference := some (x, y) } }))
  ∧ (∀ (s : State) (m : Meter) (r x : Bool × Bool), s.runs = true → s.decoding m = true →
     (s.channel m).reference = some r → (s.channel m).holder = none → x ≠ r →
     let c := s.channel m
     let count := min 65535 (c.creepCount + 1)
     ∃ t, exec (.pulserSample m x.1 x.2) s = .next t ∧ { t with hlp := s.hlp, miu := s.miu } = s
       ∧ (∀ j : Meter, j ≠ m → t.channel j = s.channel j)
       ∧ t.channel m =
         (if (r.1, r.2, x.1, x.2) ∈ [(false, false, true, false), (true, false, true, true), (true, true, false, true),
             (false, true, false, false)] then
           { c with reference := some x, counter := c.counter + 1, creepCount := count
                    creep := c.creep || decide (c.record.creepThreshold ≤ count) }
         else if (r.1, r.2, x.1, x.2) ∈ [(false, false, false, true), (true, false, false, false),
             (true, true, true, false), (false, true, true, true)] then
           { c with reference := some x, counter := c.counter - 1 }
         else { c with reference := some x, windowCount := min 65535 (c.windowCount + 1)
                       errorTotal := min 65535 (c.errorTotal + 1) }))

/-- A step of a held meter moves its counter by one, a backward one raises the reverse count, neither touches the
snapshot, the creep count, the holder or the windows; compares fire on forward steps alone, at net counts at or beyond
their points, and a fired compare stays fired. The holder takes the events: a STOP compare stops it from STARTING,
FUELLING or SLOWING with the cause of its target's source and both valves closed; a SLOW compare alone closes MAIN and
takes it from FUELLING to SLOWING; the reverse count's first passing of the limit stops a flowing delivery with
REVERSE_FLOW; a point in STARTING is moved by neither of the last two. A forward step that does not stop a flowing
delivery restarts its no-flow timer, every step in STOPPING restarts the quiet timer and changes no cause, and where no
event stops or slows the delivery its state and its valves stand (R1, R6, R7, R9, R64, R65, R66, R67, R68, R69). -/
def Obligations.StepOfHeldMeter : Prop :=
  ∀ (s : State) (m : Meter) (r x : Bool × Bool) (p : Point), s.runs = true → s.decoding m = true →
    (s.channel m).reference = some r → (s.channel m).holder = some p → classify r x ≠ .same → classify r x ≠ .error →
    let c := s.channel m
    let forward := classify r x = .forward
    let counter := if forward then c.counter + 1 else c.counter - 1
    let net := (counter - c.snapshot).toInt
    let fired (a : Option Armed) : Option Armed :=
      a.map fun k => { k with fired := k.fired || (decide forward && decide ((k.point : Int) ≤ net)) }
    ∃ t, exec (.pulserSample m x.1 x.2) s = .next t ∧ (t.channel m).counter = counter
      ∧ (t.channel m).reference = some x ∧ (t.channel m).snapshot = c.snapshot ∧ (t.channel m).holder = some p
      ∧ (t.channel m).creepCount = c.creepCount ∧ (t.channel m).windowCount = c.windowCount
      ∧ (t.channel m).reverse = (if forward then c.reverse else min 65535 (c.reverse + 1))
      ∧ (t.channel m).slow = fired c.slow ∧ (t.channel m).stop = fired c.stop
      ∧ t.now = s.now ∧ t.pins = s.pins ∧ t.ptu = s.ptu ∧ t.crg = s.crg ∧ t.display = s.display
      ∧ (∀ j : Meter, j ≠ m → (t.channel j).counter = (s.channel j).counter
        ∧ (t.channel j).reference = (s.channel j).reference ∧ (t.channel j).holder = (s.channel j).holder)
      ∧ ∀ q : DeliveryRecord, s.heldBy p = some m → (s.point p).current = some q →
        let d := s.point p
        let hits (a : Option Armed) : Bool :=
          decide forward && a.any fun k => !k.fired && decide ((k.point : Int) ≤ net)
        let reverses : Bool := !decide forward && !c.reversePassed && decide (c.record.reverseLimit ≠ 0)
          && decide (c.record.reverseLimit < c.reverse + 1) && decide (c.record.reverseLimit < 65535)
        let stopped (cause : StopCause) : Prop := (t.point p).st = .stopping
          ∧ (t.point p).current.bind (·.cause) = some cause ∧ (t.point p).quietDue = some (s.now + q.quiet)
          ∧ (t.point p).noFlowDue = none ∧ (t.channel m).mainOpen = false ∧ (t.channel m).slowOpen = false
        (hits c.stop = true → d.st = .starting ∨ d.st.flowing = true →
          stopped (match q.source with | .preset => .preset | .limit => .limit | .capacity => .capacity))
        ∧ (hits c.slow = true → hits c.stop = false → d.st = .fuelling →
          (t.point p).st = .slowing ∧ (t.channel m).mainOpen = false ∧ (t.channel m).slowOpen = true)
        ∧ (reverses = true → d.st.flowing = true → stopped .reverseFlow)
        ∧ (forward → hits c.stop = false → d.st.flowing = true →
          (t.point p).noFlowDue = if q.noFlow = 0 then d.noFlowDue else some (s.now + 1000 * q.noFlow))
        ∧ (d.st = .stopping → (t.point p).st = .stopping ∧ (t.point p).quietDue = some (s.now + q.quiet)
          ∧ (t.point p).current.bind (·.cause) = q.cause)
        ∧ (hits c.stop = false → (hits c.slow = false ∧ reverses = false) ∨ d.st = .starting →
          (t.point p).st = d.st ∧ (t.channel m).mainOpen = c.mainOpen ∧ (t.channel m).slowOpen = c.slowOpen)

/-- The end of a phase-error window moves the count and starts the next window; a count at or above the threshold sets
the fault, which stops a holder in STARTING, FUELLING or SLOWING with cause METER_FAULT, whether or not the other point
waits for the meter, and refuses a point that waits for it: it is AUTHORIZED again with a restarted timer and its begun
record discarded, and waits no more (R3, R4, R59). -/
def Obligations.PhaseWindowEnds : Prop :=
  ∀ (s : State) (m : Meter), s.runs = true →
    let c := s.channel m
    ∃ t, exec (.phaseWindowEnd m) s = .next t ∧ (t.channel m).lastWindow = c.windowCount
      ∧ (t.channel m).windowCount = 0 ∧ (t.channel m).windowDue = c.windowDue + 1000
      ∧ (t.channel m).counter = c.counter ∧ (t.channel m).errorTotal = c.errorTotal
      ∧ (t.channel m).fault = (c.fault || decide (c.record.phaseThreshold ≤ c.windowCount))
      ∧ t.pins = s.pins ∧ t.ptu = s.ptu ∧ t.crg = s.crg ∧ t.display = s.display
      ∧ (∀ j : Meter, j ≠ m → (t.channel j).counter = (s.channel j).counter
        ∧ (t.channel j).windowCount = (s.channel j).windowCount ∧ (t.channel j).fault = (s.channel j).fault)
      ∧ (∀ (p : Point) (r : DeliveryRecord), c.fault = false → c.record.phaseThreshold ≤ c.windowCount →
          s.heldBy p = some m → s.dle.holders.get m = some p → (s.point p).current = some r →
          s.dle.waiters.get m ≠ some p →
          ((s.point p).st = .starting ∨ (s.point p).st = .fuelling ∨ (s.point p).st = .slowing) →
          (t.point p).st = .stopping ∧ (t.point p).current = some { r with cause := some .meterFault })
      ∧ (∀ w : Point, c.fault = false → c.record.phaseThreshold ≤ c.windowCount → s.dle.waiters.get m = some w →
          s.dle.holders.get m = some w.other → (s.point w).st = .starting → s.heldBy w = none →
          s.waiterReturned t w ∧ t.dle.waiters.get m = none ∧ t.dle.holders.get m = some w.other)

/-- A change of a valve's sense starts the mismatch timer, lets it run on, or stops it, as the senses and the commands
of the meter stand after it, and changes nothing else. A mismatch that has run its 50 ms sets the valve fault where it
is clear: the valve commands stay where no point holds the meter; a holder in STARTING, FUELLING or SLOWING stops with
cause VALVE_FAULT and both valves closed, whether or not the other point waits for the meter; and a point that waits for
it is AUTHORIZED again with a restarted timer and its begun record discarded, and waits no more (R12, R59, R64). -/
def Obligations.ValveSensing : Prop :=
  (∀ (s : State) (m : Meter) (v : Valve) (isOpen : Bool), s.runs = true →
     let c := s.channel m
     let main := match v with | .main => isOpen | .slow => s.pins.mainSense.get m
     let slow := match v with | .main => s.pins.slowSense.get m | .slow => isOpen
     let bad := c.record.present = true ∧ s.good .valveSupply = true ∧ (main ≠ c.mainOpen ∨ slow ≠ c.slowOpen)
     exec (.valveSenseChange m v isOpen) s = .next
       { s with
         pins := { s.pins with mainSense := s.pins.mainSense.set m main, slowSense := s.pins.slowSense.set m slow }
         miu := s.miu.set m { c with mismatchSince := if bad then some (c.mismatchSince.getD s.now) else none } })
  ∧ (∀ (s : State) (m : Meter) (since : Nat), s.runs = true → (s.channel m).mismatchSince = some since →
     (s.channel m).valveFault = false →
     ∃ t, exec (.valveMismatchTimeout m) s = .next t ∧ (t.channel m).valveFault = true ∧ t.now = max s.now (since + 50)
       ∧ t.pins = s.pins ∧ t.ptu = s.ptu ∧ t.crg = s.crg ∧ t.display = s.display
       ∧ (∀ j : Meter, (t.channel j).counter = (s.channel j).counter
         ∧ (j ≠ m → (t.channel j).valveFault = (s.channel j).valveFault))
       ∧ (s.dle.holders.get m = none → (t.channel m).mainOpen = (s.channel m).mainOpen
           ∧ (t.channel m).slowOpen = (s.channel m).slowOpen)
       ∧ (∀ (p : Point) (r : DeliveryRecord), s.heldBy p = some m → s.dle.holders.get m = some p →
           (s.point p).current = some r → s.dle.waiters.get m ≠ some p →
           ((s.point p).st = .starting ∨ (s.point p).st = .fuelling ∨ (s.point p).st = .slowing) →
           (t.point p).st = .stopping ∧ (t.point p).current = some { r with cause := some .valveFault }
           ∧ (t.channel m).mainOpen = false ∧ (t.channel m).slowOpen = false)
       ∧ (∀ w : Point, s.dle.waiters.get m = some w → s.dle.holders.get m = some w.other → (s.point w).st = .starting →
           s.heldBy w = none →
           s.waiterReturned t w ∧ t.dle.waiters.get m = none ∧ t.dle.holders.get m = some w.other))

/-! ## Arithmetic (chapter 2) -/

/-- The legal volume of a count is the record ceiling or the floor of N x 1,000 / Q, and the stop count is the least
count whose legal volume reaches a target within the ceiling. The slow-down count is the least count whose legal
volume reaches the target less the distance, and 0 when the target does not exceed the distance; it never exceeds the
stop count (R19, R28, R29). -/
def Obligations.CountsAreLeast : Prop :=
  (∀ q target n : Nat, 2000 ≤ q → q ≤ 60000 → 1 ≤ target → target ≤ 999999 →
     legalVolume n q = min 9999999 (n * 1000 / q)
       ∧ legalVolume (stopCount target q) q = target ∧ (target ≤ legalVolume n q ↔ stopCount target q ≤ n))
  ∧ (∀ q target distance n : Nat, 2000 ≤ q → q ≤ 60000 → target ≤ 999999 →
     (target ≤ distance → slowCount target distance q = 0)
       ∧ (distance < target → (target - distance ≤ legalVolume n q ↔ slowCount target distance q ≤ n))
       ∧ slowCount target distance q ≤ stopCount target q)

/-- The amount-preset candidate is the least volume whose amount reaches the preset, and the amount-limit candidate the
greatest whose amount does not exceed the limit, in both rounding modes, each by its formula; a preset's candidate is 1
or more, and the amount cap is the limit's candidate at 999,999 and at every price 100,009 cl or more (R24, R25). -/
def Obligations.AmountCandidatesAreTight : Prop :=
  ∀ (mode : Rounding) (price figure volume : Nat), 1 ≤ price → 1 ≤ figure →
    (figure ≤ amountOf mode price volume ↔ amountPresetTarget mode price figure ≤ volume)
      ∧ (amountOf mode price volume ≤ figure ↔ volume ≤ amountLimitTarget mode price figure)
      ∧ amountPresetTarget .halfUp price figure = (1000 * figure - 500 + (price - 1)) / price
      ∧ amountPresetTarget .down price figure = (1000 * figure + (price - 1)) / price
      ∧ 1 ≤ amountPresetTarget mode price figure
      ∧ amountLimitTarget .halfUp price figure = (1000 * figure + 499) / price
      ∧ amountLimitTarget .down price figure = (1000 * figure + 999) / price
      ∧ (volume ≤ amountLimitTarget .halfUp price figure ↔ volume * price + 500 < 1000 * (figure + 1))
      ∧ (volume ≤ amountLimitTarget .down price figure ↔ volume * price < 1000 * (figure + 1))
      ∧ (price ≤ 9999 → 100009 ≤ amountLimitTarget mode price 999999)
      ∧ ∀ a : Authorization, (amountLimitTarget mode price 999999, Source.capacity) ∈ candidates mode price a
        ∧ (∀ p, a.preset = some p → p.kind = .amount →
            (amountPresetTarget mode price p.value, Source.preset) ∈ candidates mode price a)
        ∧ ∀ l, a.amountLimit = some l → (amountLimitTarget mode price l, Source.limit) ∈ candidates mode price a

/-- The effective target is one of the candidates and the least of them. Its source is PRESET whenever the preset's
candidate gives it, LIMIT whenever a limit's candidate gives it and the preset's does not, and CAPACITY otherwise, and
PRESET_CUT is set exactly when the preset's candidate exceeds it (R26). -/
def Obligations.EffectiveTargetIsLeast : Prop :=
  ∀ (mode : Rounding) (price distance q : Nat) (a : Authorization),
    let t := targetOf mode price distance q a
    (t.volume, t.source) ∈ candidates mode price a ∧ (∀ c ∈ candidates mode price a, t.volume ≤ c.1)
      ∧ (∀ p, a.preset = some p → (t.source = .preset ↔ presetTarget mode price p = t.volume)
          ∧ (t.presetCut = true ↔ t.volume < presetTarget mode price p))
      ∧ (a.preset = none → t.presetCut = false ∧ t.source ≠ .preset)
      ∧ (t.source = .limit ↔ (∀ p, a.preset = some p → presetTarget mode price p ≠ t.volume)
          ∧ (a.volumeLimit = some t.volume ∨ ∃ l, a.amountLimit = some l ∧ amountLimitTarget mode price l = t.volume))
      ∧ t.volume ≤ 999999

/-- The figures of a record are those of the net count alone, by its own Q, price and rounding mode: a negative net
count is figured as 0, the volume stops at the record ceiling, and the amount fits 32 bits (R18, R19, R20, R22). The
flags of a finalization that depend on the final figures are OVERRUN, LIMIT_EXCEEDED and CLAMPED, each set as R31
gives and clear otherwise, and no other flag moves (R31). -/
def Obligations.FiguresOfNetCount : Prop :=
  (∀ (r : DeliveryRecord) (n m : Int) (i j : Nat),
    let f := r.figured n i
    f = { r with net := f.net, reverse := f.reverse, volume := f.volume, amount := f.amount }
      ∧ f.net = n ∧ f.reverse = i ∧ f.volume = min 9999999 (n.toNat * 10000 / r.q / 10)
      ∧ f.amount = (match r.rounding with
          | .halfUp => (f.volume * r.price + 500) / 1000
          | .down => f.volume * r.price / 1000)
      ∧ f.figured m j = r.figured m j
      ∧ (n < 0 → f.volume = 0 ∧ f.amount = 0)
      ∧ (r.price ≤ 9999 → f.amount ≤ 99989990))
  ∧ ∀ (r : DeliveryRecord) (n : Int) (i : Nat) (finish : Stamp),
    let f := r.figured n i
    let x := (r.finalized n i finish).flags
    (x.overrun = true ↔ ∃ p, r.preset = some p ∧
        ((p.kind = .amount ∧ p.value < f.amount) ∨ (p.kind = .volume ∧ p.value < f.volume)))
    ∧ (x.limitExceeded = true ↔
        (∃ l, r.amountLimit = some l ∧ l < f.amount) ∨ ∃ l, r.volumeLimit = some l ∧ l < f.volume)
    ∧ (x.clamped = true ↔
        999999 < f.volume ∨ 999999 < f.amount ∨ 9999999 < n.toNat * 10000 / r.q / 10)
    ∧ x = { r.flags with overrun := x.overrun, limitExceeded := x.limitExceeded, clamped := x.clamped }
    ∧ r.finalized n i finish = { f with flags := x, finish := some finish, final := true }

/-- SET_ROUNDING with the switch on sets the device-wide mode and leaves every record alone; with it off it is refused
NOT_PERMITTED before its field is judged (R21). -/
def Obligations.SetRounding : Prop :=
  ∀ (s : State) (n : Nat), s.runs = true →
    (∀ mode : Rounding, s.takes (.setRounding true n) = true → mode.number = n →
      exec (.setRounding true n) s = .next (State.configChanged
        { s with pins := { s.pins with calibration := true }, dle := { s.dle with rounding := mode } } 4 [0]))
    ∧ (s.takes (.setRounding false n) = true →
      exec (.setRounding false n) s =
        .next (State.replies { s with pins := { s.pins with calibration := false } } 4 [3, 5]))
    ∧ (s.takes (.setRounding true n) = true → n ≠ 1 → n ≠ 2 →
      exec (.setRounding true n) s =
        .next (State.replies { s with pins := { s.pins with calibration := true } } 4 [3, 3]))

/-! ## Prices (chapter 3) -/

/-- STAGE_PRICES of up to eight entries in range that name no grade twice replaces the whole entry of each grade named
in the staging table, which a RESET base first makes a copy of the newest generation, and leaves every other entry and
the published generations alone. It is refused whole, and changes nothing, with a base that is neither KEEP nor RESET,
with more than eight entries, with a grade named twice and with a field out of range (R35; that a request which leaves
the table as it was writes CONFIG too is assumption 47, and that vapour recovery is a flag, 1 for enabled and 0 for
disabled, is assumption 15). -/
def Obligations.StagePricesJudged : Prop :=
  ∀ (s : State) (base : Nat) (l : List GradeFields), s.takes (.stagePrices base l) = true →
    let x : Instr := .stagePrices base l
    let fits : Prop := (base = 1 ∨ base = 2) ∧ l.length ≤ 8 ∧ (l.map (·.grade)).Nodup ∧ ∀ f ∈ l,
      1 ≤ f.grade ∧ f.grade ≤ 8 ∧ f.price1 ≤ 9999 ∧ f.price2 ≤ 9999 ∧ f.slowDown ≤ 999 ∧ f.vapour ≤ 1
    (¬ fits → exec x s = .next (s.replies 8 [3, 3]))
    ∧ (s.runs = true → fits →
      let before := if base = 2 then s.ptu.newestTable else s.ptu.staging
      ∃ t, exec x s = .next t
        ∧ t = State.configChanged { s with ptu := { s.ptu with staging := t.ptu.staging } } 8 [0]
        ∧ ∀ g : Grade, t.ptu.staging.get g = match l.find? fun f => decide (f.grade = g.number) with
            | none => before.get g
            | some f => { price1 := f.price1, price2 := f.price2, slowDown := f.slowDown, vapour := decide (f.vapour = 1) })

/-- APPLY_PRICES publishes the staging table under the first number from the newest plus 1 upward, modulo 65,536, that no
published generation holds, moves the free points to it and no other point, keeps every generation that a point refers
to, and leaves at most three published. Its OK reply carries the number and the numbers retired, at most two (R36, R37,
R39). -/
def Obligations.ApplyPricesPublishes : Prop :=
  ∀ s : State, s.runs = true → s.takes .applyPrices = true → s.pricesLawful = true →
    ∃ t, exec .applyPrices s = .next t ∧ t.ptu.staging = s.ptu.staging
      ∧ { t with hlp := s.hlp, points := s.points, ptu := s.ptu, rtm := s.rtm } = s
      ∧ t.ptu.find t.ptu.newest = some ⟨t.ptu.newest, s.ptu.staging⟩ ∧ s.ptu.holds t.ptu.newest = false
      ∧ (∀ p : Point, (t.point p).generation =
          if (s.point p).st.free then t.ptu.newest else (s.point p).generation)
      ∧ (∀ p : Point, (s.point p).st.free = false →
          t.ptu.find (s.point p).generation = s.ptu.find (s.point p).generation)
      ∧ (∃ k : Nat, t.ptu.newest = (s.ptu.newest + 1 + k) % 65536
          ∧ ∀ j : Nat, j < k → s.ptu.holds ((s.ptu.newest + 1 + j) % 65536) = true)
      ∧ (let gone := (s.ptu.published.map (·.number)).filter fun n => !t.ptu.holds n
        gone.length ≤ 2 ∧ t.answer? = some (9, u8 0 ++ u16 t.ptu.newest ++ u8 gone.length ++ gone.flatMap u16))
      ∧ t.ptu.published.length ≤ 3 ∧ t.pricesLawful = true
      ∧ ∀ p : Point, { t.point p with generation := 0 } = { s.point p with generation := 0 }

/-- READ_PRICES of STAGING and of NEWEST is OK, of a number OK when that generation is published and EMPTY when it is
not, and BAD_FIELD for another kind of name. An OK reply carries the number (none for STAGING), the eight entries of
the table named, and the published set: each number, with a mark for each point that refers to it and one on the
newest. An EMPTY reply carries the published set alone. Nothing but the request in hand changes (R43; the form of the
marks is the model's, assumption 15, and so is the order of the set, assumption 48). -/
def Obligations.ReadPricesAnswers : Prop :=
  ∀ (s : State) (k n : Nat), s.takes (.readPrices k n) = true →
    let published := u8 s.ptu.published.length ++ s.ptu.published.flatMap fun g => u16 g.number
      ++ u8 (if (s.point .a).generation = g.number then 1 else 0)
      ++ u8 (if (s.point .b).generation = g.number then 1 else 0) ++ u8 (if g.number = s.ptu.newest then 1 else 0)
    let entries (t : PriceTable) := [Grade.g1, .g2, .g3, .g4, .g5, .g6, .g7, .g8].flatMap fun g => u8 g.number
      ++ u16 (t.get g).price1 ++ u16 (t.get g).price2 ++ u16 (t.get g).slowDown ++ u8 (if (t.get g).vapour then 1 else 0)
    (k = 1 → exec (.readPrices k n) s =
      .next (s.replies 0x0A (u8 0 ++ [0, 0, 0] ++ entries s.ptu.staging ++ published)))
    ∧ (k = 2 → exec (.readPrices k n) s =
      .next (s.replies 0x0A (u8 0 ++ u8 1 ++ u16 s.ptu.newest ++ entries s.ptu.newestTable ++ published)))
    ∧ (∀ t : PriceTable, k = 3 → s.ptu.find n = some ⟨n, t⟩ → exec (.readPrices k n) s =
      .next (s.replies 0x0A (u8 0 ++ u8 1 ++ u16 n ++ entries t ++ published)))
    ∧ (k = 3 → s.ptu.holds n = false → exec (.readPrices k n) s = .next (s.replies 0x0A (u8 4 ++ published)))
    ∧ (k = 0 ∨ 3 < k → exec (.readPrices k n) s = .next (s.replies 0x0A [3, 3]))

/-- The published set stays lawful at every step: no number twice, the newest and the points' generations published,
and nothing else (R33, R38, R39). -/
def Obligations.PricesLawKept : Prop :=
  ∀ s t : State, s.pricesLawful = true → step s = .next t → t.pricesLawful = true

/-! ## Tables and authorizations (chapter 4) -/

/-- LOAD_HOSES of entries in range whose meters are present replaces the hose table while both points are CLOSED, IDLE
or FINISHED, and is refused WRONG_STATE otherwise; READ_HOSES returns the eight entries (R47). -/
def Obligations.HoseTableLoads : Prop :=
  (∀ (s : State) (f : HoseTableFields) (t : HoseTable), s.runs = true → s.takes (.loadHoses f) = true →
    hoseTableOf (fun m => (s.channel m).record.present) f = some t →
    exec (.loadHoses f) s = .next (
      if (s.point .a).st ∈ [.closed, .idle, .finished] ∧ (s.point .b).st ∈ [.closed, .idle, .finished] then
        State.configChanged { s with dle := { s.dle with hoses := t } } 0x10 [0]
      else s.replies 0x10 [3, 4]))
  ∧ (∀ s : State, s.takes .readHoses = true →
    exec .readHoses s = .next (s.replies 0x11 (0 ::
      [(Point.a, Position.p1), (.a, .p2), (.a, .p3), (.a, .p4), (.b, .p1), (.b, .p2), (.b, .p3), (.b, .p4)].flatMap
        fun x => u8 (s.hose x.1 x.2).grade.number ++ u8 (s.hose x.1 x.2).meter.number
          ++ u8 (if (s.hose x.1 x.2).enabled then 1 else 0))))

/-- LOAD_POINT_TIMING of fields in range replaces the record of the point named and of no other, with a divider of 0
read as 65,536, and READ_POINT_TIMING returns it, 65,536 again as 0 (R48). -/
def Obligations.PointTimingLoads : Prop :=
  (∀ (s : State) (n : Nat) (f : TimingFields) (p : Point), s.runs = true → s.takes (.loadPointTiming n f) = true →
    Point.ofNumber n = some p → 200 ≤ f.quiet → f.quiet ≤ 5000 → f.noFlow ≤ 300 → f.authTimeout ≤ 3600 →
    f.divider ≤ 65535 →
    let t : PointTiming := { quiet := f.quiet, noFlow := f.noFlow, authTimeout := f.authTimeout
                             divider := if f.divider = 0 then 65536 else f.divider }
    exec (.loadPointTiming n f) s =
      .next (State.configChanged { s with dle := { s.dle with timings := s.dle.timings.set p t } } 0x12 [0]))
  ∧ (∀ (s : State) (n : Nat) (p : Point), s.takes (.readPointTiming n) = true → Point.ofNumber n = some p →
    let t := s.dle.timings.get p
    exec (.readPointTiming n) s = .next (s.replies 0x13
      (u8 0 ++ u16 t.quiet ++ u16 t.noFlow ++ u16 t.authTimeout ++ u16 (t.divider % 65536))))

/-- AUTHORIZE without a binding, or bound to the gate's current session, in RUN with the emergency line released, takes an
IDLE point to AUTHORIZED with its timeout captured, and changes nothing else but the reply. From CALLING the point is
AUTHORIZED in the same way and its calling nozzle is judged at once: refused, with the reason reported, or accepted, and
the point is in STARTING with its record begun and waits for its meter or holds it; the reply is OK either way. With
fields in range it is refused at the first test that fails: CLOSED outside RUN, STOPPED with the line asserted,
WRONG_STATE outside IDLE and CALLING, SESSION_MISMATCH for a binding that is not the gate's session; a refusal changes
nothing (R50, R54, R74). -/
def Obligations.AuthorizeJudged : Prop :=
  (∀ (s : State) (n : Nat) (f : AuthFields) (p : Point) (a : Authorization), s.runs = true →
     s.takes (.authorize n f) = true → Point.ofNumber n = some p → authorizationOf f s.stamp = some a →
     s.psc.power = .run → s.pins.emergency = false → (s.point p).st = .idle →
     (a.session = none ∨ a.session = s.crg.session) →
     let timeout := (s.dle.timings.get p).authTimeout
     let due := if timeout = 0 then none else some (s.now + 1000 * timeout)
     let d := { s.point p with
       st := .authorized, auth := some a, authTimeout := timeout, position := none, authDue := due }
     exec (.authorize n f) s = .next (State.replies { s with points := s.points.set p d } 0x14 [0]))
  ∧ (∀ (s : State) (n : Nat) (f : AuthFields) (p : Point) (k : Position) (a : Authorization), s.runs = true →
     s.takes (.authorize n f) = true → Point.ofNumber n = some p → authorizationOf f s.stamp = some a →
     s.psc.power = .run → s.pins.emergency = false → (s.point p).st = .calling → (s.point p).position = some k →
     (a.session = none ∨ a.session = s.crg.session) →
     let timeout := (s.dle.timings.get p).authTimeout
     let due := if timeout = 0 then none else some (s.now + 1000 * timeout)
     let d := { s.point p with
       st := .authorized, auth := some a, authTimeout := timeout, position := none, authDue := due }
     let u := { s with points := s.points.set p d }
     let m := (s.hose p k).meter
     (∀ reason, u.liftRefusal p a k = some reason → exec (.authorize n f) s =
       .next (State.replies (u.post (.point p) (.nozzleRefused k reason)) 0x14 [0]))
     ∧ (u.liftRefusal p a k = none → s.dle.holders.get m = some p.other
          ∨ (s.dle.holders.get m = none ∧ s.refreshing p = true ∧ (s.side p).sideFault = false) →
       ∃ t, exec (.authorize n f) s = .next t ∧ t.answer? = some (0x14, [0]) ∧ (t.point p).st = .starting
         ∧ (t.point p).position = some k ∧ (t.point p).auth = some a ∧ (t.point p).authDue = none
         ∧ (t.point p).current.map (fun q => { q with snapshot := 0 }) = some (u.liftRecord p a k)
         ∧ (if s.dle.holders.get m = none then t.dle.holders.get m = some p else t.dle.waiters.get m = some p)
         ∧ t.pins = s.pins ∧ t.display = s.display ∧ t.now = s.now))
  ∧ (∀ (s : State) (n : Nat) (f : AuthFields) (p : Point) (a : Authorization),
     s.takes (.authorize n f) = true → Point.ofNumber n = some p → authorizationOf f s.stamp = some a →
     (s.psc.power ≠ .run → exec (.authorize n f) s = .next (s.replies 0x14 [3, 6]))
     ∧ (s.psc.power = .run → s.pins.emergency = true → exec (.authorize n f) s = .next (s.replies 0x14 [3, 7]))
     ∧ (s.psc.power = .run → s.pins.emergency = false → (s.point p).st ≠ .idle → (s.point p).st ≠ .calling →
         exec (.authorize n f) s = .next (s.replies 0x14 [3, 4]))
     ∧ (s.psc.power = .run → s.pins.emergency = false → (s.point p).st = .idle ∨ (s.point p).st = .calling →
         ∀ k, a.session = some k → s.crg.session ≠ some k → exec (.authorize n f) s = .next (s.replies 0x14 [3, 8])))

/-- A lift at a point in AUTHORIZED with its authorization is refused with the first reason of R54 that holds and
changes nothing but the switch and the report queue, whatever the others are (R54). -/
def Obligations.LiftRefusedInOrder : Prop :=
  ∀ (s : State) (p : Point) (k : Position) (a : Authorization), s.runs = true → s.up p k = false →
    (s.point p).st = .authorized → (s.point p).auth = some a →
    let h := s.hose p k
    let price := (s.ptu.entry (s.point p).generation h.grade).price a.level
    let t := s.moveNozzle p k true
    let refused (r : LiftRefusal) : Prop :=
      exec (.nozzleLift p k none) s = .next (t.post (.point p) (.nozzleRefused k r))
    let enabled := h.enabled = true
    let permitted := a.mask.testBit (h.grade.number - 1) = true
    let opened := price ≠ 0 ∧ s.displayCloses p h.grade = false
    let usable := (s.channel h.meter).record.present = true ∧ (s.channel h.meter).fault = false
      ∧ (s.channel h.meter).valveFault = false
    let alone := ∀ j : Position, j ≠ k → s.up p j = false
    (¬ enabled → refused .hoseDisabled)
    ∧ (enabled → ¬ permitted → refused .gradeNotAuthorized)
    ∧ (enabled → permitted → ¬ opened → refused .gradeClosed)
    ∧ (enabled → permitted → opened → ¬ usable → refused .meterFault)
    ∧ (enabled → permitted → opened → usable → ¬ alone → refused .conflict)
    ∧ (enabled → permitted → opened → usable → alone → (s.liftRecord p a k).target = 0 → refused .limitTooSmall)

/-- An acceptable lift of a free meter's nozzle at a refreshing side without side fault begins the record and makes the
point the holder with the snapshot of that moment; the compares are armed, the zero check is asked for, the pulse output
tracks the delivery and the motor is demanded; no other meter's counter, holder or hold moves. The record has the next
sequence number, the hose entry, the generation, and the Q, price by the authorization's level, rounding mode, slow-down
distance, vapour setting and times in force, what the authorization carries, and the target, its source and the counts
of chapter 2. Where the other point holds the meter, the point begins its record and waits: no meter, motor, pulse
output or side moves, and METER_WAIT is posted. Of two acceptable lifts in one event, of one free meter or of two, point
A becomes a holder, and point B waits for the same meter with METER_WAIT or holds its own (R6, R8, R23, R52, R54, R58,
R60, R61, R62). -/
def Obligations.LiftAcceptedHoldsMeter : Prop :=
  (∀ (s : State) (p : Point) (k : Position) (a : Authorization), s.runs = true → s.up p k = false →
    (s.point p).st = .authorized → (s.point p).auth = some a →
    s.liftRefusal p a k = none → s.dle.holders.get (s.hose p k).meter = none →
    s.heldBy p.other ≠ some (s.hose p k).meter → s.refreshing p = true → (s.side p).sideFault = false →
    let m := (s.hose p k).meter
    let r := s.liftRecord p a k
    let c := s.channel m
    ∃ t, exec (.nozzleLift p k none) s = .next t
      ∧ (t.point p).st = .starting ∧ (t.point p).position = some k ∧ (t.point p).auth = some a
      ∧ (t.point p).authDue = none ∧ (t.point p).lastSeq = ((s.point p).lastSeq + 1) % 65536
      ∧ (t.point p).current = some { r with snapshot := c.counter }
      ∧ (t.point p).previous = (s.point p).previous ∧ (t.point p).generation = (s.point p).generation
      ∧ t.dle.holders.get m = some p ∧ (t.side p).zero ≠ .none ∧ s.motorDemanded t m
      ∧ (t.channel m).holder = some p ∧ (t.channel m).snapshot = c.counter ∧ (t.channel m).counter = c.counter
      ∧ (t.channel m).reverse = 0 ∧ (t.channel m).stop = some ⟨r.nStop, false⟩
      ∧ (t.channel m).slow = (if r.nSlow = 0 then none else some ⟨r.nSlow, false⟩)
      ∧ (∀ j : Meter, j ≠ m → (t.channel j).counter = (s.channel j).counter ∧ (t.channel j).holder = (s.channel j).holder
          ∧ t.dle.holders.get j = s.dle.holders.get j)
      ∧ (t.pou.get p).tracked = some (r.seq, m) ∧ (t.pou.get p).high = 0 ∧ (t.pou.get p).generating = false
      ∧ (t.pou.get p).vapour = r.vapour
      ∧ t.pins = (s.moveNozzle p k true).pins ∧ t.display = s.display ∧ t.now = s.now)
  ∧ (∀ (s : State) (p : Point) (k : Position) (a : Authorization), s.runs = true → s.up p k = false →
    (s.point p).st = .authorized → (s.point p).auth = some a → s.liftRefusal p a k = none →
    s.dle.holders.get (s.hose p k).meter = some p.other →
    let m := (s.hose p k).meter
    let r := s.liftRecord p a k
    ∃ t, exec (.nozzleLift p k none) s = .next t
      ∧ t.point p = { s.point p with
          st := .starting, position := some k, authDue := none, current := some r, lastSeq := r.seq
          saleTable := (s.ptu.find (s.point p).generation).map (·.table), figuresAt := none, zeroPassed := false }
      ∧ t.hlp = (s.post (.point p) (.meterWait m p.other)).hlp ∧ t.point p.other = s.point p.other
      ∧ { t with hlp := s.hlp, points := s.points, rtm := s.rtm } =
          { s.moveNozzle p k true with dle := { s.dle with waiters := s.dle.waiters.set m (some p) } })
  ∧ (∀ (s : State) (p : Point) (k : Position) (a : Authorization) (g : Generation),
    s.ptu.find (s.point p).generation = some g →
    let h := s.hose p k
    let e := g.table.get h.grade
    let price := match a.level with | .one => e.price1 | .two => e.price2
    let q := (s.channel h.meter).record.q
    let target := targetOf s.dle.rounding price e.slowDown q a
    s.liftRecord p a k = {
      seq := ((s.point p).lastSeq + 1) % 65536, position := k, grade := h.grade, meter := h.meter
      generation := (s.point p).generation, level := a.level, price := price, q := q, rounding := s.dle.rounding
      slowDown := e.slowDown, vapour := e.vapour, preset := a.preset, amountLimit := a.amountLimit
      volumeLimit := a.volumeLimit, session := a.session, target := target.volume, source := target.source
      nSlow := slowCount target.volume e.slowDown q, nStop := stopCount target.volume q
      quiet := (s.dle.timings.get p).quiet, noFlow := (s.dle.timings.get p).noFlow, snapshot := 0, net := 0
      reverse := 0, volume := 0, amount := 0, cause := none
      flags := ⟨false, false, target.presetCut, false, false, false, false⟩, start := s.psc.clock, finish := none
      pulses := 0, final := false })
  ∧ ∀ (s : State) (j k : Position) (a b : Authorization), s.runs = true → s.up .a j = false → s.up .b k = false →
    (s.point .a).st = .authorized → (s.point .a).auth = some a → s.liftRefusal .a a j = none →
    (s.point .b).st = .authorized → (s.point .b).auth = some b → s.liftRefusal .b b k = none →
    s.refreshing .a = true → (s.side .a).sideFault = false → s.refreshing .b = true → (s.side .b).sideFault = false →
    let m := (s.hose .a j).meter
    let n := (s.hose .b k).meter
    s.dle.holders.get m = none → s.dle.holders.get n = none →
    let q := s.liftRecord .a a j
    let r := s.liftRecord .b b k
    let taken (t : State) : Prop :=
      (t.point .a).st = .starting ∧ (t.point .a).current = some { q with snapshot := (s.channel m).counter }
      ∧ (t.point .a).position = some j ∧ (t.point .a).auth = some a ∧ t.dle.holders.get m = some .a
      ∧ (t.channel m).holder = some .a ∧ (t.channel m).snapshot = (s.channel m).counter ∧ (t.side .a).zero ≠ .none
      ∧ (t.pou.get .a).tracked = some (q.seq, m)
      ∧ (t.point .b).st = .starting ∧ (t.point .b).position = some k ∧ (t.point .b).auth = some b
      ∧ (n = m → s.motorDemanded t m ∧ t.dle.waiters = s.dle.waiters.set m (some .b) ∧ (t.point .b).current = some r
        ∧ t.side .b = s.side .b ∧ t.pou.get .b = s.pou.get .b ∧ t.hlp = (s.post (.point .b) (.meterWait m .a)).hlp)
      ∧ (n ≠ m → t.dle.holders.get n = some .b ∧ t.dle.waiters = s.dle.waiters
        ∧ (t.point .b).current = some { r with snapshot := (s.channel n).counter } ∧ (t.channel n).holder = some .b
        ∧ (t.channel n).snapshot = (s.channel n).counter ∧ (t.side .b).zero ≠ .none
        ∧ (t.pou.get .b).tracked = some (r.seq, n))
      ∧ t.pins = ((s.moveNozzle .a j true).moveNozzle .b k true).pins ∧ t.display = s.display ∧ t.now = s.now
      ∧ ∀ i : Meter, (t.channel i).counter = (s.channel i).counter
    (∃ t, exec (.nozzleLift .a j (some k)) s = .next t ∧ taken t)
      ∧ ∃ t, exec (.nozzleLift .b k (some j)) s = .next t ∧ taken t

/-- Lifts and hangs that the point's state gives: a call in IDLE, a closed call, an uncleared call, and a conflict in
CALLING and from STARTING to STOPPING; a closed call in NIGHT with the nozzle's wake line enabled, which begins the
sequence from the outputs of the loads where mains is present (its first event is by assumptions 24 and 46) and waits
for mains where it is not; the hang of the calling nozzle, which ends the call with NOZZLE_HANG and takes the point to
IDLE, and on to CALLING again where another nozzle is up; a hang in STOPPING, the active nozzle's among them, and in
CLOSED, IDLE, AUTHORIZED and FINISHED; and a hang of any other nozzle, or of one that is down. Each changes what the
manual names and nothing else (R53, R55, R56, R57, R164; the order of NOZZLE_HANG before NOZZLE_CALL is the model's,
assumption 23, and that a hang of a nozzle that is down is no event, assumption 32). -/
def Obligations.NozzlesAtOtherPoints : Prop :=
  ∀ (s : State) (p : Point) (k : Position), s.runs = true →
    (s.up p k = false →
      let t := s.moveNozzle p k true
      let calling := { t.point p with st := .calling, position := some k }
      ((s.point p).st = .idle → exec (.nozzleLift p k none) s =
          .next (State.post { t with points := t.points.set p calling } (.point p) (.nozzleCall k false false)))
      ∧ ((s.point p).st = .finished → exec (.nozzleLift p k none) s =
          .next (t.post (.point p) (.nozzleCall k false true)))
      ∧ ((s.point p).st = .calling ∨ (s.point p).st.delivering = true → exec (.nozzleLift p k none) s =
          .next (t.post (.point p) (.nozzleRefused k .conflict)))
      ∧ ((s.point p).st = .closed → (s.psc.schedule.nozzleWake = false ∨ s.psc.power ≠ .night) →
          exec (.nozzleLift p k none) s = .next (t.post (.point p) (.nozzleCall k true false)))
      ∧ ((s.point p).st = .closed → s.psc.schedule.nozzleWake = true → s.psc.power = .night →
        (s.good .mains = false → exec (.nozzleLift p k none) s = .next (State.post
          { t.post (.point p) (.nozzleCall k true false) with psc := { s.psc with wakePending := some .nozzle } } .none
          (.wake .nozzle .pending)))
        ∧ (s.good .mains = true → ∃ u, exec (.nozzleLift p k none) s = .next u ∧ u.pins = t.pins
          ∧ s.wakes u s.output ∧ u.display = s.display ∧ ∀ m : Meter, (u.channel m).counter = (s.channel m).counter)))
    ∧ ((s.point p).position ≠ some k ∨ s.up p k = false
        ∨ (s.point p).st ∈ [.closed, .idle, .authorized, .stopping, .finished] →
        exec (.nozzleHang p k) s = .next (s.moveNozzle p k false))
    ∧ ((s.point p).st = .calling → (s.point p).position = some k → s.up p k = true →
        (s.point p).generation = s.ptu.newest →
        let t := s.moveNozzle p k false
        let idle := { t.point p with
          st := .idle, auth := none, authDue := none, position := none, zeroPassed := false, noFlowDue := none
          quietDue := none }
        let hung := State.post { t with points := t.points.set p idle } (.point p) (.nozzleHang k)
        (t.lowestUp p = none → exec (.nozzleHang p k) s = .next hung)
        ∧ ∀ j : Position, t.lowestUp p = some j → exec (.nozzleHang p k) s = .next (State.post
            { hung with points := t.points.set p { idle with st := .calling, position := some j } } (.point p)
            (.nozzleCall j false false)))

/-- A hang of the active nozzle at a point that holds its meter in STARTING, or is in FUELLING or SLOWING, stops the
delivery with cause NOZZLE_HUNG: both valves close, the quiet timer starts, the meter stays held and its compares armed.
At a point in STARTING that waits for its meter it discards the begun record and takes the point back to AUTHORIZED with
its authorization and a timer that starts again. An expired no-flow timer stops a delivery whose valves are open with
cause NO_FLOW, and one that does not run does nothing (R56, R59, R64, R66, R67, R68). -/
def Obligations.HangAndNoFlowStop : Prop :=
  (∀ (s : State) (p : Point) (k : Position) (m : Meter) (r : DeliveryRecord), s.runs = true → s.up p k = true →
     (s.point p).position = some k →
     (s.point p).st = .starting ∨ (s.point p).st = .fuelling ∨ (s.point p).st = .slowing →
     s.heldBy p = some m → (s.point p).current = some r →
     ∃ t, exec (.nozzleHang p k) s = .next t ∧ (t.point p).st = .stopping
       ∧ (t.point p).current = some { r with cause := some .nozzleHung }
       ∧ (t.point p).quietDue = some (s.now + r.quiet) ∧ (t.point p).noFlowDue = none
       ∧ (t.channel m).mainOpen = false ∧ (t.channel m).slowOpen = false ∧ t.dle.holders.get m = s.dle.holders.get m
       ∧ (t.channel m).slow = (s.channel m).slow ∧ (t.channel m).stop = (s.channel m).stop
       ∧ t.pins = (s.moveNozzle p k false).pins ∧ t.ptu = s.ptu ∧ t.crg = s.crg ∧ t.display = s.display
       ∧ (∀ j : Meter, (t.channel j).counter = (s.channel j).counter) ∧ t.up p k = false)
  ∧ (∀ (s : State) (p : Point) (k : Position), s.runs = true → s.up p k = true → (s.point p).position = some k →
     (s.point p).st = .starting → s.heldBy p = none →
     let d := s.point p
     ∃ t, exec (.nozzleHang p k) s = .next t
       ∧ t.point p = { d with
           st := .authorized, position := none, current := none, saleTable := none, figuresAt := none
           lastSeq := (d.lastSeq + 65535) % 65536
           authDue := if d.authTimeout = 0 then none else some (s.now + 1000 * d.authTimeout) }
       ∧ t.hlp = (s.post (.point p) (.nozzleHang k)).hlp ∧ (∀ m : Meter, t.dle.waiters.get m ≠ some p)
       ∧ t.dle.holders = s.dle.holders ∧ t.point p.other = s.point p.other
       ∧ { t with hlp := s.hlp, dle := s.dle, points := s.points, pins := s.pins, rtm := s.rtm } = s)
  ∧ (∀ (s : State) (p : Point), s.runs = true →
     ((s.point p).noFlowDue = none → exec (.noFlowExpiry p) s = .next s)
     ∧ (∀ (due : Nat) (m : Meter) (r : DeliveryRecord), (s.point p).noFlowDue = some due →
         (s.point p).st = .fuelling ∨ (s.point p).st = .slowing → s.heldBy p = some m → (s.point p).current = some r →
         ∃ t, exec (.noFlowExpiry p) s = .next t ∧ (t.point p).st = .stopping ∧ t.now = max s.now due
           ∧ (t.point p).current = some { r with cause := some .noFlow }
           ∧ (t.point p).quietDue = some (max s.now due + r.quiet) ∧ (t.channel m).mainOpen = false
           ∧ (t.channel m).slowOpen = false ∧ t.pins = s.pins ∧ t.ptu = s.ptu ∧ t.crg = s.crg ∧ t.display = s.display
           ∧ ∀ j : Meter, (t.channel j).counter = (s.channel j).counter))

/-- CANCEL of A, of B or of both is answered OK in every state, and acts on each point named by its state. An AUTHORIZED
point, and one in STARTING that waits for its meter, loses its authorization and is free on the newest generation, the
waiter's begun record discarded and its sequence number given back; outside DRAINING, where the end of the last sale may
close the points, it is IDLE, or CALLING with a nozzle up. A point that holds its meter in STARTING, or is in FUELLING or
SLOWING, stops with cause HOST_CANCEL, its zero check withdrawn. CLOSED, IDLE, CALLING, STOPPING and FINISHED are left as
they are. A point that is not named keeps its record (R64, R73, R118). -/
def Obligations.CancelActsByState : Prop :=
  (∀ (s : State) (n : Nat) (l : List Point), s.runs = true → s.takes (.cancel n) = true →
    ((n = 1 ∧ l = [.a]) ∨ (n = 2 ∧ l = [.b]) ∨ (n = 3 ∧ l = [.a, .b])) →
    ∃ t, exec (.cancel n) s = .next t ∧ t.answer? = some (0x15, [0]) ∧ t.pins = s.pins ∧ t.display = s.display
      ∧ t.now = s.now ∧ (∀ j : Meter, (t.channel j).counter = (s.channel j).counter)
      ∧ ∀ p : Point,
        let d := s.point p
        let e := t.point p
        (p ∉ l → e.current = d.current)
        ∧ (p ∈ l →
          (d.st = .authorized ∨ (d.st = .starting ∧ s.heldBy p = none) →
            e.st.free = true ∧ e.auth = none ∧ e.generation = s.ptu.newest
            ∧ (s.psc.power ≠ .draining → e.st = if (s.lowestUp p).isSome then .calling else .idle)
            ∧ (d.st = .authorized → e.current = d.current ∧ e.lastSeq = d.lastSeq)
            ∧ (d.st = .starting → e.current = none ∧ e.lastSeq = (d.lastSeq + 65535) % 65536
                ∧ ∀ m : Meter, t.dle.waiters.get m ≠ some p))
          ∧ (∀ (m : Meter) (r : DeliveryRecord), d.st = .starting ∨ d.st = .fuelling ∨ d.st = .slowing →
            s.heldBy p = some m → d.current = some r →
            e.st = .stopping ∧ e.current = some { r with cause := some .hostCancel }
            ∧ e.quietDue = some (s.now + r.quiet) ∧ (t.side p).zero = .none ∧ (t.channel m).mainOpen = false
            ∧ (t.channel m).slowOpen = false)
          ∧ (d.st ∈ [.closed, .idle, .calling, .stopping, .finished] → s.psc.power ≠ .draining → e = d)))
  ∧ ∀ (s : State) (n : Nat) (p : Point), s.runs = true → s.takes (.cancel n) = true → Point.ofNumber n = some p →
    let d := s.point p
    let idle := { d with
      st := .idle, auth := none, authDue := none, position := none, zeroPassed := false, noFlowDue := none
      quietDue := none }
    (d.st = .authorized → s.psc.power = .run → d.generation = s.ptu.newest → s.lowestUp p = none →
      exec (.cancel n) s = .next (State.replies { s with points := s.points.set p idle } 0x15 [0]))
    ∧ (d.st ∈ [.closed, .idle, .calling, .stopping, .finished] → exec (.cancel n) s = .next (s.replies 0x15 [0]))

/-- CLEAR of a FINISHED point, with the current record's sequence number or none, moves the current record to the
previous place, adopts the newest generation and frees the point: CLOSED outside RUN and DRAINING, CALLING with a nozzle
up and IDLE otherwise; in another state, or with another number, it is refused WRONG_STATE (R57, R72; that the
sequence number's presence bit is bit 0 is assumption 15). -/
def Obligations.ClearMovesRecord : Prop :=
  ∀ (s : State) (n x k : Nat) (p : Point), s.runs = true → s.takes (.clear n x k) = true → Point.ofNumber n = some p →
    x ≤ 1 →
    let d := s.point p
    (∀ r, d.st = .finished → d.current = some r → (x = 0 ∨ r.seq = k) →
      ∃ t, exec (.clear n x k) s = .next t ∧ t.answer? = some (0x16, [0])
        ∧ (t.point p).previous = some r ∧ (t.point p).current = none ∧ (t.point p).generation = s.ptu.newest
        ∧ (t.point p).auth = none ∧ t.point p.other = s.point p.other
        ∧ { t with hlp := s.hlp, points := s.points, ptu := s.ptu, rtm := s.rtm } = s
        ∧ (t.point p).st = (if s.psc.power = .run ∨ s.psc.power = .draining then
            (if (s.lowestUp p).isSome then .calling else .idle) else .closed))
    ∧ (d.st ≠ .finished → exec (.clear n x k) s = .next (s.replies 0x16 [3, 4]))
    ∧ (∀ r, d.current = some r → x = 1 → r.seq ≠ k → exec (.clear n x k) s = .next (s.replies 0x16 [3, 4]))

/-- STOP_ALL, and an assertion of a released emergency line, stop every delivery whose valves are open, and every one in
STARTING that holds its meter, with cause EMERGENCY; they end every authorization in AUTHORIZED, and that of a point in
STARTING that waits for its meter, whose begun record is discarded. STOP_ALL leaves the line alone. An assertion of an
asserted line changes nothing, and a release changes the line and posts its change alone (R64, R77, R78; that an
assertion of an asserted line and a release of a released one are no events is assumption 32). -/
def Obligations.EmergencyStops : Prop :=
  (∀ (s t : State), s.runs = true →
    ((s.takes .stopAll = true ∧ exec .stopAll s = .next t)
      ∨ (s.pins.emergency = false ∧ exec .emergencyStopAssert s = .next t)) →
    t.display = s.display ∧ t.now = s.now ∧ (∀ m : Meter, (t.channel m).counter = (s.channel m).counter)
    ∧ ∀ p : Point,
      ((s.point p).st = .authorized → (t.point p).st.free = true ∧ (t.point p).auth = none)
      ∧ (∀ (m : Meter) (r : DeliveryRecord), (s.point p).st = .starting ∨ (s.point p).st.flowing = true →
          s.heldBy p = some m → (s.point p).current = some r →
          (t.point p).st = .stopping ∧ (t.point p).current = some { r with cause := some .emergency })
      ∧ ((s.point p).st = .starting → s.heldBy p = none →
          (t.point p).st.free = true ∧ (t.point p).auth = none ∧ (t.point p).current = none
          ∧ (t.point p).lastSeq = ((s.point p).lastSeq + 65535) % 65536 ∧ ∀ m : Meter, t.dle.waiters.get m ≠ some p))
  ∧ (∀ s : State, s.runs = true → s.takes .stopAll = true →
      ∃ t, exec .stopAll s = .next t ∧ t.pins = s.pins ∧ t.answer? = some (0x17, [0]))
  ∧ (∀ s : State, s.runs = true →
      (∃ t, exec .emergencyStopAssert s = .next t ∧ t.pins.emergency = true)
      ∧ (s.pins.emergency = true → exec .emergencyStopAssert s = .next s)
      ∧ exec .emergencyStopRelease s = .next (
          let t := { s with pins := { s.pins with emergency := false } }
          if s.pins.emergency = true ∧ s.hlp.modes.emergencyStop = .onChange then
            t.post .none (.condition .emergencyStop false) else t))

/-- READ_DELIVERY answers EMPTY for an empty record, and otherwise 117 bytes: the point's state, its generation and the
86 bytes of the record, whose sequence number, volume, amount, flags and final mark stand at their offsets (R82,
11.3). -/
def Obligations.ReadDeliveryAnswers : Prop :=
  (∀ (s : State) (n k : Nat) (p : Point), s.takes (.readDelivery n k) = true → Point.ofNumber n = some p →
    let named := if k = 1 then (s.point p).current else (s.point p).previous
    (k = 1 ∨ k = 2 → named = none → exec (.readDelivery n k) s = .next (s.replies 0x18 [4]))
    ∧ (∀ r, k = 1 ∨ k = 2 → named = some r → ∃ reply, exec (.readDelivery n k) s = .next (s.replies 0x18 reply)
        ∧ reply.length = 117 ∧ reply.take 4 = u8 0 ++ u8 (s.point p).st.number ++ u16 (s.point p).generation
        ∧ reply.drop 31 = r.bytes)
    ∧ (k = 0 ∨ 2 < k → exec (.readDelivery n k) s = .next (s.replies 0x18 [3, 3])))
  ∧ ∀ r : DeliveryRecord, r.bytes.length = 86 ∧ r.bytes.take 2 = u16 r.seq ∧ (r.bytes.drop 49).take 4 = u32 r.snapshot.toNat
    ∧ (r.bytes.drop 59).take 4 = u32 r.volume ∧ (r.bytes.drop 63).take 4 = u32 r.amount
    ∧ (r.bytes.drop 68).take 1 = u8 r.flags.byte ∧ r.bytes.drop 85 = u8 (if r.final then 1 else 0)

/-- A run authorization timer takes its AUTHORIZED point, on the newest generation with no nozzle up, to IDLE with
AUTH_ENDED EXPIRED; the silence timer's expiry ends every authorization in AUTHORIZED and leaves every other point as it
is. Neither does anything while its timer does not run (R74, R75, R191). -/
def Obligations.AuthorizationsExpire : Prop :=
  (∀ (s : State) (p : Point) (due : Nat), s.runs = true → (s.point p).authDue = some due → s.psc.power = .run →
    (s.point p).generation = s.ptu.newest → s.lowestUp p = none →
    let t := State.post { s with now := max s.now due } (.point p) (.authEnded .expired)
    let idle := { s.point p with
      st := .idle, auth := none, authDue := none, position := none, zeroPassed := false, noFlowDue := none
      quietDue := none }
    exec (.authorizationTimeout p) s = .next { t with points := t.points.set p idle })
  ∧ (∀ (s : State) (due : Nat), s.runs = true → s.hlp.silence = .running due → ∃ t,
      exec .hostSilenceExpiry s = .next t ∧ t.hlp.silence = .expired
      ∧ t.pins = s.pins ∧ t.display = s.display ∧ t.now = max s.now due
      ∧ (∀ m : Meter, (t.channel m).counter = (s.channel m).counter)
      ∧ ∀ p : Point, ((s.point p).st = .authorized → (t.point p).auth = none ∧ (t.point p).st.free = true)
        ∧ ((s.point p).st ≠ .authorized → (s.psc.power ≠ .draining ∨ (s.point p).st.free = false) →
            t.point p = s.point p))
  ∧ (∀ (s : State) (p : Point), ((s.point p).authDue = none → exec (.authorizationTimeout p) s = .next s)
      ∧ ((∀ due, s.hlp.silence ≠ .running due) → exec .hostSilenceExpiry s = .next s))

/-- The quiet expiry of a point in STOPPING finalizes its delivery: the final figures are those of the net count, the
meter without a waiter is free with its compares disarmed, the addition is handed to the RTM, and the point is FINISHED,
or, at 0 cl, free again with the record in the previous place; outside a drain, a motor that runs on starts its run-on
timer, or goes off at a run-on of 0. A meter with a waiter is handed over in the same event: the waiter holds it with
the snapshot of that moment, its compares armed, its zero check asked for, its pulse output tracking and its motor
demanded: RUNNING with its run-on timer stopped from RUN_ON, granted or queued from OFF (R30, R59, R61, R62, R70, R71,
R94, R176). -/
def Obligations.QuietExpiryFinalizes : Prop :=
  (∀ (s : State) (p : Point) (m : Meter) (due : Nat) (r : DeliveryRecord), s.runs = true →
    (s.point p).quietDue = some due → (s.point p).st = .stopping → s.heldBy p = some m →
    s.dle.waiters.get m = none → (s.point p).current = some r →
    let net := ((s.channel m).counter - (s.channel m).snapshot).toInt
    let final := { (r.figured net (s.channel m).reverse).flagged with finish := some s.psc.clock, final := true }
    ∃ t, exec (.quietExpiry p) s = .next t ∧ t.dle.holders.get m = none ∧ (t.channel m).holder = none
      ∧ (t.channel m).slow = none ∧ (t.channel m).stop = none ∧ (t.channel m).counter = (s.channel m).counter
      ∧ (t.point p).auth = none ∧ t.now = max s.now due ∧ t.pins = s.pins ∧ t.display = s.display
      ∧ (∀ j : Meter, j ≠ m → (t.channel j).counter = (s.channel j).counter
        ∧ (t.channel j).holder = (s.channel j).holder ∧ t.dle.holders.get j = s.dle.holders.get j)
      ∧ additionOf p final ∈ t.rtm.unwritten ++ t.rtm.carried
      ∧ (final.volume ≠ 0 → (t.point p).st = .finished ∧ (t.point p).current = some final
          ∧ (t.side p).shown = ⟨final.volume, final.amount, true⟩)
      ∧ (final.volume = 0 → (t.point p).st.free = true ∧ (t.point p).current = none
          ∧ (t.point p).previous = some final)
      ∧ ((s.motor m).st = .runOn → s.psc.power ≠ .draining →
        t.motor m = if (s.channel m).record.runOn = 0 then { s.motor m with st := .off }
          else { s.motor m with runOnDue := some (t.now + 1000 * (s.channel m).record.runOn) }))
  ∧ ∀ (s : State) (p : Point) (m : Meter) (due : Nat) (r q : DeliveryRecord), s.runs = true →
    (s.point p).quietDue = some due → (s.point p).st = .stopping → s.heldBy p = some m → (s.point p).current = some r →
    s.dle.waiters.get m = some p.other → (s.point p.other).st = .starting → s.heldBy p.other = none →
    (s.point p.other).current = some q → (s.point p.other).zeroPassed = false → s.refreshing p.other = true →
    (s.side p.other).sideFault = false →
    let w := p.other
    let c := s.channel m
    ∃ t, exec (.quietExpiry p) s = .next t ∧ t.dle.holders.get m = some w ∧ t.dle.waiters.get m = none
      ∧ (t.channel m).holder = some w ∧ (t.channel m).snapshot = c.counter ∧ (t.channel m).counter = c.counter
      ∧ (t.channel m).reverse = 0 ∧ (t.channel m).stop = some ⟨q.nStop, false⟩
      ∧ (t.channel m).slow = (if q.nSlow = 0 then none else some ⟨q.nSlow, false⟩)
      ∧ (t.point w).st = .starting ∧ (t.point w).current = some { q with snapshot := c.counter }
      ∧ (t.point w).auth = (s.point w).auth ∧ (t.side w).zero ≠ .none ∧ s.motorDemanded t m
      ∧ (t.pou.get w).tracked = some (q.seq, m) ∧ (t.pou.get w).high = 0 ∧ (t.pou.get w).generating = false
      ∧ t.now = max s.now due ∧ t.pins = s.pins ∧ t.display = s.display
      ∧ ∀ j : Meter, j ≠ m → (t.channel j).counter = (s.channel j).counter ∧ (t.channel j).holder = (s.channel j).holder

/-- The valves of a holder in STARTING open at the run-up's end when the zero check has passed, the motor runs and the
valve supply is good: at full flow, or on SLOW alone when there is no slow-down count or its compare has fired. The
authorization is consumed and the no-flow timer starts. While one of the conditions fails, nothing opens (R63, R67). -/
def Obligations.RunUpOpensValves : Prop :=
  ∀ (s : State) (p : Point) (m : Meter) (r : DeliveryRecord), s.runs = true → (s.motor m).st = .running →
    s.dle.holders.get m = some p → s.heldBy p = some m → (s.point p).st = .starting → (s.point p).current = some r →
    let now := max s.now ((s.motor m).onSince + (s.channel m).record.runUp)
    let full := r.nSlow ≠ 0 ∧ ∀ k, (s.channel m).slow = some k → k.fired = false
    ((s.point p).zeroPassed = true → s.good .valveSupply = true →
      ∃ t, exec (.runUpElapsed m) s = .next t ∧ t.now = now ∧ (t.point p).auth = none ∧ (t.channel m).slowOpen = true
        ∧ (full → (t.point p).st = .fuelling ∧ (t.channel m).mainOpen = true)
        ∧ (¬ full → (t.point p).st = .slowing ∧ (t.channel m).mainOpen = false)
        ∧ (t.point p).noFlowDue = (if r.noFlow = 0 then none else some (now + 1000 * r.noFlow))
        ∧ (t.point p).current = some r ∧ (t.pou.get p).generating = (s.pou.get p).vapour
        ∧ { t with
            now := s.now, hlp := s.hlp, miu := s.miu, points := s.points, pou := s.pou, rtm := s.rtm } = s
        ∧ t.point p.other = s.point p.other ∧ ∀ j : Meter, j ≠ m → t.channel j = s.channel j)
    ∧ ((s.point p).zeroPassed = false ∨ s.good .valveSupply = false →
      exec (.runUpElapsed m) s = .next { s with now := now })

/-- The head of the motor start queue is granted at the end of a spacing of 1 ms or more and no other request with it;
an empty queue is timed for nothing. A run-on that expires turns its motor off and changes nothing else (R62, R176). -/
def Obligations.MotorsGrantedAndStopped : Prop :=
  (∀ (s : State) (m : Meter) (rest : List Meter), s.runs = true → s.psc.startQueue = m :: rest → 1 ≤ s.psc.spacing →
    ∃ t, exec .startSpacingElapsed s = .next t ∧ t.psc.startQueue = rest
      ∧ t.psc.lastGrant = max s.now (s.psc.lastGrant + s.psc.spacing) ∧ t.now = t.psc.lastGrant
      ∧ (t.motor m).st = .running ∧ (t.motor m).onSince = t.now ∧ (∀ j : Meter, j ≠ m → t.motor j = s.motor j)
      ∧ t.pins = s.pins ∧ t.ptu = s.ptu ∧ t.ddu = s.ddu ∧ t.crg = s.crg ∧ t.display = s.display
      ∧ t.dle = { s.dle with motors := t.dle.motors }
      ∧ t.psc = { s.psc with startQueue := t.psc.startQueue, lastGrant := t.psc.lastGrant })
  ∧ (∀ s : State, s.psc.startQueue = [] → exec .startSpacingElapsed s = .next s)
  ∧ (∀ (s : State) (m : Meter) (due : Nat), s.runs = true → (s.motor m).runOnDue = some due →
      exec (.runOnExpiry m) s = .next { s with
        now := max s.now due
        dle := { s.dle with motors := s.dle.motors.set m { s.motor m with st := .off, runOnDue := none } } })
  ∧ (∀ (s : State) (m : Meter), (s.motor m).runOnDue = none → exec (.runOnExpiry m) s = .next s)

/-! ## Pulse outputs (chapter 5) -/

/-- A forward step notice of the tracked delivery's meter that does not pass the high-water mark changes nothing; one
that does raises the mark, and while the delivery generates it is an advance: the residue rises by 1, or, at the
divider, falls to 0 and makes one pulse. The pulse joins the queue of a busy output, is emitted at once by a READY one,
and is dropped at a queue of 255, which sets PULSES_DROPPED in the current record. The end of a high phase brings the
low phase; the end of a low phase brings READY at an empty queue, and otherwise the emission of the head pulse, credited
to the current record where it bears its number, or else to the previous one, or to none; the credit of the last waiting
pulse of a final record changes DELIVERIES, and begins a write of it where one may begin. In another phase neither does
anything. A sample that is a forward step of a held meter is that notice at the holder's output, with the net count
after the step. READ_PULSE_OUTPUT returns the items of R91 and changes nothing (R87, R88, R89, R90, R91; the reply's
form is the model's, assumption 15). -/
def Obligations.PulsesMadeAndDriven : Prop :=
  (∀ (s : State) (p : Point) (m : Meter) (net : Int) (seq : Nat),
     let u := s.pou.get p
     u.tracked = some (seq, m) →
     (net ≤ (u.high : Int) → s.advance p m net = s)
     ∧ ((u.high : Int) < net →
       (u.generating = false → s.advance p m net = { s with pou := s.pou.set p { u with high := net.toNat } })
       ∧ (u.generating = true → u.residue + 1 < u.divider →
           s.advance p m net = { s with pou := s.pou.set p { u with high := net.toNat, residue := u.residue + 1 } })
       ∧ (u.generating = true → u.divider ≤ u.residue + 1 →
           (u.queue.length < 255 → u.phase ≠ .ready →
             s.advance p m net =
               { s with pou := s.pou.set p { u with high := net.toNat, residue := 0, queue := u.queue ++ [seq] } })
           ∧ (u.queue = [] → u.phase = .ready →
               ((s.advance p m net).pou.get p).queue = [] ∧ ((s.advance p m net).pou.get p).phase = .high
               ∧ ((s.advance p m net).pou.get p).residue = 0
               ∧ ∀ r, (s.point p).current = some r → r.seq = seq →
                   ((s.advance p m net).point p).current = some { r with pulses := r.pulses + 1 })
           ∧ (255 ≤ u.queue.length →
               ((s.advance p m net).pou.get p).queue = u.queue
               ∧ ∀ r, (s.point p).current = some r → ((s.advance p m net).point p).current =
                   some { r with flags := { r.flags with pulsesDropped := true } }))))
  ∧ ((∀ (s : State) (p : Point), s.runs = true →
     let u := s.pou.get p
     let now := max s.now (u.phaseSince + 1)
     (u.phase = .high → exec (.pulseHighEnd p) s =
       .next { s with now := now, pou := s.pou.set p { u with phase := .low, phaseSince := now } })
     ∧ (u.phase = .low → u.queue = [] → exec (.pulseLowEnd p) s =
       .next { s with now := now, pou := s.pou.set p { u with phase := .ready, phaseSince := now } })
     ∧ (∀ (tag : Nat) (rest : List Nat), u.phase = .low → u.queue = tag :: rest →
         let d := s.point p
         let emitted : State := { s with
           now := now, pou := s.pou.set p { u with phase := .high, phaseSince := now, queue := rest } }
         let credited (d : PointData) : State := { emitted with points := s.points.set p d }
         let bears (x : Option DeliveryRecord) : Prop := ∃ r ∈ x, r.seq = tag
         (∀ r, d.current = some r → r.seq = tag →
           let t := credited { d with current := some { r with pulses := r.pulses + 1 } }
           (tag ∉ rest → r.final = true → exec (.pulseLowEnd p) s = .next t.deliveriesChanged)
           ∧ (tag ∈ rest ∨ (r.final = false ∧ ¬ bears d.previous) → exec (.pulseLowEnd p) s = .next t))
         ∧ (∀ r, ¬ bears d.current → d.previous = some r → r.seq = tag →
           let t := credited { d with previous := some { r with pulses := r.pulses + 1 } }
           (tag ∉ rest → r.final = true → exec (.pulseLowEnd p) s = .next t.deliveriesChanged)
           ∧ (tag ∈ rest ∨ r.final = false → exec (.pulseLowEnd p) s = .next t))
         ∧ (¬ bears d.current → ¬ bears d.previous → exec (.pulseLowEnd p) s = .next emitted))
     ∧ (u.phase ≠ .high → exec (.pulseHighEnd p) s = .next s)
     ∧ (u.phase ≠ .low → exec (.pulseLowEnd p) s = .next s))
   ∧ (∀ (s : State) (m : Meter) (r x : Bool × Bool) (p : Point), s.runs = true → s.decoding m = true →
     (s.channel m).reference = some r → classify r x = .forward → (s.channel m).holder = some p →
     let u := s.advance p m ((s.channel m).counter + 1 - (s.channel m).snapshot).toInt
     ∃ t, exec (.pulserSample m x.1 x.2) s = .next t ∧ t.pou.get p = u.pou.get p ∧ t.now = s.now
       ∧ (t.point p).current.map (fun q => (q.pulses, q.flags)) = (u.point p).current.map (fun q => (q.pulses, q.flags)))
   ∧ ∀ (s : State) (n : Nat), s.takes (.readPulseOutput n) = true →
       (∀ p : Point, Point.ofNumber n = some p →
         let u := s.pou.get p
         exec (.readPulseOutput n) s = .next (s.replies 0x1C (u8 0
           ++ (match u.tracked with | none => [0, 0, 0, 0] | some (seq, m) => u8 1 ++ u16 seq ++ u8 m.number)
           ++ flagBytes u.vapour ++ u16 u.divider ++ flagBytes u.generating ++ u32 u.high ++ u16 u.residue
           ++ u8 u.queue.length ++ u8 (tagCounts u.queue).length
           ++ (tagCounts u.queue).flatMap (fun x => u16 x.1 ++ u8 x.2)
           ++ u8 (match u.phase with | .ready => 1 | .high => 2 | .low => 3))))
       ∧ (Point.ofNumber n = none → exec (.readPulseOutput n) s = .next (s.replies 0x1C [3, 3])))

/-! ## Totals and the retained memory (chapter 6) -/

/-- A finalization whose number is not the point's mark adds its volume to one meter total and one grade total and its
amount to one grade total, adds 1 to one delivery count, and sets the mark; a volume of 0 sets the mark alone, and a
second addition of the same finalization changes nothing. READ_TOTALS returns the totalizers and marks as they stand in
the region (R93, R94, R95; the order of the reply is the model's, assumption 15). -/
def Obligations.TotalsAddOnce : Prop :=
  (∀ (t : Totals) (x : Addition),
    (t.add x).add x = t.add x
    ∧ (t.marks.get x.point = some x.seq → t.add x = t)
    ∧ (t.marks.get x.point ≠ some x.seq →
      (x.volume = 0 → t.add x = { t with marks := t.marks.set x.point (some x.seq) })
      ∧ (x.volume ≠ 0 →
        (t.add x).marks = t.marks.set x.point (some x.seq)
        ∧ (∀ m : Meter, (t.add x).meterVolume.get m =
            (if m = x.meter then (t.meterVolume.get m + x.volume) % 10 ^ 12 else t.meterVolume.get m)
          ∧ (t.add x).meterCount.get m =
            (if m = x.meter then (t.meterCount.get m + 1) % 10 ^ 9 else t.meterCount.get m))
        ∧ ∀ g : Grade, (t.add x).gradeVolume.get g =
            (if g = x.grade then (t.gradeVolume.get g + x.volume) % 10 ^ 12 else t.gradeVolume.get g)
          ∧ (t.add x).gradeAmount.get g =
            (if g = x.grade then (t.gradeAmount.get g + x.amount) % 10 ^ 12 else t.gradeAmount.get g))))
  ∧ ∀ s : State, s.takes .readTotals = true →
      let t := s.rtm.totals.current.content
      exec .readTotals s = .next (s.replies 0x20 (u8 0 ++ t.meterVolume.toList.flatMap u64
        ++ t.meterCount.toList.flatMap u32 ++ t.gradeVolume.toList.flatMap u64 ++ t.gradeAmount.toList.flatMap u64
        ++ t.marks.toList.flatMap fun k => match k with | none => [0, 0, 0] | some n => u8 1 ++ u16 n))

/-- At every step the totals in both copies and in flight keep the law that the grade volume totals and the meter volume
totals sum to the same modulo 10^12, each below its modulus (R93). -/
def Obligations.TotalsLawKept : Prop :=
  ∀ s t : State, s.rtm.totalsLawful = true → step s = .next t → t.rtm.totalsLawful = true

/-- The end of a write makes the copy that was written the current one: the content in flight, the next count, a check
value that matches; a held change of CONFIG begins a further write with the content as it stands, and a waiting reply
counts the end. When a write of DELIVERIES ends, the TOTALS write of the first final record it held begins, and the
addition is not in the current copy before that write's own end. The end of a write that is not in flight is no event
(R94, R96, R97; the count of ends by assumption 18). -/
def Obligations.WriteEndsSealTheCopy : Prop :=
  (∀ (s : State) (content : ConfigImage), s.powered = true → s.rtm.config.inFlight = some content →
    ∃ t, exec (.retainedWriteEnd .config) s = .next t
      ∧ t.rtm.config.current.content = content ∧ t.rtm.config.current.sound = true
      ∧ t.rtm.config.current.count = s.rtm.config.current.count + 1
      ∧ t.rtm.config.inFlight = (if s.rtm.config.held then some s.configImage else none) ∧ t.rtm.config.held = false
      ∧ (∀ kind reply, s.hlp.hand = some (.waiting kind reply 1 0) → t.hlp.hand = some (.replying kind reply))
      ∧ (∀ kind reply, s.hlp.hand = some (.waiting kind reply 2 0) → t.hlp.hand = some (.waiting kind reply 1 0))
      ∧ t.rtm.totals = s.rtm.totals ∧ t.rtm.deliveries = s.rtm.deliveries
      ∧ { t with hlp := s.hlp, rtm := s.rtm } = s)
  ∧ (∀ (s : State) (content : DeliveriesImage) (x : Addition) (rest : List Addition), s.powered = true →
    s.rtm.deliveries.inFlight = some content → s.rtm.totals.inFlight = none → s.rtm.owed = [] →
    s.rtm.carried = x :: rest →
    ∃ t, exec (.retainedWriteEnd .deliveries) s = .next t ∧ t.rtm.deliveries.current.content = content
      ∧ t.rtm.deliveries.current.sound = true ∧ t.rtm.deliveries.inFlight = none ∧ t.rtm.owed = rest
      ∧ t.rtm.totals.inFlight = some (s.totals.add x) ∧ t.totals = s.totals ∧ t.rtm.config = s.rtm.config
      ∧ { t with hlp := s.hlp, rtm := s.rtm } = s)
  ∧ (∀ (s : State) (content : Totals), s.powered = true → s.rtm.totals.inFlight = some content →
    ∃ t, exec (.retainedWriteEnd .totals) s = .next t ∧ t.totals = content
      ∧ t.rtm.totals.current.sound = true ∧ t.rtm.totals.current.count = s.rtm.totals.current.count + 1
      ∧ (s.rtm.owed = [] → t.rtm.totals.inFlight = none) ∧ t.rtm.config = s.rtm.config
      ∧ { t with hlp := s.hlp, rtm := s.rtm } = s)
  ∧ ∀ (s : State) (region : RegionName), s.rtm.writing region = false → exec (.retainedWriteEnd region) s = .next s

/-- A fall of the supply stops the part with its blocks as they stand, loses the request in hand and the buffer, and
abandons the write of each region: an untouched copy keeps its content, a completed one is the new current copy, and a
torn one is unsound beside the current copy, which stays as it was. A part without supply takes no command but a start: one
that moves an input moves that input alone, and every other one changes nothing (R98, R183; that the fates of the copies
are operands, and that inputs move in a part without supply, is assumption 5). -/
def Obligations.SupplyFallAbandonsWrites : Prop :=
  (∀ (s : State) (f : WriteFates), s.powered = true → ∃ t, exec (.supplyFallOrReset f) s = .next t
    ∧ t.powered = false ∧ t.hlp.hand = none ∧ t.hlp.buffer = []
    ∧ { t with powered := s.powered, hlp := s.hlp, rtm := s.rtm } = s
    ∧ s.rtm.config.abandonedTo t.rtm.config f.config ∧ s.rtm.totals.abandonedTo t.rtm.totals f.totals
    ∧ s.rtm.deliveries.abandonedTo t.rtm.deliveries f.deliveries
    ∧ t.rtm.unwritten = [] ∧ t.rtm.carried = [] ∧ t.rtm.owed = [] ∧ t.rtm.idle = true)
  ∧ ∀ (s : State) (i : Instr), s.powered = false →
    match i with
    | .powerOnStart _ _ => ∃ t, exec i s = .next t ∧ t.powered = true
    | .nozzleLift p k together => exec i s = .next (match together with
        | none => s.moveNozzle p k true
        | some j => (s.moveNozzle p k true).moveNozzle p.other j true)
    | .nozzleHang p k => exec i s = .next (s.moveNozzle p k false)
    | .valveSenseChange m .main x =>
        exec i s = .next { s with pins := { s.pins with mainSense := s.pins.mainSense.set m x } }
    | .valveSenseChange m .slow x =>
        exec i s = .next { s with pins := { s.pins with slowSense := s.pins.slowSense.set m x } }
    | .emergencyStopAssert => exec i s = .next { s with pins := { s.pins with emergency := true } }
    | .emergencyStopRelease => exec i s = .next { s with pins := { s.pins with emergency := false } }
    | .tamperAssert => exec i s = .next { s with pins := { s.pins with tamper := true } }
    | .tamperRelease => exec i s = .next { s with pins := { s.pins with tamper := false } }
    | .senseInputChange c mv =>
        exec i s = .next { s with pins := { s.pins with millivolts := s.pins.millivolts.setSc c mv } }
    | _ => exec i s = .next s

/-- Every power-on start, of a part without supply or of one that runs (assumption 6), leaves the state of R17, R83,
R92, R127, R153, R181, R195 and R196, keeping the inputs and the waiting commands. It takes each region from the later
of two sound copies, from copy 1 at equal counts, from the sound one of two, and DEFAULTED from two unsound ones; it
hands on the validities, the blocks take the settings that CONFIG was found with, and both copies of TOTALS and
DELIVERIES hold what was found. A record of an interrupted delivery is finalized from its retained figures, its cause
POWER_LOSS where it had none, as a write of DELIVERIES with its addition waiting behind it; a final record whose number
is not the point's mark is given its addition again (R100, R102, R103, R104; which copy R100 leaves to be taken, and
what both copies hold after a start, are assumption 8, and that the DELIVERY_FINISHED reports of a start carry its own
day 0 and second 0 is assumption 51). -/
def Obligations.PowerOnStarts : Prop :=
  (∀ (s : State) (cause : PowerOn) (spoiled : Spoiled),
    let found := s.rtm.spoil spoiled
    let c := (found.config.judge defaultConfig).1
    let d := (found.deliveries.judge (.fill defaultSaved)).1
    let vc := (found.config.judge defaultConfig).2.2
    let vt := (found.totals.judge (defaultTotals (.fill none))).2.2
    let vd := (found.deliveries.judge (.fill defaultSaved)).2.2
    let totals := startTotals (found.totals.judge (defaultTotals (.fill none))).1 vt d vd
    ∃ t, exec (.powerOnStart cause spoiled) s = .next t
    ∧ t.startedAs (match cause with | .standby => .standby | .resetInput => .resetInput)
    ∧ t.now = s.now ∧ t.pins = s.pins ∧ t.pending = s.pending
    ∧ t.rtm.configValidity = vc ∧ t.rtm.totalsValidity = vt ∧ t.rtm.deliveriesValidity = vd
    ∧ (∀ m : Meter, (t.channel m).record = c.meters.get m) ∧ t.dle.rounding = c.rounding ∧ t.dle.hoses = c.hoses
    ∧ t.dle.timings = c.timings ∧ t.display = c.display ∧ t.crg.settings = c.gate ∧ t.psc.steps = c.steps
    ∧ t.psc.schedule = c.schedule ∧ t.psc.spacing = c.spacing ∧ t.psc.intended = c.intended ∧ t.hlp.modes = c.modes
    ∧ t.hlp.policy = c.policy ∧ t.hlp.silenceTime = c.silenceTime
    ∧ t.rtm.totals.copy1.content = totals ∧ t.rtm.totals.copy2.content = totals ∧ t.totals = totals
    ∧ t.rtm.deliveries.copy1.content = d ∧ t.rtm.deliveries.copy2.content = d
    ∧ ∀ (p : Point) (r : DeliveryRecord), vd ≠ .defaulted → (d.get p).current = some r →
      (r.final = false → (d.get p).st ≠ .settled →
        let q := { r.finalized (if (d.get p).figuresAt.isSome then r.net else 0) r.reverse
            ((d.get p).figuresAt.getD r.start) with cause := some (r.cause.getD .powerLoss) }
        let q := { q with flags := { q.flags with recovered := true } }
        (q.volume ≠ 0 → (t.point p).st = .finished ∧ (t.point p).current = some q)
        ∧ (q.volume = 0 → (t.point p).st = .closed ∧ (t.point p).current = none ∧ (t.point p).previous = some q)
        ∧ ⟨.point p, ⟨0, 0⟩, .deliveryFinished q⟩ ∈ t.hlp.reports
        ∧ (vt ≠ .older → (∃ image, t.rtm.deliveries.inFlight = some image ∧ (image.get p).current = some q)
            ∧ (totals.marks.get p ≠ some r.seq → additionOf p q ∈ t.rtm.carried)))
      ∧ (r.final = false → (d.get p).st = .settled → (t.point p).st = .closed ∧ (t.point p).current = none)
      ∧ (r.final = true → vt = .good → totals.marks.get p ≠ some r.seq →
        ⟨.point p, ⟨0, 0⟩, .deliveryFinished r⟩ ∈ t.hlp.reports
        ∧ (additionOf p r ∈ t.rtm.owed ++ t.rtm.carried
            ∨ t.rtm.totals.inFlight = some (totals.add (additionOf p r)))))
  ∧ ∀ (α : Type) (r : Region α) (default : α),
    (r.copy1.sound = true → r.copy2.sound = true →
      let above := (r.copy2.count - r.copy1.count).toNat
      (1 ≤ above → above < 2 ^ 31 → r.judge default = (r.copy2.content, r.copy2.count, .good))
      ∧ (2 ^ 31 < above ∨ above = 0 → r.judge default = (r.copy1.content, r.copy1.count, .good)))
    ∧ (r.copy1.sound = true → r.copy2.sound = false → r.judge default =
      (r.copy1.content, r.copy1.count, if r.copy2.count = r.copy1.count + 1 then .older else .good))
    ∧ (r.copy1.sound = false → r.copy2.sound = true → r.judge default =
      (r.copy2.content, r.copy2.count, if r.copy1.count = r.copy2.count + 1 then .older else .good))
    ∧ (r.copy1.sound = false → r.copy2.sound = false → (r.judge default).1 = default
      ∧ (r.judge default).2.2 = .defaulted)

/-- RESTART taken discards the waiting pulses (assumption 16). Without a delivery, with no write in flight and with
everything of the points retained, it answers OK at once; with a write in flight the reply waits; and where a record
holds what no write carries yet, a write of it begins and the reply waits. A delivery that holds its meter is finalized
first with its figures, with cause HOST_RESTART from STARTING, FUELLING and SLOWING and its own cause from STOPPING, and
a drain whose last sale it was completes. A point in STARTING that waits for its meter has its record discarded and is
CLOSED on the newest generation (that it is CLOSED at once is assumption 16). The last byte of the OK reply brings a
warm start (R38, R64, R81, R92, R105, R169, R194). -/
def Obligations.RestartStartsWarm : Prop :=
  (∀ s : State, s.runs = true → s.takes .restart = true →
    (∀ p : Point, s.heldBy p = none ∧ (s.point p).st ≠ .starting) →
    let dropped : State := { s with pou := s.pou.map fun (u : Pou) => { u with queue := [] } }
    let carried := s.rtm.deliveries.inFlight.getD s.rtm.deliveries.current.content
    (s.rtm.idle = true → s.deliveriesImage = carried → exec .restart s = .next (dropped.replies 0x41 [0]))
    ∧ (s.rtm.idle = false → s.deliveriesImage = carried → exec .restart s = .next
        { dropped with hlp := { s.hlp.heard s.now with hand := some .restarting } })
    ∧ (s.rtm.idle = true → s.deliveriesImage ≠ carried → exec .restart s = .next
        { dropped with
          hlp := { s.hlp.heard s.now with hand := some .restarting }
          rtm := { s.rtm with deliveries := { s.rtm.deliveries with inFlight := some s.deliveriesImage } } }))
  ∧ (∀ (s : State) (p : Point) (m : Meter) (r : DeliveryRecord), s.runs = true → s.takes .restart = true →
    s.holdsLawful = true → (s.point p).st.delivering = true → s.heldBy p = some m → (s.point p).current = some r →
    ∃ t q, exec .restart s = .next t ∧ t.hlp.hand = some .restarting ∧ (t.point p).st = .finished
      ∧ (t.point p).current = some q ∧ q.final = true
      ∧ q.cause = (if (s.point p).st = .stopping then r.cause else some .hostRestart)
      ∧ (t.channel m).mainOpen = false ∧ (t.channel m).slowOpen = false ∧ (t.side p).zero = .none
      ∧ q.volume = legalVolume (countOf (netCount (s.channel m).counter (s.channel m).snapshot)) r.q
      ∧ t.dle.holders.get m = none ∧ additionOf p q ∈ t.rtm.unwritten ++ t.rtm.carried
      ∧ (s.psc.power = .draining → (s.point p.other).st ≠ .authorized → t.psc.power = .night)
      ∧ t.pins = s.pins ∧ t.display = s.display ∧ t.now = s.now
      ∧ ∀ j : Meter, (t.channel j).counter = (s.channel j).counter)
  ∧ (∀ (s : State) (p : Point), s.runs = true → s.takes .restart = true → (s.point p).st = .starting →
    s.heldBy p = none → ∃ t, exec .restart s = .next t ∧ (t.point p).st = .closed ∧ (t.point p).auth = none
      ∧ (t.point p).current = none ∧ (t.point p).generation = s.ptu.newest
      ∧ (t.point p).lastSeq = ((s.point p).lastSeq + 65535) % 65536 ∧ (∀ m : Meter, t.dle.waiters.get m ≠ some p)
      ∧ t.pins = s.pins ∧ t.display = s.display ∧ t.now = s.now)
  ∧ (∀ s : State, s.powered = true → s.hlp.hand = some (.replying 0x41 [0]) →
      ∃ t, exec .replySent s = .next t ∧ t.startedAs .restart ∧ t.pins = s.pins ∧ t.pending = s.pending)

/-! ## Settings -/

/-- A settings request with fields in range replaces its own settings and nothing else, the write of CONFIG and the
waiting OK reply apart: LOAD_DISPLAY, LOAD_GATE, LOAD_SENSE, which starts the comparator's timer afresh and keeps its
condition, LOAD_SEQUENCE outside WAKING, SET_START_SPACING where it lets no head be granted, SET_SCHEDULE,
SET_REPORT_MODES, and SET_HOST_SILENCE with its timer. SET_CLOCK sets the day clock and its mark and is answered at once
(R107, R151, R156, R159, R176, R178, R179, R190, R191; LOAD_SENSE by assumption 28, the presence bits and the wake
enables of SET_SCHEDULE by assumption 15). -/
def Obligations.SettingsTaken : Prop :=
  (∀ s : State, s.runs = true →
     (∀ f : DisplayFields, s.takes (.loadDisplay f) = true →
       (f.amountDecimals ≤ 3 → f.volumeDecimals ≤ 3 → f.priceDecimals ≤ 3 → f.holdTime ≤ 60 →
         exec (.loadDisplay f) s = .next (State.configChanged { s with display :=
           ⟨f.amountDecimals, f.volumeDecimals, f.priceDecimals, f.holdTime⟩ } 0x24 [0]))
       ∧ (3 < f.amountDecimals ∨ 3 < f.volumeDecimals ∨ 3 < f.priceDecimals ∨ 60 < f.holdTime →
         exec (.loadDisplay f) s = .next (s.replies 0x24 [3, 3])))
     ∧ (∀ (f : GateFields) (echo : Bool), s.takes (.loadGate f) = true → f.echo = (if echo then 1 else 0) →
       1 ≤ f.holdThreshold → f.holdThreshold ≤ 8 → 1 ≤ f.errorThreshold → f.errorThreshold ≤ 255 →
       500 ≤ f.bootTime → f.bootTime ≤ 10000 →
       exec (.loadGate f) s = .next (State.configChanged { s with crg := { s.crg with settings :=
         ⟨f.holdThreshold, f.errorThreshold, f.bootTime, echo⟩ } } 0x2D [0]))
     ∧ (∀ (n : Nat) (f : SenseFields) (c : Comparator), s.takes (.loadSense n f) = true → Comparator.ofNumber n = some c →
       (f.kf ≤ f.kr → f.kr ≤ 15 → f.failMs ≤ 2000 → f.recoverMs ≤ 10000 →
         let mv := s.pins.millivolts.sc c
         let timing := if s.good c then decide (mv < 64 * (f.kf + 4)) else decide (64 * (f.kr + 4) ≤ mv)
         let sensor : Sensor := ⟨s.good c, ⟨f.kf, f.kr, f.failMs, f.recoverMs⟩, if timing then some s.now else none⟩
         exec (.loadSense n f) s = .next (State.configChanged
           { s with psc := { s.psc with sensors := s.psc.sensors.setSc c sensor } } 0x30 [0]))
       ∧ (f.kr < f.kf → exec (.loadSense n f) s = .next (s.replies 0x30 [3, 3])))
     ∧ (∀ (l : List StepFields) (steps : List PowerStep), s.takes (.loadSequence l) = true →
       stepTableOf l = some steps →
       exec (.loadSequence l) s = .next (
         if s.psc.power = .waking then s.replies 0x31 [3, 4]
         else State.configChanged { s with psc := { s.psc with steps := steps } } 0x31 [0]))
     ∧ (∀ n : Nat, s.takes (.setStartSpacing n) = true →
       (n ≤ 10000 → s.psc.startQueue = [] ∨ s.now < s.psc.lastGrant + n →
         exec (.setStartSpacing n) s =
           .next (State.configChanged { s with psc := { s.psc with spacing := n } } 0x35 [0]))
       ∧ (10000 < n → exec (.setStartSpacing n) s = .next (s.replies 0x35 [3, 3]))))
  ∧ (∀ s : State, s.runs = true →
     (∀ day sec : Nat, s.takes (.setClock day sec) = true →
       (day ≤ 65535 → sec ≤ 86399 → exec (.setClock day sec) s =
         .next (State.replies { s with psc := { s.psc with clock := ⟨day, sec⟩, clockSet := true } } 0x36 [0]))
       ∧ (86399 < sec → exec (.setClock day sec) s = .next (s.replies 0x36 [3, 3])))
     ∧ (∀ (f : ScheduleFields), s.takes (.setSchedule f) = true →
       (∀ t, scheduleOf f = some t → exec (.setSchedule f) s =
         .next (State.configChanged { s with psc := { s.psc with schedule := t } } 0x37 [0]))
       ∧ (f.presence = 3 → f.night = f.wake → exec (.setSchedule f) s = .next (s.replies 0x37 [3, 3])))
     ∧ (∀ (n : Nat) (l : List Nat) (policy : Policy) (modes : ReportModes), s.takes (.setReportModes n l) = true →
       policyOf n = some policy → reportModesOf l = some modes → exec (.setReportModes n l) s =
         .next (State.configChanged { s with hlp := { s.hlp with policy := policy, modes := modes } } 0x3D [0]))
     ∧ (∀ n : Nat, s.takes (.setHostSilence n) = true →
       (n ≤ 600 → exec (.setHostSilence n) s = .next (State.configChanged { s with hlp := { s.hlp with
         silenceTime := n, silence := if n = 0 then .off else .running (s.now + 1000 * n) } } 0x3E [0]))
       ∧ (600 < n → exec (.setHostSilence n) s = .next (s.replies 0x3E [3, 3]))))

/-! ## Reading -/

/-- READ_DISPLAY, READ_GATE, READ_SEQUENCE, READ_POWER, IDENTIFY and READ_STATUS are answered OK with the items of their
rules in that order, and change nothing but the request in hand. READ_STATUS tells the silence timer as the request's own
good frame has left it, where the command stands for that frame (assumption 3) (R126, R152, R159, R180, R191, R192, R193;
the forms that chapter 11 leaves open are the model's, assumption 15). -/
def Obligations.ReadsAnswer : Prop :=
  ∀ s : State,
    (∀ (n : Nat) (x : Side), s.takes (.readDisplay n) = true → Point.ofNumber n = some x →
      let d := s.side x
      exec (.readDisplay n) s = .next (s.replies 0x26 (u8 0 ++ flagBytes (s.refreshing x)
        ++ d.driven.flatMap (fun y => u8 y.code) ++ d.counts.flatMap u8 ++ u32 (positionSet d.faulted)
        ++ flagBytes d.sideFault ++ u8 (positionSet (Grade.all.map (s.windowCloses x))) ++ u32 d.shown.volume
        ++ u32 d.shown.amount ++ u8 (if d.shown.final then 1 else 2) ++ d.operationBytes ++ d.hold.bytes s.now
        ++ u8 (if s.heaterDemand x then 1 else 2) ++ s.display.bytes)))
    ∧ (s.takes .readGate = true →
      let c := s.crg
      exec .readGate s = .next (s.replies 0x2E (u8 0 ++ u8 c.st.number
        ++ u8 (match c.cause with | none => 0 | some k => k.number) ++ u16 c.counter
        ++ (match c.session with | none => [0, 0, 0] | some n => u8 1 ++ u16 n)
        ++ optionBytes 12 Identity.bytes c.identity ++ flagBytes c.readerToggle ++ flagBytes c.gateToggle
        ++ listBytes (fun e => u16 e.session) c.inbound ++ listBytes (fun e => u16 e.tag) c.outbound ++ u8 c.miss
        ++ u8 c.errors ++ u8 c.attempts ++ listBytes (fun t => u32 (min (s.now - t) 0xFFFFFFFE)) c.losses
        ++ u16 c.flushed ++ u8 (match c.run with | none => 0 | some r => r.1.number)
        ++ u32 (match c.run with | none => 0xFFFFFFFF | some r => min (s.now - r.2) 0xFFFFFFFE)
        ++ flagBytes s.pins.tamper ++ flagBytes (s.good .readerSupply) ++ flagBytes c.loadOn
        ++ u8 c.settings.holdThreshold ++ u8 c.settings.errorThreshold ++ u16 c.settings.bootTime
        ++ flagBytes c.settings.echo)))
    ∧ (s.takes .readSequence = true →
      exec .readSequence s = .next (s.replies 0x32 (u8 0 ++ u8 s.psc.steps.length
        ++ s.psc.steps.flatMap PowerStep.bytes)))
    ∧ (s.takes .readPower = true →
      let c := s.psc
      exec .readPower s = .next (s.replies 0x38 (u8 0 ++ u8 c.power.number ++ u8 c.intended.number
        ++ flagBytes c.wakePending.isSome ++ u8 (match c.wakePending with | none => 0 | some k => k.number)
        ++ u8 (match c.cursor with | none => 0 | some k => k.step)
        ++ u8 (match c.cursor with | none => 0 | some k => k.phase.number)
        ++ u32 (match c.cursor with | none => 0xFFFFFFFF | some k => min (s.now - k.since) 0xFFFFFFFE) ++ u8 c.retries
        ++ optionBytes 8 StepFailure.bytes c.lastFailure
        ++ Load.all.flatMap (fun l => flagBytes (s.drive l) ++ flagBytes (s.output l) ++ flagBytes (s.heldOn l))
        ++ listBytes (fun l => u8 l.number) c.shutdown
        ++ Comparator.all.flatMap (fun k => flagBytes (s.good k) ++ (c.sensors.sc k).settings.bytes
            ++ u32 (match (c.sensors.sc k).since with | none => 0xFFFFFFFF | some t => min (s.now - t) 0xFFFFFFFE))
        ++ listBytes (fun m => u8 m.number) c.startQueue ++ u32 (min (s.now - c.lastGrant) 0xFFFFFFFE) ++ u16 c.spacing
        ++ u16 c.clock.day ++ u32 c.clock.sec ++ flagBytes c.clockSet ++ c.schedule.bytes)))
    ∧ (s.takes .identify = true →
      exec .identify s = .next (s.replies 0x3F ([0, 7, 0x4C, 0x65, 0x73, 0x74, 0x72, 0x61, 0x6D, 11, 0x4D, 0x6F, 0x64,
        0x72, 0x69, 0x6E, 0x20, 0x34, 0x31, 0x32, 0x30, 1, 0] ++ u8 s.hlp.startCause.number
        ++ u8 s.rtm.configValidity.number ++ u8 s.rtm.totalsValidity.number ++ u8 s.rtm.deliveriesValidity.number)))
    ∧ (s.takes .readStatus = true →
      let silence := if s.hlp.hand = none ∧ s.hlp.silenceTime ≠ 0 then
        SilenceTimer.running (s.now + 1000 * s.hlp.silenceTime) else s.hlp.silence
      exec .readStatus s = .next (s.replies 0x40 (u8 0 ++ u8 s.psc.power.number ++ u8 s.psc.intended.number
        ++ u8 (s.point .a).st.number ++ u16 (s.point .a).generation ++ u8 (s.point .b).st.number
        ++ u16 (s.point .b).generation ++ u8 s.crg.st.number
        ++ (match s.crg.session with | none => [0, 0, 0] | some n => u8 1 ++ u16 n)
        ++ Condition.all.flatMap (fun c => flagBytes (s.condition c)) ++ u16 s.hlp.frameErrors ++ u16 s.hlp.overruns
        ++ u8 s.hlp.reports.length ++ u8 s.hlp.lost ++ u8 s.hlp.policy.number ++ u16 s.hlp.silenceTime
        ++ u8 silence.number
        ++ u32 (match silence with | .running t => min (t - s.now) 0xFFFFFFFE | _ => 0xFFFFFFFF)
        ++ flagBytes (!s.hlp.reports.isEmpty || decide (s.hlp.lost ≠ 0)))))

/-! ## Displays (chapter 7) -/

/-- DISPLAY_TEST of side A, of B or of both is refused at the first of the four tests that fails, A's before B's, and
changes nothing then; accepted, it puts a fresh test of the host in flight at each side named and at no other. Each
refresh of a test drives all segments in its first three and blank in its last three, and lists the positions that
differ, all of them where the refresh is not judged; the sixth ends a test with its report, one that listed none passes
and clears every fault of the side, and a zero check that waited for it begins. An expired hold ends with its report and
takes nothing else; a side without a timing hold does nothing (R116, R119, R120, R123; that all segments are sensed as
FFh and blank as 00h is PRESUMED, assumption 14). -/
def Obligations.DisplayTestsAndHolds : Prop :=
  (∀ (s : State) (n : Nat) (l : List Side), s.runs = true → s.takes (.displayTest n) = true →
    let stops (x : Side) : Option (List Byte) :=
      if s.refreshing x = false then some [3, 4]
      else if (s.side x).hold ≠ .none ∨ (s.point x).st.delivering = true ∨ (s.point x).st = .finished
        ∨ (s.side x).test.isSome = true then some [2]
      else none
    let begun (d : Pair DduSide) (x : Side) : Pair DduSide :=
      d.set x { d.get x with test := some ⟨0, List.replicate 28 false, true, false⟩ }
    (n = 0 ∨ 3 < n → exec (.displayTest n) s = .next (s.replies 0x25 [3, 3]))
    ∧ ((n = 1 ∧ l = [.a]) ∨ (n = 2 ∧ l = [.b]) ∨ (n = 3 ∧ l = [.a, .b]) →
      (∀ reply, l.findSome? stops = some reply → exec (.displayTest n) s = .next (s.replies 0x25 reply))
      ∧ (l.findSome? stops = none → exec (.displayTest n) s =
        .next (State.replies { s with ddu := l.foldl begun s.ddu } 0x25 [1]))))
  ∧ (∀ (s : State) (x : Side) (sense : Option (List Byte)) (u : DisplayTest), s.runs = true → s.refreshing x = true →
    (s.side x).test = some u → u.listed.length = 28 →
    let symbol : Symbol := if u.done < 3 then .all else .blank
    let segments : Byte := if u.done < 3 then 0xFF else 0
    let wrong (i : Nat) : Bool := !s.good .displaySupply || (match sense with | none => true | some l => l[i]? ≠ some segments)
    ∃ t, exec (.refreshInstant x sense) s = .next t ∧ (t.side x).driven = List.replicate 28 symbol
      ∧ (u.done + 1 < 6 → ∃ v, (t.side x).test = some v ∧ v.done = u.done + 1 ∧ v.byHost = u.byHost
          ∧ v.bySequence = u.bySequence ∧ v.listed.length = 28
          ∧ ∀ (i : Nat) (f : Bool), u.listed[i]? = some f → v.listed[i]? = some (f || wrong i))
      ∧ (5 ≤ u.done → s.hlp.hasRoom = true →
          let listed := (List.range 28).countP fun i => decide (u.listed[i]? = some true) || wrong i
          ⟨.side x, s.psc.clock, .displayTestDone u.byHost u.bySequence (if listed = 0 then .passed else .failed) listed⟩
            ∈ t.hlp.reports)
      ∧ (5 ≤ u.done → u.bySequence = false → (t.side x).test = none
          ∧ (u.listed = List.replicate 28 false → (List.range 28).all (fun i => !wrong i) = true →
            (t.side x).sideFault = false ∧ (∀ c ∈ (t.side x).counts, c = 0) ∧ (∀ f ∈ (t.side x).faulted, f = false)
            ∧ ((s.side x).zero = .waiting → (t.side x).zero = .allOn 0))
          ∧ ((s.side x).zero = .waiting → (t.side x).zero = .allOn 0 ∨ (t.side x).zero = .none)))
  ∧ (∀ (s : State) (x : Side) (due : Nat), s.runs = true → (s.side x).hold = .timing due →
    (∃ t, exec (.displayHoldExpiry x) s = .next t ∧ (t.side x).hold = .none ∧ t.now = max s.now due
      ∧ (t.side x).shown = (s.side x).shown ∧ t.psc.power = s.psc.power ∧ t.pins = s.pins ∧ t.display = s.display
      ∧ ∀ m : Meter, (t.channel m).counter = (s.channel m).counter)
    ∧ ((s.side x).test = none → (s.side x).zero = .none → exec (.displayHoldExpiry x) s = .next (State.post
        { s with now := max s.now due, ddu := s.ddu.set x { s.side x with hold := .none } } (.side x)
        (.displayHoldEnd .expired))))
  ∧ ∀ (s : State) (x : Side), s.runs = true → (∀ due, (s.side x).hold ≠ .timing due) →
      exec (.displayHoldExpiry x) s = .next s

/-- A refresh instant comes every 100 ms. At a side that is not refreshing, and whose point holds no meter, nothing else
happens. Where a point holds its meter from STARTING to STOPPING its record takes the figures of the net count. A judged
refresh without a test moves each mismatch count by what was driven and what came back, keeps the count of a faulted
position, and faults a position at the third; an unjudged one moves no count. A position of a figure window that is
faulted so sets the side fault where it is clear: a holder in STARTING, FUELLING or SLOWING stops with cause
DISPLAY_FAULT, and a point that waits for its meter is refused. A position of a price window closes the grade shown
there: a point that waits with that grade is refused, and a delivery that holds its meter goes on. Either, at a FINISHED
point, sets DISPLAY_FAULT_AT_FINISH in its record, and at a point that sells or is free it sets it in none. Without a
test the figure windows are driven with the shown figures, or with the pattern of the zero check's phase, and each price
window with the price of its grade in the point's generation, or with dashes where the point is CLOSED or the grade is
closed; a figure is written right-aligned with its leading zeros blank. The third refresh of the zero check's first
phase and the second of its second phase decide it by the figure windows: good ones lead on to the second phase and to
the pass, and a bad one stops a holder in STARTING with cause DISPLAY_FAULT; a bad refresh that does not decide a phase
leads on as a good one, unless its side fault ends the check (R22, R59, R64, R108, R109, R110, R112, R113, R114, R115,
R117; the segments of a symbol are PRESUMED, assumption 14, and that no refresh writes the record of a point that waits
is assumption 49). -/
def Obligations.RefreshJudges : Prop :=
  (∀ (w p figure i : Nat), i < w →
    let value := min figure (10 ^ w - 1)
    let place := w - 1 - i
    (figureSymbols w p figure)[i]? = some (if p < place ∧ value < 10 ^ place then .blank
      else .digit (value / 10 ^ place % 10) (decide (place = p ∧ 0 < p))))
  ∧ (∀ (s : State) (x : Side) (sense : Option (List Byte)), s.runs = true → s.refreshing x = true →
    (s.side x).test = none →
    let figures (volume amount : Nat) := figureSymbols 6 s.display.amountDecimals amount
      ++ figureSymbols 6 s.display.volumeDecimals volume
    let window (k : Position) : List Symbol :=
      let g := (s.hose x k).grade
      let price := (s.ptu.entry (s.point x).generation g).price (s.point x).viewLevel
      if (s.point x).st = .closed ∨ price = 0 ∨ (s.side x).sideFault = true ∨ s.windowCloses x g = true then
        List.replicate 4 .dash
      else figureSymbols 4 s.display.priceDecimals price
    ∃ t, exec (.refreshInstant x sense) s = .next t
      ∧ (t.side x).driven = (match (s.side x).zero with
          | .allOn _ => List.replicate 12 .all
          | .zeros _ => figures 0 0
          | .waiting => figures (t.side x).shown.volume (t.side x).shown.amount
          | .none => figures (t.side x).shown.volume (t.side x).shown.amount)
          ++ window .p1 ++ window .p2 ++ window .p3 ++ window .p4
      ∧ (let wrong (i : Nat) : Bool := !s.good .displaySupply || (match sense with
          | none => true
          | some l => l[i]? ≠ (t.side x).driven[i]?.map (·.segments))
        let bad := (List.range 12).any wrong
        (bad = false →
          (∀ n : Nat, (s.side x).zero = .allOn n →
            (t.side x).zero = if n + 1 < 3 then .allOn (n + 1) else .zeros 0)
          ∧ (∀ n : Nat, (s.side x).zero = .zeros n →
            if n + 1 < 2 then (t.side x).zero = .zeros (n + 1)
            else (t.side x).zero = .none ∧ (t.point x).zeroPassed = true))
        ∧ (∀ (m : Meter) (r : DeliveryRecord), bad = true → (s.side x).zero = .allOn 2 ∨ (s.side x).zero = .zeros 1 →
          (s.point x).st = .starting → s.heldBy x = some m → (s.point x).current = some r →
          (t.side x).zero = .none ∧ (t.point x).st = .stopping
          ∧ ∃ q, (t.point x).current = some q ∧ q.cause = some .displayFault ∧ q.seq = r.seq)
        ∧ (bad = true → (t.side x).sideFault = (s.side x).sideFault →
          (∀ n : Nat, (s.side x).zero = .allOn n → n + 1 < 3 → (t.side x).zero = .allOn (n + 1))
          ∧ ∀ n : Nat, (s.side x).zero = .zeros n → n + 1 < 2 → (t.side x).zero = .zeros (n + 1))))
  ∧ (∀ (s : State) (x : Side) (sense : Option (List Byte)), s.runs = true → s.refreshing x = true →
    s.good .displaySupply = true → (s.side x).test = none → (s.side x).counts.length = 28 →
    (s.side x).faulted.length = 28 →
    ∃ t, exec (.refreshInstant x sense) s = .next t ∧ ∀ (i c : Nat) (y : Symbol), (s.side x).counts[i]? = some c →
      (s.side x).faulted[i]? = some false → (t.side x).driven[i]? = some y →
      2 ≤ c → (match sense with | none => true | some l => decide (l[i]? ≠ some y.segments)) = true →
      let d := s.point x
      let g := (s.hose x (if i < 16 then .p1 else if i < 20 then .p2 else if i < 24 then .p3 else .p4)).grade
      (i < 12 → (t.side x).sideFault = true
        ∧ ((s.side x).sideFault = false → (d.st = .starting → s.heldBy x = none → s.waiterReturned t x)
          ∧ ∀ (m : Meter) (r : DeliveryRecord), s.heldBy x = some m → d.current = some r →
            d.st = .starting ∨ d.st = .fuelling ∨ d.st = .slowing →
            (t.point x).st = .stopping ∧ (t.side x).zero = .none ∧ (t.channel m).mainOpen = false
            ∧ (t.channel m).slowOpen = false
            ∧ ∃ q, (t.point x).current = some q ∧ q.cause = some .displayFault ∧ q.seq = r.seq))
      ∧ (12 ≤ i → t.windowCloses x g = true
        ∧ (d.st = .starting → s.heldBy x = none → (s.side x).zero = .none →
          d.current.any (fun r => decide (r.grade = g)) = true → s.displayCloses x g = false → s.waiterReturned t x)
        ∧ ((t.side x).sideFault = (s.side x).sideFault → (s.side x).zero = .none → (s.heldBy x).isSome = true →
          (t.point x).st = d.st ∧ t.dle.holders = s.dle.holders))
      ∧ (∀ r, d.st = .finished → d.current = some r →
        (t.point x).current = some { r with flags := { r.flags with displayFault := true } })
      ∧ (∀ r, d.st ≠ .finished → d.st ≠ .starting → d.current = some r →
        ∃ q, (t.point x).current = some q ∧ q.flags = r.flags))
  ∧ ∀ (s : State) (x : Side) (sense : Option (List Byte)), s.runs = true →
    (∃ t, exec (.refreshInstant x sense) s = .next t ∧ t.now = max s.now (s.side x).refreshDue
      ∧ (t.side x).refreshDue = (s.side x).refreshDue + 100 ∧ t.pins = s.pins ∧ t.display = s.display
      ∧ (∀ m : Meter, (t.channel m).counter = (s.channel m).counter)
      ∧ (∀ (m : Meter) (r : DeliveryRecord), s.heldBy x = some m → (s.point x).current = some r →
          (s.point x).st.delivering = true →
          ∃ q, (t.point x).current = some q ∧ q.net = (s.channel m).net ∧ q.reverse = (s.channel m).reverse
            ∧ q.volume = legalVolume (countOf (s.channel m).net) r.q
            ∧ q.amount = amountOf r.rounding r.price q.volume ∧ q.final = r.final)
      ∧ (s.refreshing x = true → s.good .displaySupply = true → (s.side x).test = none →
          (s.side x).counts.length = 28 → (s.side x).faulted.length = 28 → (t.side x).driven.length = 28 ∧
          ∀ (i c : Nat) (f : Bool) (y : Symbol), (s.side x).counts[i]? = some c → (s.side x).faulted[i]? = some f →
            (t.side x).driven[i]? = some y →
            let wrong := match sense with | none => true | some l => decide (l[i]? ≠ some y.segments)
            let count := if f then c else if wrong then c + 1 else 0
            (t.side x).counts[i]? = some count ∧ (t.side x).faulted[i]? = some (f || decide (3 ≤ count)))
      ∧ (s.refreshing x = true → s.good .displaySupply = false → (s.side x).test = none →
          (t.side x).counts = (s.side x).counts ∧ (t.side x).faulted = (s.side x).faulted))
    ∧ (s.refreshing x = false → s.heldBy x = none → exec (.refreshInstant x sense) s = .next
        { s with now := max s.now (s.side x).refreshDue
                 ddu := s.ddu.set x { s.side x with refreshDue := (s.side x).refreshDue + 100 } })

/-! ## The gate (chapter 8) -/

/-- READER_ON powers the gate up from OFF, changes nothing in a powered state, and is refused NO_MAINS in MAINS_LOST and
WRONG_STATE in QUARANTINE. READER_OFF turns a powered gate off and ends its session and the authorizations bound to it,
and changes nothing in OFF and QUARANTINE. READER_RELEASE powers a quarantined gate up, and is refused WRONG_STATE
outside QUARANTINE, NOT_PERMITTED with the tamper line asserted and NO_MAINS in MAINS_LOST. READER_POST of 1 to 64 bytes
in OPEN joins the mailbox at its tail with the current session, and is refused FULL at four entries, WRONG_STATE outside
OPEN and BAD_FIELD for another length. READER_FETCH removes the oldest inbound entry and returns it, or is answered
EMPTY (R64, R76, R131, R138, R139, R147, R148). -/
def Obligations.GateRequestsAct : Prop :=
  (∀ s : State, s.runs = true → s.crg.lawful = true →
     let up := { s.crg with
       st := .powering, cause := none, attempts := 0, miss := 0, run := none, exchange := none, pollOwed := false
       verdict := .none, lastGood := none, offDue := none, attemptDue := s.now + 10000
       bootDue := if s.good .readerSupply then some (s.now + s.crg.settings.bootTime) else none }
     (s.takes .readerOn = true →
       (s.psc.power = .mainsLost → exec .readerOn s = .next (s.replies 0x28 [3, 10]))
       ∧ (s.psc.power ≠ .mainsLost →
         (s.crg.st = .quarantine → exec .readerOn s = .next (s.replies 0x28 [3, 4]))
         ∧ (s.crg.st ≠ .quarantine → s.crg.st ≠ .off → exec .readerOn s = .next (s.replies 0x28 [0]))
         ∧ (s.crg.st = .off → exec .readerOn s = .next (State.replies (State.post { s with crg := up } .none
             (.readerGate .off .powering .request none none false)) 0x28 [0]))))
     ∧ (s.takes .readerOff = true →
       (s.crg.st = .off ∨ s.crg.st = .quarantine → exec .readerOff s = .next (s.replies 0x29 [0]))
       ∧ (s.crg.st ≠ .off → s.crg.st ≠ .quarantine → ∃ t, exec .readerOff s = .next t ∧ t.answer? = some (0x29, [0])
           ∧ t.crg = { s.crg with
               st := .off, session := none, outbound := [], miss := 0, errors := 0, losses := [], run := none
               offDue := none, bootDue := none, exchange := none, pollOwed := false, verdict := .none
               lastGood := none }
           ∧ t.pins = s.pins ∧ t.display = s.display ∧ t.now = s.now
           ∧ (∀ n, s.crg.session = some n → s.sessionEnded t n)
           ∧ ∀ m : Meter, (t.channel m).counter = (s.channel m).counter))
     ∧ (s.takes .readerRelease = true →
       (s.crg.st ≠ .quarantine → exec .readerRelease s = .next (s.replies 0x2A [3, 4]))
       ∧ (s.crg.st = .quarantine → s.pins.tamper = true → exec .readerRelease s = .next (s.replies 0x2A [3, 5]))
       ∧ (s.crg.st = .quarantine → s.pins.tamper = false → s.psc.power = .mainsLost →
           exec .readerRelease s = .next (s.replies 0x2A [3, 10]))
       ∧ (s.crg.st = .quarantine → s.pins.tamper = false → s.psc.power ≠ .mainsLost →
           exec .readerRelease s = .next (State.replies (State.post { s with crg := up } .none
             (.readerGate .quarantine .powering .release none none false)) 0x2A [0]))))
  ∧ (∀ s : State, s.runs = true →
     (∀ (tag : Nat) (payload : List Byte), s.takes (.readerPost tag payload) = true →
       let x : Instr := .readerPost tag payload
       let fits := 1 ≤ payload.length ∧ payload.length ≤ 64
       (¬ fits → exec x s = .next (s.replies 0x2B [3, 3]))
       ∧ (fits → s.crg.st ≠ .opened → exec x s = .next (s.replies 0x2B [3, 4]))
       ∧ (∀ n : Nat, fits → s.crg.st = .opened → s.crg.session = some n →
         (4 ≤ s.crg.outbound.length → exec x s = .next (s.replies 0x2B [3, 9]))
         ∧ (s.crg.outbound.length < 4 → exec x s = .next (State.replies { s with crg := { s.crg with
             outbound := s.crg.outbound ++ [⟨tag, payload, n⟩] } } 0x2B (u8 1 ++ u16 n)))))
     ∧ (s.takes .readerFetch = true →
       (s.crg.inbound = [] → exec .readerFetch s = .next (s.replies 0x2C [4]))
       ∧ (∀ (e : Inbound) (rest : List Inbound), s.crg.inbound = e :: rest →
         exec .readerFetch s = .next (State.replies { s with crg := { s.crg with inbound := rest } } 0x2C
           (u8 0 ++ u16 e.session ++ u16 e.arrived.day ++ u32 e.arrived.sec ++ u8 e.payload.length ++ e.payload
             ++ u8 (if s.crg.session = some e.session then 1 else 0) ++ u8 rest.length)))))

/-- A poll instant in SYNC, OPEN or ECHO sends a packet and opens an exchange, or owes the packet while a reply is
awaited, and changes nothing else of the gate; there is none in another state. The packet is POLL with the sync mark in
SYNC, PASS with the head of the mailbox in OPEN and POLL without one, and in ECHO the last good packet (R128, R140,
R199; what is owed is by assumption 30). -/
def Obligations.PollsSendPackets : Prop :=
  ∀ s : State, s.runs = true →
    let c := s.crg
    let now := max s.now c.pollDue
    let sends (bytes : List Byte) (pass : Bool) : Prop := exec .pollInstant s = .next { s with
      now := now
      crg := { c with
        pollDue := c.pollDue + 100, sent := bytes, exchange := some ⟨now, pass⟩, pollOwed := false, verdict := .none
        lastGood := none } }
    (c.st = .off ∨ c.st = .powering ∨ c.st = .quarantine → exec .pollInstant s = .next s)
    ∧ (c.exchange.isSome = true → c.st = .sync ∨ c.st = .opened ∨ c.st = .echo → exec .pollInstant s = .next
        { s with now := now, crg := { c with pollDue := c.pollDue + 100, pollOwed := true } })
    ∧ (c.exchange = none →
      (c.st = .sync → sends (gatePacket 0x01 false c.verdict true []) false)
      ∧ (c.st = .opened → c.outbound = [] → sends (gatePacket 0x01 false c.verdict false []) false)
      ∧ (∀ e rest, c.st = .opened → c.outbound = e :: rest →
          sends (gatePacket 0x02 c.gateToggle c.verdict false e.payload) true)
      ∧ (∀ bytes, c.st = .echo → c.lastGood = some bytes → sends bytes false)
      ∧ (c.st = .echo → c.lastGood = none → sends (gatePacket 0x01 false c.verdict false []) false))

/-- A reply that has not begun in 40 ms is a miss in OPEN and ECHO, and the fifth loses the link: the session ends with
the authorizations bound to it, and the gate goes to SYNC, or to QUARANTINE at the third loss within 10 minutes. A
broken reply, and a reply of a wrong length or CRC, is a violation, and the violation at the threshold quarantines the
gate; the end of an error window clears the count (R64, R76, R128, R129, R142, R144). -/
def Obligations.MissesAndViolations : Prop :=
  (∀ (s : State) (x : Exchange), s.runs = true → s.crg.lawful = true → s.crg.exchange = some x → s.crg.pollOwed = false →
    let c := s.crg
    let now := max s.now (x.sentAt + 40)
    let live := c.st = .opened ∨ c.st = .echo
    let recent := c.losses.filter fun t => decide (now - t ≤ 600000)
    (¬ live → exec .readerReplyMiss s = .next { s with now := now, crg := { c with exchange := none } })
    ∧ (live → c.miss + 1 < 5 → exec .readerReplyMiss s =
        .next { s with now := now, crg := { c with exchange := none, miss := c.miss + 1 } })
    ∧ (live → 5 ≤ c.miss + 1 → ∃ t, exec .readerReplyMiss s = .next t ∧ t.now = now ∧ t.crg.session = none
        ∧ t.crg.outbound = [] ∧ t.crg.miss = 0 ∧ t.pins = s.pins ∧ t.display = s.display
        ∧ (∀ n, c.session = some n → s.sessionEnded t n)
        ∧ (recent.length < 2 → s.psc.power ≠ .draining → t.crg.st = .sync
          ∧ t.crg.losses = recent ++ [now] ∧ t.crg.attemptDue = now + 10000)
        ∧ (2 ≤ recent.length → t.crg.st = .quarantine ∧ t.crg.cause = some .linkLostRepeated))
    ∧ ((c.st = .sync ∨ live) → min 255 (c.errors + 1) < c.settings.errorThreshold → exec .readerReplyGap s =
        .next { s with crg := { c with exchange := none, run := none, errors := min 255 (c.errors + 1) } })
    ∧ ((c.st = .sync ∨ live) → c.settings.errorThreshold ≤ min 255 (c.errors + 1) →
        ∃ t, exec .readerReplyGap s = .next t ∧ t.crg.st = .quarantine ∧ t.crg.cause = some .errorRate
          ∧ t.crg.session = none ∧ t.crg.inbound = [] ∧ t.crg.outbound = [] ∧ t.crg.errors = 0
          ∧ t.pins = s.pins ∧ t.display = s.display ∧ t.now = s.now)
    ∧ ∀ bytes, readPacket bytes = none → exec (.readerReplyReceived bytes) s = exec .readerReplyGap s)
  ∧ ∀ s : State, s.runs = true →
    (s.crg.exchange = none → exec .readerReplyMiss s = .next s ∧ exec .readerReplyGap s = .next s
      ∧ ∀ bytes, exec (.readerReplyReceived bytes) s = .next s)
    ∧ exec .errorWindowEnd s = .next { s with
        now := max s.now s.crg.errorDue, crg := { s.crg with errors := 0, errorDue := s.crg.errorDue + 1000 } }

/-- A packet of the right length with its CRC is read as its fields. A good HELLO in SYNC opens the next session with
both toggles 0 and the reader's identity. In OPEN a new PASS is taken with its session and time while the inbound queue
is below the hold threshold, and posts READER_INBOUND at an empty queue; at the threshold it is held and its toggle
stays expected, and a repeated one is accepted without effect. A new PRESENCE of a card in or out is accepted and posts
READER_PRESENCE, one with another payload is refused and is a violation, and a repeated one is accepted without effect.
A HELLO in OPEN ends the session, flushes the mailbox, ends the authorizations bound to the session that have not let
fuel flow, stopping one whose point holds its meter in STARTING, and opens the next session, told with cause
READER_RESTART (in DRAINING the end of the last authorization may take the part, and the gate, on to NIGHT, so there the
new session is not stated). An ACCEPTED or a REFUSED verdict on a PASS of the gate removes the head of the mailbox with
that outcome, and HELD and NONE leave it. A LOOP_ON in OPEN begins a run or goes on with it and is accepted; one that
comes 3 s after the run's first takes the gate to ECHO and ends the session where echo is permitted and no authorization
is bound. In ECHO a LOOP_OFF does the same towards SYNC, and a packet of another kind ends the run (R64, R76, R129,
R133, R134, R135, R136, R137, R140, R149, R150, R199; the verdict is taken first by assumption 20, and what ends a run
is assumptions 42 and 43). -/
def Obligations.GoodPacketsTaken : Prop :=
  (∀ (kind control : Byte) (payload : List Byte), payload.length ≤ 64 →
    (readerKind kind).takes payload.length = true →
    let body := kind :: control :: BitVec.ofNat 8 payload.length :: payload
    readPacket (body ++ crc16Bytes body)
      = some ⟨readerKind kind, control.getLsbD 0, verdictOf control, payload⟩)
  ∧ ∀ (s : State) (x : Exchange) (bytes : List Byte) (k : ReaderPacket), s.runs = true → s.crg.lawful = true →
    s.crg.exchange = some x → s.crg.pollOwed = false → readPacket bytes = some k →
    let c := s.crg
    (c.st = .sync → k.kind = .hello → s.psc.checking .readerOpen = false →
      ∃ t, exec (.readerReplyReceived bytes) s = .next t ∧ t.crg.st = .opened
        ∧ t.crg.counter = (c.counter + 1) % 65536 ∧ t.crg.session = some ((c.counter + 1) % 65536)
        ∧ t.crg.identity = some (identityOf k.payload) ∧ t.crg.readerToggle = false ∧ t.crg.gateToggle = false
        ∧ t.crg.attempts = 0 ∧ t.crg.verdict = .accepted ∧ t.crg.inbound = c.inbound
        ∧ { t with hlp := s.hlp, crg := s.crg } = s)
    ∧ (∀ n : Nat, c.st = .opened → c.session = some n →
      let heard := { c with exchange := none, miss := 0, lastGood := some bytes, run := none }
      (k.kind = .pass → x.pass = false →
        (k.toggle ≠ c.readerToggle → exec (.readerReplyReceived bytes) s =
          .next { s with crg := { heard with verdict := .accepted } })
        ∧ (k.toggle = c.readerToggle → c.settings.holdThreshold ≤ c.inbound.length →
          exec (.readerReplyReceived bytes) s = .next { s with crg := { heard with verdict := .held } })
        ∧ (k.toggle = c.readerToggle → c.inbound.length < c.settings.holdThreshold →
          let t := { s with crg := { heard with
            inbound := c.inbound ++ [⟨n, s.psc.clock, k.payload⟩], verdict := .accepted
            readerToggle := !c.readerToggle } }
          exec (.readerReplyReceived bytes) s =
            .next (if c.inbound = [] then State.post t .none (.readerInbound n) else t)))
      ∧ (k.kind = .loopOn → x.pass = false →
        let began := match c.run with | some (.loopOn, since) => since | _ => s.now
        (s.now < began + 3000 ∨ c.settings.echo = false ∨ s.bindingStands = true →
          exec (.readerReplyReceived bytes) s =
            .next { s with crg := { heard with run := some (.loopOn, began), verdict := .accepted } })
        ∧ (began + 3000 ≤ s.now → c.settings.echo = true → s.bindingStands = false →
          ∃ t, exec (.readerReplyReceived bytes) s = .next t ∧ t.crg.st = .echo ∧ t.crg.session = none
            ∧ t.crg.outbound = [] ∧ t.crg.miss = 0 ∧ t.crg.run = none ∧ t.crg.inbound = c.inbound
            ∧ t.crg.lastGood = some bytes ∧ { t with hlp := s.hlp, crg := s.crg } = s))
      ∧ (k.kind = .presence → x.pass = false →
        (k.toggle ≠ c.readerToggle → exec (.readerReplyReceived bytes) s =
          .next { s with crg := { heard with verdict := .accepted } })
        ∧ (∀ cardIn : Bool, k.toggle = c.readerToggle → k.payload = [if cardIn then 1 else 2] →
          exec (.readerReplyReceived bytes) s = .next (State.post
            { s with crg := { heard with verdict := .accepted, readerToggle := !c.readerToggle } } .none
            (.readerPresence n cardIn)))
        ∧ (k.toggle = c.readerToggle → k.payload ≠ [1] → k.payload ≠ [2] →
          (min 255 (c.errors + 1) < c.settings.errorThreshold → exec (.readerReplyReceived bytes) s = .next { s with
            crg := { heard with
              verdict := .refused, readerToggle := !c.readerToggle, errors := min 255 (c.errors + 1) } })
          ∧ (c.settings.errorThreshold ≤ min 255 (c.errors + 1) → ∃ t, exec (.readerReplyReceived bytes) s = .next t
            ∧ t.crg.st = .quarantine ∧ t.crg.cause = some .errorRate ∧ t.crg.session = none ∧ t.crg.inbound = [])))
      ∧ (k.kind = .hello → x.pass = false →
        let number := (c.counter + 1) % 65536
        let changed := c.identity.any fun id => decide (id ≠ identityOf k.payload)
        let opened := { heard with
          counter := number, session := some number, identity := some (identityOf k.payload), readerToggle := false
          gateToggle := false, attempts := 0, bootDue := none, outbound := [], verdict := .accepted }
        (∃ t, exec (.readerReplyReceived bytes) s = .next t ∧ (s.psc.power ≠ .draining → t.crg = opened)
          ∧ s.sessionEnded t n)
        ∧ (c.outbound = [] → (∀ p : Point, (s.point p).boundTo n = false) → exec (.readerReplyReceived bytes) s =
          .next (State.post { s with crg := opened } .none
            (.readerGate .opened .opened .readerRestart (some number) (some (identityOf k.payload)) changed))))
      ∧ (∀ e rest, k.kind = .idle → x.pass = true → c.outbound = e :: rest →
        let left := { heard with outbound := rest, gateToggle := !c.gateToggle, verdict := .accepted }
        (k.verdict = .accepted → exec (.readerReplyReceived bytes) s =
          .next (State.post { s with crg := left } .none (.readerOutboundEnd e.tag .delivered)))
        ∧ (k.verdict = .refused → exec (.readerReplyReceived bytes) s =
          .next (State.post { s with crg := left } .none (.readerOutboundEnd e.tag .refused)))
        ∧ (k.verdict = .held ∨ k.verdict = .none → exec (.readerReplyReceived bytes) s =
          .next { s with crg := { heard with verdict := .accepted } })))
    ∧ (c.st = .echo →
      let heard := { c with exchange := none, miss := 0, lastGood := some bytes, run := none }
      let began := match c.run with | some (.loopOff, since) => since | _ => s.now
      (k.kind = .loopOff →
        (s.now < began + 3000 → exec (.readerReplyReceived bytes) s =
          .next { s with crg := { heard with run := some (.loopOff, began) } })
        ∧ (began + 3000 ≤ s.now → s.psc.checking .readerOpen = false → ∃ t, exec (.readerReplyReceived bytes) s = .next t
          ∧ t.crg.st = .sync ∧ t.crg.session = none ∧ t.crg.attemptDue = s.now + 10000 ∧ t.crg.lastGood = none
          ∧ t.crg.inbound = c.inbound ∧ { t with hlp := s.hlp, crg := s.crg } = s))
      ∧ (k.kind ≠ .loopOff → k.kind ≠ .unknown → exec (.readerReplyReceived bytes) s = .next { s with crg := heard }))

/-- The boot time takes POWERING to SYNC, whose first poll instant comes 100 ms later (DESIGN CHOICE, assumption 13),
and the end of an off interval begins an attempt. An attempt that times out is followed by an off interval of 1 s, and
the third in a row by QUARANTINE with cause NO_HELLO. An assertion of the tamper line quarantines the gate in every
state, ends its session and empties its queues; its release changes the line and posts its change alone; the
authorizations bound to an ended session end with it (R64, R76, R132, R145, R146; that an echo run stands on in SYNC is
assumption 42, and that an assertion of an asserted line and a release of a released one are no events is assumption
32). -/
def Obligations.AttemptsAndTamper : Prop :=
  ∀ s : State, s.runs = true → s.crg.lawful = true →
    let c := s.crg
    (∀ due, c.bootDue = some due →
      let now := max s.now due
      exec .bootTimeElapsed s = .next (State.post
        { s with now := now, crg := { c with
          st := .sync, attemptDue := now + 10000, bootDue := none, offDue := none, miss := 0, exchange := none
          verdict := .none, lastGood := none, pollDue := now + 100 } } .none
        (.readerGate .powering .sync .supplyReady none none false)))
    ∧ (c.bootDue = none → exec .bootTimeElapsed s = .next s)
    ∧ (∀ due, c.offDue = some due →
      let now := max s.now due
      exec .offIntervalEnd s = .next { s with now := now, crg := { c with
        offDue := none, attemptDue := now + 10000
        bootDue := if s.good .readerSupply then some (now + c.settings.bootTime) else none } })
    ∧ (c.offDue = none → exec .offIntervalEnd s = .next s)
    ∧ (c.st = .sync ∨ (c.st = .powering ∧ c.offDue = none) →
      ∃ t, exec .attemptTimeout s = .next t ∧ t.now = max s.now c.attemptDue ∧ t.crg.bootDue = none
        ∧ t.pins = s.pins ∧ t.display = s.display
        ∧ (c.attempts + 1 < 3 → t.crg.st = .powering ∧ t.crg.attempts = c.attempts + 1
          ∧ t.crg.offDue = some (t.now + 1000))
        ∧ (3 ≤ c.attempts + 1 → t.crg.st = .quarantine ∧ t.crg.cause = some .noHello ∧ t.crg.attempts = 0))
    ∧ (c.st ≠ .sync → c.st ≠ .powering → exec .attemptTimeout s = .next s)
    ∧ (∃ t, exec .tamperAssert s = .next t ∧ t.pins = { s.pins with tamper := true }
        ∧ (s.pins.tamper = true → t = s)
        ∧ (s.pins.tamper = false → t.crg.st = .quarantine ∧ t.crg.cause = some .tamper ∧ t.crg.session = none
          ∧ t.crg.inbound = [] ∧ t.crg.outbound = [] ∧ t.display = s.display ∧ t.now = s.now
          ∧ (∀ n, c.session = some n → s.sessionEnded t n)
          ∧ ∀ m : Meter, (t.channel m).counter = (s.channel m).counter))
    ∧ exec .tamperRelease s = .next (
        let t := { s with pins := { s.pins with tamper := false } }
        if s.pins.tamper = true ∧ s.hlp.modes.tamper = .onChange then t.post .none (.condition .tamper false) else t)

/-- At every step the gate has a session exactly while it is OPEN, holds outbound entries only then, holds a cause and
no inbound entry in QUARANTINE, times its attempts in POWERING alone, and holds no run and no misses in OFF and QUARANTINE
(R132, R133, R134, R141, R146, R148). -/
def Obligations.GateLawKept : Prop :=
  ∀ s t : State, s.crg.lawful = true → step s = .next t → t.crg.lawful = true

/-- At every step each point from STARTING to STOPPING holds or awaits exactly the meter of its record, no other point
holds or awaits one, a waiter waits for the other point's meter, and a point's timers run in their own states alone. Where
no authorization of a point without flow is bound to an ended session, none is bound to one after the step. Where a valve
is commanded open only at a meter that a point in FUELLING or SLOWING holds, with the net count below its STOP compare,
and MAIN only in FUELLING, below its SLOW compare, and where outside RUN and DRAINING no point is in a state that could
open a valve, the same holds after the step (R58, R59, R63, R67, R69, R74, R76, R80). -/
def Obligations.HoldsAndBindingsKept : Prop :=
  ∀ s t : State, s.holdsLawful = true → step s = .next t →
    t.holdsLawful = true ∧ (s.bindingsLawful = true → t.bindingsLawful = true)
    ∧ (s.valvesLawful = true → t.valvesLawful = true)

/-! ## Power (chapter 9) -/

/-- WAKE is refused NO_MAINS in MAINS_LOST, and in NIGHT and HALTED without mains; with mains it begins the sequence:
the intended state is RUN, nothing waits, every drive takes its load's output, and step 1 begins in SETTLE with its
retry count at 0 and its load driven. In DRAINING it returns to RUN and leaves every point; in WAKING and RUN it changes
nothing. The card line, enabled, begins the sequence in NIGHT alone, or waits for mains. Mains that returns begins it
for a wake that waits, in NIGHT and HALTED with the WAKE report of that wake, and from MAINS_LOST, where no point is in
STARTING (`HoldsAndBindingsKept`), in the event that ends the holds, so that a display that only a hold kept on is taken
as off; and in NIGHT where the intended state is RUN. SLEEP is answered OK in every state and makes the intended state
NIGHT: in RUN the part drains, and is in NIGHT with its points closed and its motors off at once when no sale is in
hand; in WAKING it goes to NIGHT, in HALTED to NIGHT; in DRAINING it changes nothing (R158, R164, R165, R166, R168,
R169; a settle time of 0 ends in the event that starts it by assumption 24, and the retry count of no step is 0 by
assumption 46). -/
def Obligations.WakesAndSleepsByState : Prop :=
  (∀ s : State, s.runs = true →
     let woken (t : State) : Prop := s.wakes t s.output
       ∧ t.pins = s.pins ∧ t.display = s.display ∧ (∀ m : Meter, (t.channel m).counter = (s.channel m).counter)
     (s.takes .wake = true →
       (s.psc.power = .mainsLost → exec .wake s = .next (s.replies 0x33 [3, 10]))
       ∧ (s.psc.power = .waking ∨ s.psc.power = .run → exec .wake s = .next (s.replies 0x33 [0]))
       ∧ (s.psc.power = .draining → ∃ t, exec .wake s = .next t ∧ t.psc.power = .run ∧ t.psc.intended = .run
           ∧ t.answer? = some (0x33, [0]) ∧ { t with hlp := s.hlp, psc := s.psc, rtm := s.rtm } = s)
       ∧ (s.psc.power = .night ∨ s.psc.power = .halted →
         (s.good .mains = false → exec .wake s = .next (s.replies 0x33 [3, 10]))
         ∧ (s.good .mains = true → ∃ t, exec .wake s = .next t ∧ woken t ∧ t.answer? = some (0x33, [0]))))
     ∧ (s.psc.power ≠ .night ∨ s.psc.schedule.cardWake = false → exec .cardPresentAssert s = .next s)
     ∧ (s.psc.power = .night → s.psc.schedule.cardWake = true →
       (s.good .mains = true → ∃ t, exec .cardPresentAssert s = .next t ∧ woken t)
       ∧ (s.good .mains = false → exec .cardPresentAssert s = .next
         (State.post { s with psc := { s.psc with wakePending := some .card } } .none (.wake .card .pending))))
     ∧ ∀ since, (s.psc.sensors.sc .mains).since = some since → s.good .mains = false →
       ∃ t, exec (.sensePersistenceExpiry .mains) s = .next t
         ∧ (∀ cause, s.psc.power = .night ∨ s.psc.power = .halted → s.psc.wakePending = some cause →
           woken t ∧ (s.hlp.hasRoom = true → ⟨.none, s.psc.clock, .wake cause .waking⟩ ∈ t.hlp.reports))
         ∧ (s.psc.power = .night → s.psc.wakePending = none → s.psc.intended = .run → woken t
           ∧ (s.hlp.hasRoom = true → ⟨.none, s.psc.clock, .wake .mainsReturn .waking⟩ ∈ t.hlp.reports))
         ∧ (s.psc.power = .mainsLost → s.psc.intended = .run → (∀ p : Point, (s.point p).st ≠ .starting) → woken t)
         ∧ (∀ cause, s.psc.power = .mainsLost → s.psc.intended = .night → s.psc.wakePending = some cause →
           (∀ p : Point, (s.point p).st ≠ .starting) →
           s.wakes t (fun l => match l with
             | .displayA => s.drive .displayA
             | .displayB => s.drive .displayB
             | l => s.output l))
         ∧ (s.psc.power = .halted → s.psc.wakePending = none → t.psc.power = .halted))
  ∧ (∀ s : State, s.runs = true → s.takes .sleep = true →
     (s.psc.power = .draining → exec .sleep s = .next (s.replies 0x34 [0]))
     ∧ (s.psc.power ≠ .draining → ∃ t, exec .sleep s = .next t ∧ t.answer? = some (0x34, [0]) ∧ t.psc.intended = .night
       ∧ t.pins = s.pins ∧ t.display = s.display ∧ (∀ m : Meter, (t.channel m).counter = (s.channel m).counter)
       ∧ (s.psc.power = .run → s.anySelling = true → t.psc.power = .draining ∧ t.points = s.points)
       ∧ (s.psc.power = .waking ∨ (s.psc.power = .run ∧ s.anySelling = false) →
           t.psc.power = .night ∧ t.psc.cursor = (if s.psc.power = .waking then none else s.psc.cursor)
           ∧ t.psc.startQueue = [] ∧ (∀ m : Meter, (t.motor m).st = .off)
           ∧ ∀ p : Point, (s.point p).st = .idle ∨ (s.point p).st = .calling → (t.point p).st = .closed)
       ∧ (s.psc.power = .halted ∨ s.psc.power = .night ∨ s.psc.power = .mainsLost → t.psc.wakePending = none
           ∧ t.points = s.points ∧ t.psc.power = (if s.psc.power = .mainsLost then .mainsLost else .night))))

/-- A comparator's timer starts, runs on or stops as its input stands to the reference in force, and nothing else moves;
a persistence of 0 changes the condition at once. A timer that has run its persistence changes that condition and no
other. A loss of the pulser supply suspends every channel; a loss of mains in WAKING, RUN or DRAINING takes the part to
MAINS_LOST with every drive and motor off, the free and the authorized points closed, the deliveries, those in STARTING
that hold their meter among them, stopped with cause POWER_LOSS, a point in STARTING that waits closed with its record
discarded, the display tests ended, and each side held as its point and its shown figures give. The return of mains in
MAINS_LOST ends the holds and, no point being in STARTING there (`HoldsAndBindingsKept`), begins the sequence from the
outputs of the loads (its first event is by assumptions 24 and 46), or takes the part to NIGHT where the intended state
is NIGHT and no wake waits; a loss of standby there ends the holds alone. A loss of the reader supply takes the gate
from SYNC, OPEN or ECHO to POWERING, ends its session and begins the attempt afresh. A display's warmth moves its heater
in RUN and DRAINING. A loss of the valve supply stops every delivery whose valves are open with cause VALVE_SUPPLY_LOST
and closes them, and its return opens the valves of a point that holds its meter in STARTING with the zero check passed
and the run-up done, at full flow or on SLOW alone (R63, R64, R66, R80, R122, R125, R143, R154, R155, R171, R174,
R175). -/
def Obligations.SensingMoves : Prop :=
  ∀ (s : State) (c : Comparator), s.runs = true →
    let x := s.psc.sensors.sc c
    (∀ mv : Nat,
      let timing := if x.good then decide (mv < 64 * (x.settings.kf + 4)) else decide (64 * (x.settings.kr + 4) ≤ mv)
      let persistence := if x.good then x.settings.failMs else x.settings.recoverMs
      let sensor : Sensor := { x with since := if timing then some (x.since.getD s.now) else none }
      (timing = false ∨ persistence ≠ 0 → exec (.senseInputChange c mv) s = .next { s with
        pins := { s.pins with millivolts := s.pins.millivolts.setSc c mv }
        psc := { s.psc with sensors := s.psc.sensors.setSc c sensor } })
      ∧ (timing = true → persistence = 0 → ∃ t, exec (.senseInputChange c mv) s = .next t ∧ t.good c = !x.good
          ∧ ∀ k : Comparator, k ≠ c → t.good k = s.good k))
    ∧ (x.since = none → exec (.sensePersistenceExpiry c) s = .next s)
    ∧ (∀ since, x.since = some since → ∃ t, exec (.sensePersistenceExpiry c) s = .next t
      ∧ t.now = max s.now (since + if x.good then x.settings.failMs else x.settings.recoverMs)
      ∧ t.good c = !x.good ∧ (∀ k : Comparator, k ≠ c → t.good k = s.good k)
      ∧ t.pins = s.pins ∧ t.display = s.display ∧ (∀ m : Meter, (t.channel m).counter = (s.channel m).counter)
      ∧ (t.psc.sensors.sc c).settings = x.settings
      ∧ (c = .pulserSupply → x.good = true → ∀ m : Meter, (t.channel m).reference = none)
      ∧ (c = .mains → x.good = false → s.psc.power = .mainsLost → (∀ y : Side, (t.side y).hold = .none)
        ∧ (s.psc.intended = .run → (∀ p : Point, (s.point p).st ≠ .starting) → s.wakes t s.output)
        ∧ (s.psc.intended = .night → s.psc.wakePending = none → t.psc.power = .night ∧ t.psc.drives = s.psc.drives))
      ∧ (c = .standby → x.good = true →
        (s.psc.power = .mainsLost → (∀ y : Side, (t.side y).hold = .none) ∧ t.psc.power = .mainsLost
          ∧ t.psc.drives = s.psc.drives)
        ∧ (s.psc.power ≠ .mainsLost → { t with now := s.now, hlp := s.hlp, psc := s.psc } = s
          ∧ { t.psc with sensors := s.psc.sensors } = s.psc))
      ∧ (c = .readerSupply → x.good = true →
        (s.crg.st = .off ∨ s.crg.st = .quarantine → t.crg = s.crg)
        ∧ (s.crg.st = .sync ∨ s.crg.st = .opened ∨ s.crg.st = .echo → s.psc.power ≠ .draining →
          t.crg.st = .powering ∧ t.crg.session = none ∧ t.crg.outbound = [] ∧ t.crg.inbound = s.crg.inbound
          ∧ t.crg.attempts = s.crg.attempts ∧ t.crg.losses = s.crg.losses ∧ t.crg.attemptDue = t.now + 10000
          ∧ t.crg.bootDue = none ∧ t.crg.offDue = none ∧ t.crg.loadOn = true))
      ∧ (∀ y : Side, c = (match y with | .a => .warmA | .b => .warmB) →
        let load : Load := match y with | .a => .heaterA | .b => .heaterB
        (s.psc.power = .run ∨ s.psc.power = .draining → t.drive load = x.good)
        ∧ (s.psc.power = .night ∨ s.psc.power = .halted ∨ s.psc.power = .mainsLost → t.psc.drives = s.psc.drives))
      ∧ (c = .mains → x.good = true → s.psc.power = .waking ∨ s.psc.power = .run ∨ s.psc.power = .draining →
        t.psc.power = .mainsLost ∧ t.psc.drives = noDrives ∧ t.psc.startQueue = []
        ∧ (∀ m : Meter, (t.motor m).st = .off)
        ∧ (∀ y : Side, (t.side y).test = none
          ∧ (t.side y).hold = (if s.refreshing y = false then .none
              else if (s.point y).st = .fuelling ∨ (s.point y).st = .slowing ∨ (s.point y).st = .stopping
                ∨ ((s.point y).st = .starting ∧ (s.heldBy y).isSome = true) then .awaitingFinish
              else if s.display.holdTime ≠ 0 ∧ ((s.point y).st = .finished ∨ (s.side y).shown.final = true) then
                .timing (t.now + 60000 * s.display.holdTime)
              else .none))
        ∧ ∀ p : Point,
          ((s.point p).st = .idle ∨ (s.point p).st = .calling ∨ (s.point p).st = .authorized →
            (t.point p).st = .closed ∧ (t.point p).auth = none)
          ∧ (∀ (m : Meter) (r : DeliveryRecord), (s.point p).st = .starting ∨ (s.point p).st.flowing = true →
            s.heldBy p = some m → (s.point p).current = some r →
            (t.point p).st = .stopping ∧ (t.point p).current = some { r with cause := some .powerLoss })
          ∧ ((s.point p).st = .starting → s.heldBy p = none →
            (t.point p).st = .closed ∧ (t.point p).auth = none ∧ (t.point p).current = none
            ∧ ∀ m : Meter, t.dle.waiters.get m ≠ some p))
      ∧ (∀ (p : Point) (m : Meter) (r : DeliveryRecord), c = .valveSupply → s.heldBy p = some m →
          (s.point p).current = some r →
        (x.good = true → (s.point p).st.flowing = true →
          (t.point p).st = .stopping ∧ (t.point p).current = some { r with cause := some .valveSupplyLost }
          ∧ (t.channel m).mainOpen = false ∧ (t.channel m).slowOpen = false)
        ∧ (x.good = false → s.psc.power = .run ∨ s.psc.power = .draining → (s.point p).st = .starting →
            (s.point p).zeroPassed = true → (s.motor m).st = .running →
            (s.motor m).onSince + (s.channel m).record.runUp ≤ t.now →
          let full := r.nSlow ≠ 0 ∧ ∀ k, (s.channel m).slow = some k → k.fired = false
          (t.point p).auth = none ∧ (t.channel m).slowOpen = true
          ∧ (full → (t.point p).st = .fuelling ∧ (t.channel m).mainOpen = true)
          ∧ (¬ full → (t.point p).st = .slowing ∧ (t.channel m).mainOpen = false))))

/-- The step in hand moves as its phases give. After its settle time it enters CHECK, and passes there with no check,
with a condition that is true or with the gate OPEN, fails with a gate in QUARANTINE or with a display test that is not
begun, and otherwise waits, or fails where it has no time. In CHECK it passes when its condition becomes true, when a
HELLO opens the gate and when its display test ends with nothing listed; it fails when the check times out, when the
gate, lawful as `GateLawKept` says, is quarantined and when its test ends with a position listed. A step that has passed
is followed by the next one in the same event, which begins in SETTLE with its retry count at 0 and its load driven, and
the last one by RUN with the closed points open. A failed step is dealt with by its action: ABORT, and RETRY with its
retries used up, halt the part with every drive off; a RETRY that is left puts the step in RETRY_WAIT with its load's
drive off, and at the end of that wait the step begins again; CONTINUE goes on as if the step had passed. A timer of a
phase in which the step is not does nothing (R119, R120, R160, R161, R162, R163; the retry count of no step is 0 by
assumption 46, a time of 0 ends in the event that starts it by assumption 24, a test in flight is joined by assumption
52, and that a blank position is sensed as 00h is PRESUMED, assumption 14). -/
def Obligations.StepsMove : Prop :=
  ∀ (s : State), s.runs = true →
    (∀ (n since : Nat) (phase : StepPhase) (st : PowerStep), s.psc.power = .waking →
      s.psc.cursor = some ⟨n, phase, since⟩ → 1 ≤ n → s.psc.steps[n - 1]? = some st →
      let passes (t : State) : Prop := s.goesOn t n s.drive s.psc.lastFailure
      let fails (t : State) (reason : StepReason) (ddu : Nat) : Prop := s.stepFails t n st reason ddu
      let kept (t : State) : Prop := t.display = s.display ∧ ∀ m : Meter, (t.channel m).counter = (s.channel m).counter
      (phase = .settle →
        let now := max s.now (since + st.settle)
        let checking : State := { s with now := now, psc := { s.psc with cursor := some ⟨n, .check, now⟩ } }
        (∃ t, exec .settleTimeElapsed s = .next t ∧ t.now = now ∧ t.pins = s.pins ∧ kept t
          ∧ (st.check = .none → passes t)
          ∧ (∀ c, st.check = .condition c → (s.good c = true → passes t)
            ∧ (s.good c = false → st.timeout = 0 → fails t .checkTimeout 0)
            ∧ (s.good c = false → 1 ≤ st.timeout → t = checking))
          ∧ (st.check = .readerOpen → (s.crg.st = .opened → passes t)
            ∧ (s.crg.st = .quarantine → fails t .quarantined 0)
            ∧ (s.crg.st ≠ .opened → s.crg.st ≠ .quarantine → st.timeout = 0 → fails t .checkTimeout 0)
            ∧ (s.crg.st ≠ .opened → s.crg.st ≠ .quarantine → 1 ≤ st.timeout → t = checking))
          ∧ (∀ x, st.check = .displayTest x →
            let sold : Bool := (s.point x).st.delivering || decide ((s.point x).st = .finished)
            (s.refreshing x = false → fails t .testNotRun 1)
            ∧ (s.refreshing x = true → (s.side x).hold ≠ .none → fails t .testNotRun 2)
            ∧ (s.refreshing x = true → (s.side x).hold = .none → sold = true → fails t .testNotRun 3)
            ∧ (s.refreshing x = true → (s.side x).hold = .none → sold = false →
              (st.timeout = 0 → fails t .checkTimeout 0)
              ∧ (1 ≤ st.timeout → t = { checking with ddu := s.ddu.set x { s.side x with
                  test := some (match (s.side x).test with
                    | some u => { u with bySequence := true }
                    | none => ⟨0, List.replicate 28 false, false, true⟩) } }))))
        ∧ exec .checkTimeout s = .next s ∧ exec .retryWaitEnd s = .next s)
      ∧ (phase = .check →
        (∃ t, exec .checkTimeout s = .next t ∧ t.now = max s.now (since + 1000 * st.timeout) ∧ t.pins = s.pins ∧ kept t
          ∧ fails t .checkTimeout 0)
        ∧ (∀ (c : Comparator) (timed : Nat), st.check = .condition c → s.good c = false →
          (s.psc.sensors.sc c).since = some timed →
          ∃ t, exec (.sensePersistenceExpiry c) s = .next t ∧ kept t ∧ passes t)
        ∧ (∀ (x : Exchange) (bytes : List Byte) (k : ReaderPacket), st.check = .readerOpen → s.crg.st = .sync →
          s.crg.exchange = some x → readPacket bytes = some k → k.kind = .hello →
          ∃ t, exec (.readerReplyReceived bytes) s = .next t ∧ kept t ∧ passes t)
        ∧ (st.check = .readerOpen → s.pins.tamper = false → s.crg.lawful = true →
          ∃ t, exec .tamperAssert s = .next t ∧ kept t ∧ fails t .quarantined 0)
        ∧ (∀ (x : Side) (u : DisplayTest) (sense : Option (List Byte)), st.check = .displayTest x →
          s.refreshing x = true → (s.side x).test = some u → u.done = 5 → u.bySequence = true → u.listed.length = 28 →
          let right : Bool := s.good .displaySupply && match sense with
            | none => false
            | some l => (List.range 28).all fun i => decide (l[i]? = some 0x00)
          ∃ t, exec (.refreshInstant x sense) s = .next t ∧ kept t
            ∧ (u.listed = List.replicate 28 false ∧ right = true → passes t)
            ∧ (u.listed ≠ List.replicate 28 false ∨ right = false → fails t .testFailed 0))
        ∧ exec .settleTimeElapsed s = .next s ∧ exec .retryWaitEnd s = .next s)
      ∧ (phase = .retryWait →
        (∃ t, exec .retryWaitEnd s = .next t ∧ t.now = max s.now (since + st.settle) ∧ t.pins = s.pins ∧ kept t
          ∧ s.stepBegins t n st s.drive s.psc.retries s.psc.lastFailure)
        ∧ exec .settleTimeElapsed s = .next s ∧ exec .checkTimeout s = .next s))
    ∧ (s.psc.cursor = none → exec .settleTimeElapsed s = .next s ∧ exec .checkTimeout s = .next s
        ∧ exec .retryWaitEnd s = .next s)

/-- A tick of the shutdown run in NIGHT turns off the next listed load that is on, passing over those that are off, and
the run ends with its list (which loads count as on, READER's in an off interval among them, is the model's choice,
assumption 29). The day clock advances by a second, from the last second of a day to the next day, and where no minute
of the schedule is reached nothing else happens. The night minute acts as SLEEP: the intended state is NIGHT, a part in
RUN drains, and is in NIGHT at once when no sale is in hand, one in WAKING or HALTED is in NIGHT, a wake that waits is
cleared, and in DRAINING nothing changes. The wake minute acts as a wake: with mains it begins the sequence from NIGHT
or HALTED, every drive taking its load's output before step 1 begins (its first event is by assumptions 24 and 46),
without mains and in MAINS_LOST it waits, it takes DRAINING back to RUN, and in WAKING and RUN it changes nothing (R158,
R164, R165, R166, R168, R169, R170, R178, R179). -/
def Obligations.ShutdownAndClockTick : Prop :=
  ∀ s : State, s.runs = true →
    (s.psc.shutdown = [] → exec .shutdownRunTick s = .next s)
    ∧ (∀ (off rest : List Load) (l : Load), s.psc.power = .night → s.psc.shutdown = off ++ l :: rest →
        (∀ k ∈ off, s.loadIsOn k = false) → s.loadIsOn l = true →
        ∃ t, exec .shutdownRunTick s = .next t ∧ t.psc.shutdown = rest ∧ t.drive l = false
          ∧ t.psc.shutdownDue = s.psc.shutdownDue + 100 ∧ t.now = max s.now s.psc.shutdownDue
          ∧ ∀ k : Load, k ≠ l → t.drive k = s.drive k)
    ∧ (s.psc.shutdown ≠ [] → (∀ k ∈ s.psc.shutdown, s.loadIsOn k = false) → exec .shutdownRunTick s = .next { s with
        now := max s.now s.psc.shutdownDue
        psc := { s.psc with shutdown := [], shutdownDue := s.psc.shutdownDue + 100 } })
    ∧ (let next : Stamp := if s.psc.clock.sec + 1 < 86400 then { s.psc.clock with sec := s.psc.clock.sec + 1 }
        else ⟨(s.psc.clock.day + 1) % 65536, 0⟩
      let ticked := { s with
        now := max s.now s.psc.secondDue
        psc := { s.psc with clock := next, secondDue := s.psc.secondDue + 1000 } }
      (∃ t, exec .dayClockSecond s = .next t ∧ t.psc.clock = next ∧ t.psc.secondDue = s.psc.secondDue + 1000
        ∧ t.now = ticked.now ∧ t.pins = s.pins ∧ t.display = s.display
        ∧ ∀ m : Meter, (t.channel m).counter = (s.channel m).counter)
      ∧ (s.psc.clockSet = false ∨ (∀ m, s.psc.schedule.night = some m ∨ s.psc.schedule.wake = some m → 60 * m ≠ next.sec)
        → exec .dayClockSecond s = .next ticked)
      ∧ (∀ n : Nat, s.psc.clockSet = true → s.psc.schedule.night = some n → 60 * n = next.sec →
        (s.psc.power = .draining → exec .dayClockSecond s = .next ticked)
        ∧ (s.psc.power ≠ .draining → ∃ t, exec .dayClockSecond s = .next t ∧ t.psc.intended = .night
          ∧ (s.psc.power = .run → s.anySelling = true → t.psc.power = .draining ∧ t.points = s.points)
          ∧ (s.psc.power = .waking ∨ (s.psc.power = .run ∧ s.anySelling = false) →
            t.psc.power = .night ∧ t.psc.startQueue = [] ∧ (∀ m : Meter, (t.motor m).st = .off)
            ∧ ∀ p : Point, (s.point p).st = .idle ∨ (s.point p).st = .calling → (t.point p).st = .closed)
          ∧ (s.psc.power = .halted ∨ s.psc.power = .night ∨ s.psc.power = .mainsLost → t.psc.wakePending = none
            ∧ t.points = s.points ∧ t.psc.power = (if s.psc.power = .mainsLost then .mainsLost else .night))))
      ∧ (∀ n : Nat, s.psc.clockSet = true → s.psc.schedule.wake = some n → 60 * n = next.sec →
          s.psc.schedule.night ≠ some n →
        (s.psc.power = .waking ∨ s.psc.power = .run → exec .dayClockSecond s = .next ticked)
        ∧ (s.psc.power = .draining → ∃ t, exec .dayClockSecond s = .next t ∧ t.psc.power = .run
          ∧ t.psc.intended = .run ∧ t.points = s.points)
        ∧ ((s.psc.power = .night ∨ s.psc.power = .halted) ∧ s.good .mains = false ∨ s.psc.power = .mainsLost →
          exec .dayClockSecond s = .next (State.post
            { ticked with psc := { ticked.psc with wakePending := some .schedule } } .none (.wake .schedule .pending)))
        ∧ (s.psc.power = .night ∨ s.psc.power = .halted → s.good .mains = true →
          ∃ t, exec .dayClockSecond s = .next t ∧ s.wakes t s.output)))

/-! ## The host link (chapter 10) -/

/-- A post joins a queue below 32 entries; at 32 the lost counter rises, and KEEP_OLDEST drops the post while
KEEP_NEWEST drops the oldest entry. A fetch that is no repeat returns and removes up to the number asked, with the
lost counter, which becomes 0, and is kept; a repeat returns the kept reply again, and an empty queue with nothing
lost is answered EMPTY (R186, R187). -/
def Obligations.ReportsQueueAndFetch : Prop :=
  (∀ (h : Hlp) (r : Report),
    (h.reports.length < 32 → h.post r = { h with reports := h.reports ++ [r] })
    ∧ (32 ≤ h.reports.length → h.policy = .keepOldest → h.post r = { h with lost := min 255 (h.lost + 1) })
    ∧ (32 ≤ h.reports.length → h.policy = .keepNewest →
        h.post r = { h with reports := h.reports.drop 1 ++ [r], lost := min 255 (h.lost + 1) }))
  ∧ ∀ (s : State) (n again : Nat), s.runs = true → s.takes (.fetchReports n again) = true →
      let x : Instr := .fetchReports n again
      (n = 0 ∨ 8 < n ∨ 1 < again → exec x s = .next (s.replies 0x3C [3, 3]))
      ∧ (1 ≤ n → n ≤ 8 →
        (again = 1 → exec x s = .next (s.replies 0x3C (s.hlp.lastFetch.getD [4])))
        ∧ (again = 0 → s.hlp.reports = [] → s.hlp.lost = 0 → exec x s =
          .next (State.replies { s with hlp := { s.hlp with lastFetch := some [4] } } 0x3C [4]))
        ∧ (again = 0 → s.hlp.reports ≠ [] ∨ s.hlp.lost ≠ 0 →
          let out := s.hlp.reports.take n
          let rest := s.hlp.reports.drop n
          let reply := u8 0 ++ u8 out.length ++ u8 s.hlp.lost ++ u8 rest.length ++ out.flatMap Report.bytes
          exec x s = .next (State.replies
            { s with hlp := { s.hlp with reports := rest, lost := 0, lastFetch := some reply } } 0x3C reply)))

/-- A good frame in HUNT restarts a set silence timer and becomes the request in hand, waits in a buffer with room, or
is counted as overrun. A frame with a wrong length byte or a wrong CRC, a gap in a frame and a faulty stop bit in one
are each counted once as a frame error. When a reply has been sent, the oldest waiting frame becomes the request in
hand. A request of an unknown kind or a wrong length is refused by its reason and changes nothing (R182, R183, R184,
R191). -/
def Obligations.LineTakesFrames : Prop :=
  ∀ s : State, s.powered = true →
    let h := s.hlp
    let silence := if h.silenceTime = 0 then h.silence else .running (s.now + 1000 * h.silenceTime)
    let counted := { h with rx := .hunt, frameErrors := min 65535 (h.frameErrors + 1) }
    (∀ f : Frame, h.rx = .hunt → f.payload.length ≤ 239 →
      (h.hand = none → h.buffer = [] → exec (.hostFrameReceived f.bytes) s =
        .next { s with hlp := { h with hand := some (.taken f), silence := silence } })
      ∧ (h.hand.isSome = true → h.buffer.length < 2 → exec (.hostFrameReceived f.bytes) s =
        .next { s with hlp := { h with buffer := h.buffer ++ [f], silence := silence } })
      ∧ (2 ≤ h.buffer.length → exec (.hostFrameReceived f.bytes) s =
        .next { s with hlp := { h with silence := silence, overruns := min 65535 (h.overruns + 1) } })
      ∧ (∀ x y : Byte, let body := BitVec.ofNat 8 (f.payload.length + 1) :: f.kind :: f.payload
          [x, y] ≠ crc16Bytes body → exec (.frameDiscarded (0xC3 :: body ++ [x, y]) false) s =
            .next { s with hlp := counted })
      ∧ (∀ b : Byte, b.toNat = 0 ∨ 240 < b.toNat → exec (.frameDiscarded [0xC3, b] false) s =
            .next { s with hlp := counted })
      ∧ exec .frameGapTimeout s = .next s)
    ∧ (∀ l, h.rx = .inside l → exec .frameGapTimeout s = .next { s with hlp := counted }
        ∧ exec (.frameDiscarded [] true) s = .next { s with hlp := counted })
    ∧ (∀ kind reply, h.hand = some (.replying kind reply) → ¬ (kind = 0x41 ∧ reply = [0]) →
      (h.buffer = [] → exec .replySent s = .next { s with hlp := { h with hand := none } })
      ∧ (∀ f rest, h.buffer = f :: rest → exec .replySent s =
          .next { s with hlp := { h with hand := some (.taken f), buffer := rest } }))
    ∧ (∀ f : Frame, h.hand = some (.taken f) →
      (requestOf f = .error .unknownKind → exec (.requestRefused f.kind f.payload) s =
        .next (s.replies f.kind.toNat [3, 1]))
      ∧ (requestOf f = .error .badLength → exec (.requestRefused f.kind f.payload) s =
        .next (s.replies f.kind.toNat [3, 2])))

/-- At every step the report queue holds at most 32 entries, the buffer at most 2, the counters fit, and no frame waits
in the buffer while no request is in hand (R182, R183, R186). -/
def Obligations.LinkBoundsKept : Prop :=
  ∀ s t : State, s.hlp.bounded = true → s.hlp.prompt = true → step s = .next t →
    t.hlp.bounded = true ∧ t.hlp.prompt = true
end

