-- ==== Sys2Proof/Laws/State.lean ====
section
/-! SUPPORT. What each update of the state does to each field, one lemma a field, all true by rfl: later proofs rewrite
with these and unfold no record update. -/

namespace Sys2Proof.Machine

variable (s : State)

/-! ### State.mapPoint -/

@[simp] theorem State.mapPoint_now (p : Point) (f : PointData → PointData) : (s.mapPoint p f).now = s.now := rfl
@[simp] theorem State.mapPoint_powered (p : Point) (f : PointData → PointData) :
    (s.mapPoint p f).powered = s.powered := rfl
@[simp] theorem State.mapPoint_pins (p : Point) (f : PointData → PointData) : (s.mapPoint p f).pins = s.pins := rfl
@[simp] theorem State.mapPoint_hlp (p : Point) (f : PointData → PointData) : (s.mapPoint p f).hlp = s.hlp := rfl
@[simp] theorem State.mapPoint_miu (p : Point) (f : PointData → PointData) : (s.mapPoint p f).miu = s.miu := rfl
@[simp] theorem State.mapPoint_dle (p : Point) (f : PointData → PointData) : (s.mapPoint p f).dle = s.dle := rfl
@[simp] theorem State.mapPoint_points (p : Point) (f : PointData → PointData) :
    (s.mapPoint p f).points = s.points.set p (f (s.points.get p)) := rfl
@[simp] theorem State.mapPoint_ptu (p : Point) (f : PointData → PointData) : (s.mapPoint p f).ptu = s.ptu := rfl
@[simp] theorem State.mapPoint_pou (p : Point) (f : PointData → PointData) : (s.mapPoint p f).pou = s.pou := rfl
@[simp] theorem State.mapPoint_ddu (p : Point) (f : PointData → PointData) : (s.mapPoint p f).ddu = s.ddu := rfl
@[simp] theorem State.mapPoint_display (p : Point) (f : PointData → PointData) :
    (s.mapPoint p f).display = s.display := rfl
@[simp] theorem State.mapPoint_crg (p : Point) (f : PointData → PointData) : (s.mapPoint p f).crg = s.crg := rfl
@[simp] theorem State.mapPoint_psc (p : Point) (f : PointData → PointData) : (s.mapPoint p f).psc = s.psc := rfl
@[simp] theorem State.mapPoint_rtm (p : Point) (f : PointData → PointData) : (s.mapPoint p f).rtm = s.rtm := rfl
@[simp] theorem State.mapPoint_pending (p : Point) (f : PointData → PointData) :
    (s.mapPoint p f).pending = s.pending := rfl

/-! ### State.mapChannel -/

@[simp] theorem State.mapChannel_now (m : Meter) (f : Channel → Channel) : (s.mapChannel m f).now = s.now := rfl
@[simp] theorem State.mapChannel_powered (m : Meter) (f : Channel → Channel) :
    (s.mapChannel m f).powered = s.powered := rfl
@[simp] theorem State.mapChannel_pins (m : Meter) (f : Channel → Channel) : (s.mapChannel m f).pins = s.pins := rfl
@[simp] theorem State.mapChannel_hlp (m : Meter) (f : Channel → Channel) : (s.mapChannel m f).hlp = s.hlp := rfl
@[simp] theorem State.mapChannel_miu (m : Meter) (f : Channel → Channel) :
    (s.mapChannel m f).miu = s.miu.set m (f (s.miu.get m)) := rfl
@[simp] theorem State.mapChannel_dle (m : Meter) (f : Channel → Channel) : (s.mapChannel m f).dle = s.dle := rfl
@[simp] theorem State.mapChannel_points (m : Meter) (f : Channel → Channel) :
    (s.mapChannel m f).points = s.points := rfl
@[simp] theorem State.mapChannel_ptu (m : Meter) (f : Channel → Channel) : (s.mapChannel m f).ptu = s.ptu := rfl
@[simp] theorem State.mapChannel_pou (m : Meter) (f : Channel → Channel) : (s.mapChannel m f).pou = s.pou := rfl
@[simp] theorem State.mapChannel_ddu (m : Meter) (f : Channel → Channel) : (s.mapChannel m f).ddu = s.ddu := rfl
@[simp] theorem State.mapChannel_display (m : Meter) (f : Channel → Channel) :
    (s.mapChannel m f).display = s.display := rfl
@[simp] theorem State.mapChannel_crg (m : Meter) (f : Channel → Channel) : (s.mapChannel m f).crg = s.crg := rfl
@[simp] theorem State.mapChannel_psc (m : Meter) (f : Channel → Channel) : (s.mapChannel m f).psc = s.psc := rfl
@[simp] theorem State.mapChannel_rtm (m : Meter) (f : Channel → Channel) : (s.mapChannel m f).rtm = s.rtm := rfl
@[simp] theorem State.mapChannel_pending (m : Meter) (f : Channel → Channel) :
    (s.mapChannel m f).pending = s.pending := rfl

/-! ### State.mapSide -/

@[simp] theorem State.mapSide_now (x : Side) (f : DduSide → DduSide) : (s.mapSide x f).now = s.now := rfl
@[simp] theorem State.mapSide_powered (x : Side) (f : DduSide → DduSide) : (s.mapSide x f).powered = s.powered := rfl
@[simp] theorem State.mapSide_pins (x : Side) (f : DduSide → DduSide) : (s.mapSide x f).pins = s.pins := rfl
@[simp] theorem State.mapSide_hlp (x : Side) (f : DduSide → DduSide) : (s.mapSide x f).hlp = s.hlp := rfl
@[simp] theorem State.mapSide_miu (x : Side) (f : DduSide → DduSide) : (s.mapSide x f).miu = s.miu := rfl
@[simp] theorem State.mapSide_dle (x : Side) (f : DduSide → DduSide) : (s.mapSide x f).dle = s.dle := rfl
@[simp] theorem State.mapSide_points (x : Side) (f : DduSide → DduSide) : (s.mapSide x f).points = s.points := rfl
@[simp] theorem State.mapSide_ptu (x : Side) (f : DduSide → DduSide) : (s.mapSide x f).ptu = s.ptu := rfl
@[simp] theorem State.mapSide_pou (x : Side) (f : DduSide → DduSide) : (s.mapSide x f).pou = s.pou := rfl
@[simp] theorem State.mapSide_ddu (x : Side) (f : DduSide → DduSide) :
    (s.mapSide x f).ddu = s.ddu.set x (f (s.ddu.get x)) := rfl
@[simp] theorem State.mapSide_display (x : Side) (f : DduSide → DduSide) : (s.mapSide x f).display = s.display := rfl
@[simp] theorem State.mapSide_crg (x : Side) (f : DduSide → DduSide) : (s.mapSide x f).crg = s.crg := rfl
@[simp] theorem State.mapSide_psc (x : Side) (f : DduSide → DduSide) : (s.mapSide x f).psc = s.psc := rfl
@[simp] theorem State.mapSide_rtm (x : Side) (f : DduSide → DduSide) : (s.mapSide x f).rtm = s.rtm := rfl
@[simp] theorem State.mapSide_pending (x : Side) (f : DduSide → DduSide) : (s.mapSide x f).pending = s.pending := rfl

/-! ### State.mapPou -/

@[simp] theorem State.mapPou_now (p : Point) (f : Pou → Pou) : (s.mapPou p f).now = s.now := rfl
@[simp] theorem State.mapPou_powered (p : Point) (f : Pou → Pou) : (s.mapPou p f).powered = s.powered := rfl
@[simp] theorem State.mapPou_pins (p : Point) (f : Pou → Pou) : (s.mapPou p f).pins = s.pins := rfl
@[simp] theorem State.mapPou_hlp (p : Point) (f : Pou → Pou) : (s.mapPou p f).hlp = s.hlp := rfl
@[simp] theorem State.mapPou_miu (p : Point) (f : Pou → Pou) : (s.mapPou p f).miu = s.miu := rfl
@[simp] theorem State.mapPou_dle (p : Point) (f : Pou → Pou) : (s.mapPou p f).dle = s.dle := rfl
@[simp] theorem State.mapPou_points (p : Point) (f : Pou → Pou) : (s.mapPou p f).points = s.points := rfl
@[simp] theorem State.mapPou_ptu (p : Point) (f : Pou → Pou) : (s.mapPou p f).ptu = s.ptu := rfl
@[simp] theorem State.mapPou_pou (p : Point) (f : Pou → Pou) :
    (s.mapPou p f).pou = s.pou.set p (f (s.pou.get p)) := rfl
@[simp] theorem State.mapPou_ddu (p : Point) (f : Pou → Pou) : (s.mapPou p f).ddu = s.ddu := rfl
@[simp] theorem State.mapPou_display (p : Point) (f : Pou → Pou) : (s.mapPou p f).display = s.display := rfl
@[simp] theorem State.mapPou_crg (p : Point) (f : Pou → Pou) : (s.mapPou p f).crg = s.crg := rfl
@[simp] theorem State.mapPou_psc (p : Point) (f : Pou → Pou) : (s.mapPou p f).psc = s.psc := rfl
@[simp] theorem State.mapPou_rtm (p : Point) (f : Pou → Pou) : (s.mapPou p f).rtm = s.rtm := rfl
@[simp] theorem State.mapPou_pending (p : Point) (f : Pou → Pou) : (s.mapPou p f).pending = s.pending := rfl

/-! ### State.setMotor -/

@[simp] theorem State.setMotor_now (m : Meter) (x : Motor) : (s.setMotor m x).now = s.now := rfl
@[simp] theorem State.setMotor_powered (m : Meter) (x : Motor) : (s.setMotor m x).powered = s.powered := rfl
@[simp] theorem State.setMotor_pins (m : Meter) (x : Motor) : (s.setMotor m x).pins = s.pins := rfl
@[simp] theorem State.setMotor_hlp (m : Meter) (x : Motor) : (s.setMotor m x).hlp = s.hlp := rfl
@[simp] theorem State.setMotor_miu (m : Meter) (x : Motor) : (s.setMotor m x).miu = s.miu := rfl
@[simp] theorem State.setMotor_dle (m : Meter) (x : Motor) :
    (s.setMotor m x).dle = { s.dle with motors := s.dle.motors.set m x } := rfl
@[simp] theorem State.setMotor_points (m : Meter) (x : Motor) : (s.setMotor m x).points = s.points := rfl
@[simp] theorem State.setMotor_ptu (m : Meter) (x : Motor) : (s.setMotor m x).ptu = s.ptu := rfl
@[simp] theorem State.setMotor_pou (m : Meter) (x : Motor) : (s.setMotor m x).pou = s.pou := rfl
@[simp] theorem State.setMotor_ddu (m : Meter) (x : Motor) : (s.setMotor m x).ddu = s.ddu := rfl
@[simp] theorem State.setMotor_display (m : Meter) (x : Motor) : (s.setMotor m x).display = s.display := rfl
@[simp] theorem State.setMotor_crg (m : Meter) (x : Motor) : (s.setMotor m x).crg = s.crg := rfl
@[simp] theorem State.setMotor_psc (m : Meter) (x : Motor) : (s.setMotor m x).psc = s.psc := rfl
@[simp] theorem State.setMotor_rtm (m : Meter) (x : Motor) : (s.setMotor m x).rtm = s.rtm := rfl
@[simp] theorem State.setMotor_pending (m : Meter) (x : Motor) : (s.setMotor m x).pending = s.pending := rfl

/-! ### State.mapCrg -/

@[simp] theorem State.mapCrg_now (f : Crg → Crg) : (s.mapCrg f).now = s.now := rfl
@[simp] theorem State.mapCrg_powered (f : Crg → Crg) : (s.mapCrg f).powered = s.powered := rfl
@[simp] theorem State.mapCrg_pins (f : Crg → Crg) : (s.mapCrg f).pins = s.pins := rfl
@[simp] theorem State.mapCrg_hlp (f : Crg → Crg) : (s.mapCrg f).hlp = s.hlp := rfl
@[simp] theorem State.mapCrg_miu (f : Crg → Crg) : (s.mapCrg f).miu = s.miu := rfl
@[simp] theorem State.mapCrg_dle (f : Crg → Crg) : (s.mapCrg f).dle = s.dle := rfl
@[simp] theorem State.mapCrg_points (f : Crg → Crg) : (s.mapCrg f).points = s.points := rfl
@[simp] theorem State.mapCrg_ptu (f : Crg → Crg) : (s.mapCrg f).ptu = s.ptu := rfl
@[simp] theorem State.mapCrg_pou (f : Crg → Crg) : (s.mapCrg f).pou = s.pou := rfl
@[simp] theorem State.mapCrg_ddu (f : Crg → Crg) : (s.mapCrg f).ddu = s.ddu := rfl
@[simp] theorem State.mapCrg_display (f : Crg → Crg) : (s.mapCrg f).display = s.display := rfl
@[simp] theorem State.mapCrg_crg (f : Crg → Crg) : (s.mapCrg f).crg = f s.crg := rfl
@[simp] theorem State.mapCrg_psc (f : Crg → Crg) : (s.mapCrg f).psc = s.psc := rfl
@[simp] theorem State.mapCrg_rtm (f : Crg → Crg) : (s.mapCrg f).rtm = s.rtm := rfl
@[simp] theorem State.mapCrg_pending (f : Crg → Crg) : (s.mapCrg f).pending = s.pending := rfl

/-! ### State.mapPsc -/

@[simp] theorem State.mapPsc_now (f : Psc → Psc) : (s.mapPsc f).now = s.now := rfl
@[simp] theorem State.mapPsc_powered (f : Psc → Psc) : (s.mapPsc f).powered = s.powered := rfl
@[simp] theorem State.mapPsc_pins (f : Psc → Psc) : (s.mapPsc f).pins = s.pins := rfl
@[simp] theorem State.mapPsc_hlp (f : Psc → Psc) : (s.mapPsc f).hlp = s.hlp := rfl
@[simp] theorem State.mapPsc_miu (f : Psc → Psc) : (s.mapPsc f).miu = s.miu := rfl
@[simp] theorem State.mapPsc_dle (f : Psc → Psc) : (s.mapPsc f).dle = s.dle := rfl
@[simp] theorem State.mapPsc_points (f : Psc → Psc) : (s.mapPsc f).points = s.points := rfl
@[simp] theorem State.mapPsc_ptu (f : Psc → Psc) : (s.mapPsc f).ptu = s.ptu := rfl
@[simp] theorem State.mapPsc_pou (f : Psc → Psc) : (s.mapPsc f).pou = s.pou := rfl
@[simp] theorem State.mapPsc_ddu (f : Psc → Psc) : (s.mapPsc f).ddu = s.ddu := rfl
@[simp] theorem State.mapPsc_display (f : Psc → Psc) : (s.mapPsc f).display = s.display := rfl
@[simp] theorem State.mapPsc_crg (f : Psc → Psc) : (s.mapPsc f).crg = s.crg := rfl
@[simp] theorem State.mapPsc_psc (f : Psc → Psc) : (s.mapPsc f).psc = f s.psc := rfl
@[simp] theorem State.mapPsc_rtm (f : Psc → Psc) : (s.mapPsc f).rtm = s.rtm := rfl
@[simp] theorem State.mapPsc_pending (f : Psc → Psc) : (s.mapPsc f).pending = s.pending := rfl

/-! ### State.mapHlp -/

@[simp] theorem State.mapHlp_now (f : Hlp → Hlp) : (s.mapHlp f).now = s.now := rfl
@[simp] theorem State.mapHlp_powered (f : Hlp → Hlp) : (s.mapHlp f).powered = s.powered := rfl
@[simp] theorem State.mapHlp_pins (f : Hlp → Hlp) : (s.mapHlp f).pins = s.pins := rfl
@[simp] theorem State.mapHlp_hlp (f : Hlp → Hlp) : (s.mapHlp f).hlp = f s.hlp := rfl
@[simp] theorem State.mapHlp_miu (f : Hlp → Hlp) : (s.mapHlp f).miu = s.miu := rfl
@[simp] theorem State.mapHlp_dle (f : Hlp → Hlp) : (s.mapHlp f).dle = s.dle := rfl
@[simp] theorem State.mapHlp_points (f : Hlp → Hlp) : (s.mapHlp f).points = s.points := rfl
@[simp] theorem State.mapHlp_ptu (f : Hlp → Hlp) : (s.mapHlp f).ptu = s.ptu := rfl
@[simp] theorem State.mapHlp_pou (f : Hlp → Hlp) : (s.mapHlp f).pou = s.pou := rfl
@[simp] theorem State.mapHlp_ddu (f : Hlp → Hlp) : (s.mapHlp f).ddu = s.ddu := rfl
@[simp] theorem State.mapHlp_display (f : Hlp → Hlp) : (s.mapHlp f).display = s.display := rfl
@[simp] theorem State.mapHlp_crg (f : Hlp → Hlp) : (s.mapHlp f).crg = s.crg := rfl
@[simp] theorem State.mapHlp_psc (f : Hlp → Hlp) : (s.mapHlp f).psc = s.psc := rfl
@[simp] theorem State.mapHlp_rtm (f : Hlp → Hlp) : (s.mapHlp f).rtm = s.rtm := rfl
@[simp] theorem State.mapHlp_pending (f : Hlp → Hlp) : (s.mapHlp f).pending = s.pending := rfl

/-! ### State.mapRtm -/

@[simp] theorem State.mapRtm_now (f : Rtm → Rtm) : (s.mapRtm f).now = s.now := rfl
@[simp] theorem State.mapRtm_powered (f : Rtm → Rtm) : (s.mapRtm f).powered = s.powered := rfl
@[simp] theorem State.mapRtm_pins (f : Rtm → Rtm) : (s.mapRtm f).pins = s.pins := rfl
@[simp] theorem State.mapRtm_hlp (f : Rtm → Rtm) : (s.mapRtm f).hlp = s.hlp := rfl
@[simp] theorem State.mapRtm_miu (f : Rtm → Rtm) : (s.mapRtm f).miu = s.miu := rfl
@[simp] theorem State.mapRtm_dle (f : Rtm → Rtm) : (s.mapRtm f).dle = s.dle := rfl
@[simp] theorem State.mapRtm_points (f : Rtm → Rtm) : (s.mapRtm f).points = s.points := rfl
@[simp] theorem State.mapRtm_ptu (f : Rtm → Rtm) : (s.mapRtm f).ptu = s.ptu := rfl
@[simp] theorem State.mapRtm_pou (f : Rtm → Rtm) : (s.mapRtm f).pou = s.pou := rfl
@[simp] theorem State.mapRtm_ddu (f : Rtm → Rtm) : (s.mapRtm f).ddu = s.ddu := rfl
@[simp] theorem State.mapRtm_display (f : Rtm → Rtm) : (s.mapRtm f).display = s.display := rfl
@[simp] theorem State.mapRtm_crg (f : Rtm → Rtm) : (s.mapRtm f).crg = s.crg := rfl
@[simp] theorem State.mapRtm_psc (f : Rtm → Rtm) : (s.mapRtm f).psc = s.psc := rfl
@[simp] theorem State.mapRtm_rtm (f : Rtm → Rtm) : (s.mapRtm f).rtm = f s.rtm := rfl
@[simp] theorem State.mapRtm_pending (f : Rtm → Rtm) : (s.mapRtm f).pending = s.pending := rfl

/-! ### State.mapCurrent -/

@[simp] theorem State.mapCurrent_now (p : Point) (f : DeliveryRecord → DeliveryRecord) :
    (s.mapCurrent p f).now = s.now := rfl
@[simp] theorem State.mapCurrent_powered (p : Point) (f : DeliveryRecord → DeliveryRecord) :
    (s.mapCurrent p f).powered = s.powered := rfl
@[simp] theorem State.mapCurrent_pins (p : Point) (f : DeliveryRecord → DeliveryRecord) :
    (s.mapCurrent p f).pins = s.pins := rfl
@[simp] theorem State.mapCurrent_hlp (p : Point) (f : DeliveryRecord → DeliveryRecord) :
    (s.mapCurrent p f).hlp = s.hlp := rfl
@[simp] theorem State.mapCurrent_miu (p : Point) (f : DeliveryRecord → DeliveryRecord) :
    (s.mapCurrent p f).miu = s.miu := rfl
@[simp] theorem State.mapCurrent_dle (p : Point) (f : DeliveryRecord → DeliveryRecord) :
    (s.mapCurrent p f).dle = s.dle := rfl
@[simp] theorem State.mapCurrent_points (p : Point) (f : DeliveryRecord → DeliveryRecord) :
    (s.mapCurrent p f).points = s.points.set p { s.points.get p with current := (s.points.get p).current.map f } := rfl
@[simp] theorem State.mapCurrent_ptu (p : Point) (f : DeliveryRecord → DeliveryRecord) :
    (s.mapCurrent p f).ptu = s.ptu := rfl
@[simp] theorem State.mapCurrent_pou (p : Point) (f : DeliveryRecord → DeliveryRecord) :
    (s.mapCurrent p f).pou = s.pou := rfl
@[simp] theorem State.mapCurrent_ddu (p : Point) (f : DeliveryRecord → DeliveryRecord) :
    (s.mapCurrent p f).ddu = s.ddu := rfl
@[simp] theorem State.mapCurrent_display (p : Point) (f : DeliveryRecord → DeliveryRecord) :
    (s.mapCurrent p f).display = s.display := rfl
@[simp] theorem State.mapCurrent_crg (p : Point) (f : DeliveryRecord → DeliveryRecord) :
    (s.mapCurrent p f).crg = s.crg := rfl
@[simp] theorem State.mapCurrent_psc (p : Point) (f : DeliveryRecord → DeliveryRecord) :
    (s.mapCurrent p f).psc = s.psc := rfl
@[simp] theorem State.mapCurrent_rtm (p : Point) (f : DeliveryRecord → DeliveryRecord) :
    (s.mapCurrent p f).rtm = s.rtm := rfl
@[simp] theorem State.mapCurrent_pending (p : Point) (f : DeliveryRecord → DeliveryRecord) :
    (s.mapCurrent p f).pending = s.pending := rfl

/-! ### State.reach -/

@[simp] theorem State.reach_now (due : Nat) : (s.reach due).now = max s.now due := rfl
@[simp] theorem State.reach_powered (due : Nat) : (s.reach due).powered = s.powered := rfl
@[simp] theorem State.reach_pins (due : Nat) : (s.reach due).pins = s.pins := rfl
@[simp] theorem State.reach_hlp (due : Nat) : (s.reach due).hlp = s.hlp := rfl
@[simp] theorem State.reach_miu (due : Nat) : (s.reach due).miu = s.miu := rfl
@[simp] theorem State.reach_dle (due : Nat) : (s.reach due).dle = s.dle := rfl
@[simp] theorem State.reach_points (due : Nat) : (s.reach due).points = s.points := rfl
@[simp] theorem State.reach_ptu (due : Nat) : (s.reach due).ptu = s.ptu := rfl
@[simp] theorem State.reach_pou (due : Nat) : (s.reach due).pou = s.pou := rfl
@[simp] theorem State.reach_ddu (due : Nat) : (s.reach due).ddu = s.ddu := rfl
@[simp] theorem State.reach_display (due : Nat) : (s.reach due).display = s.display := rfl
@[simp] theorem State.reach_crg (due : Nat) : (s.reach due).crg = s.crg := rfl
@[simp] theorem State.reach_psc (due : Nat) : (s.reach due).psc = s.psc := rfl
@[simp] theorem State.reach_rtm (due : Nat) : (s.reach due).rtm = s.rtm := rfl
@[simp] theorem State.reach_pending (due : Nat) : (s.reach due).pending = s.pending := rfl

/-! ### State.post -/

@[simp] theorem State.post_now (target : ReportTarget) (data : ReportData) : (s.post target data).now = s.now := rfl
@[simp] theorem State.post_powered (target : ReportTarget) (data : ReportData) :
    (s.post target data).powered = s.powered := rfl
@[simp] theorem State.post_pins (target : ReportTarget) (data : ReportData) :
    (s.post target data).pins = s.pins := rfl
@[simp] theorem State.post_hlp (target : ReportTarget) (data : ReportData) :
    (s.post target data).hlp = s.hlp.post ⟨target, s.psc.clock, data⟩ := rfl
@[simp] theorem State.post_miu (target : ReportTarget) (data : ReportData) : (s.post target data).miu = s.miu := rfl
@[simp] theorem State.post_dle (target : ReportTarget) (data : ReportData) : (s.post target data).dle = s.dle := rfl
@[simp] theorem State.post_points (target : ReportTarget) (data : ReportData) :
    (s.post target data).points = s.points := rfl
@[simp] theorem State.post_ptu (target : ReportTarget) (data : ReportData) : (s.post target data).ptu = s.ptu := rfl
@[simp] theorem State.post_pou (target : ReportTarget) (data : ReportData) : (s.post target data).pou = s.pou := rfl
@[simp] theorem State.post_ddu (target : ReportTarget) (data : ReportData) : (s.post target data).ddu = s.ddu := rfl
@[simp] theorem State.post_display (target : ReportTarget) (data : ReportData) :
    (s.post target data).display = s.display := rfl
@[simp] theorem State.post_crg (target : ReportTarget) (data : ReportData) : (s.post target data).crg = s.crg := rfl
@[simp] theorem State.post_psc (target : ReportTarget) (data : ReportData) : (s.post target data).psc = s.psc := rfl
@[simp] theorem State.post_rtm (target : ReportTarget) (data : ReportData) : (s.post target data).rtm = s.rtm := rfl
@[simp] theorem State.post_pending (target : ReportTarget) (data : ReportData) :
    (s.post target data).pending = s.pending := rfl

/-! ### State.touchConfig -/

@[simp] theorem State.touchConfig_now : s.touchConfig.now = s.now := rfl
@[simp] theorem State.touchConfig_powered : s.touchConfig.powered = s.powered := rfl
@[simp] theorem State.touchConfig_pins : s.touchConfig.pins = s.pins := rfl
@[simp] theorem State.touchConfig_hlp : s.touchConfig.hlp = s.hlp := rfl
@[simp] theorem State.touchConfig_miu : s.touchConfig.miu = s.miu := rfl
@[simp] theorem State.touchConfig_dle : s.touchConfig.dle = s.dle := rfl
@[simp] theorem State.touchConfig_points : s.touchConfig.points = s.points := rfl
@[simp] theorem State.touchConfig_ptu : s.touchConfig.ptu = s.ptu := rfl
@[simp] theorem State.touchConfig_pou : s.touchConfig.pou = s.pou := rfl
@[simp] theorem State.touchConfig_ddu : s.touchConfig.ddu = s.ddu := rfl
@[simp] theorem State.touchConfig_display : s.touchConfig.display = s.display := rfl
@[simp] theorem State.touchConfig_crg : s.touchConfig.crg = s.crg := rfl
@[simp] theorem State.touchConfig_psc : s.touchConfig.psc = s.psc := rfl
@[simp] theorem State.touchConfig_rtm : s.touchConfig.rtm = { s.rtm with dirtyConfig := true } := rfl
@[simp] theorem State.touchConfig_pending : s.touchConfig.pending = s.pending := rfl

/-! ### State.touchDeliveries -/

@[simp] theorem State.touchDeliveries_now : s.touchDeliveries.now = s.now := rfl
@[simp] theorem State.touchDeliveries_powered : s.touchDeliveries.powered = s.powered := rfl
@[simp] theorem State.touchDeliveries_pins : s.touchDeliveries.pins = s.pins := rfl
@[simp] theorem State.touchDeliveries_hlp : s.touchDeliveries.hlp = s.hlp := rfl
@[simp] theorem State.touchDeliveries_miu : s.touchDeliveries.miu = s.miu := rfl
@[simp] theorem State.touchDeliveries_dle : s.touchDeliveries.dle = s.dle := rfl
@[simp] theorem State.touchDeliveries_points : s.touchDeliveries.points = s.points := rfl
@[simp] theorem State.touchDeliveries_ptu : s.touchDeliveries.ptu = s.ptu := rfl
@[simp] theorem State.touchDeliveries_pou : s.touchDeliveries.pou = s.pou := rfl
@[simp] theorem State.touchDeliveries_ddu : s.touchDeliveries.ddu = s.ddu := rfl
@[simp] theorem State.touchDeliveries_display : s.touchDeliveries.display = s.display := rfl
@[simp] theorem State.touchDeliveries_crg : s.touchDeliveries.crg = s.crg := rfl
@[simp] theorem State.touchDeliveries_psc : s.touchDeliveries.psc = s.psc := rfl
@[simp] theorem State.touchDeliveries_rtm : s.touchDeliveries.rtm = { s.rtm with dirtyDeliveries := true } := rfl
@[simp] theorem State.touchDeliveries_pending : s.touchDeliveries.pending = s.pending := rfl

end Sys2Proof.Machine
end

