-- ==== Sys2Proof/Laws/Operations.lean ====
section
/-! SUPPORT. What each shared operation leaves alone: one lemma an operation, the fields of the state it never changes.
An operation not listed for a field may change it. -/

namespace Sys2Proof.Machine

variable (s : State)

/-- A change of a condition posts at most one report (R189). -/
@[simp] theorem State.changed_frame (c : Condition) (v : Bool) :
    (s.changed c v).now = s.now ∧ (s.changed c v).powered = s.powered ∧ (s.changed c v).pins = s.pins
      ∧ (s.changed c v).miu = s.miu ∧ (s.changed c v).dle = s.dle ∧ (s.changed c v).points = s.points
      ∧ (s.changed c v).ptu = s.ptu ∧ (s.changed c v).pou = s.pou ∧ (s.changed c v).ddu = s.ddu
      ∧ (s.changed c v).display = s.display ∧ (s.changed c v).crg = s.crg ∧ (s.changed c v).psc = s.psc
      ∧ (s.changed c v).rtm = s.rtm ∧ (s.changed c v).pending = s.pending := by
  unfold State.changed
  (repeat' (first | split | dsimp only)) <;> simp

/-- The mismatch timer (R12). -/
@[simp] theorem State.retime_frame (m : Meter) :
    (s.retime m).now = s.now ∧ (s.retime m).powered = s.powered ∧ (s.retime m).pins = s.pins
      ∧ (s.retime m).hlp = s.hlp ∧ (s.retime m).dle = s.dle ∧ (s.retime m).points = s.points
      ∧ (s.retime m).ptu = s.ptu ∧ (s.retime m).pou = s.pou ∧ (s.retime m).ddu = s.ddu
      ∧ (s.retime m).display = s.display ∧ (s.retime m).crg = s.crg ∧ (s.retime m).psc = s.psc
      ∧ (s.retime m).rtm = s.rtm ∧ (s.retime m).pending = s.pending := by
  unfold State.retime
  (repeat' (first | split | dsimp only)) <;> simp

/-- The mismatch timer started afresh (R12, R15). -/
@[simp] theorem State.restartMismatch_frame (m : Meter) :
    (s.restartMismatch m).now = s.now ∧ (s.restartMismatch m).powered = s.powered
      ∧ (s.restartMismatch m).pins = s.pins ∧ (s.restartMismatch m).hlp = s.hlp ∧ (s.restartMismatch m).dle = s.dle
      ∧ (s.restartMismatch m).points = s.points ∧ (s.restartMismatch m).ptu = s.ptu
      ∧ (s.restartMismatch m).pou = s.pou ∧ (s.restartMismatch m).ddu = s.ddu
      ∧ (s.restartMismatch m).display = s.display ∧ (s.restartMismatch m).crg = s.crg
      ∧ (s.restartMismatch m).psc = s.psc ∧ (s.restartMismatch m).rtm = s.rtm
      ∧ (s.restartMismatch m).pending = s.pending := by
  unfold State.restartMismatch
  (repeat' (first | split | dsimp only)) <;> simp

/-- The valve commands (R11). -/
@[simp] theorem State.commandValves_frame (m : Meter) (x y : Bool) :
    (s.commandValves m x y).now = s.now ∧ (s.commandValves m x y).powered = s.powered
      ∧ (s.commandValves m x y).pins = s.pins ∧ (s.commandValves m x y).hlp = s.hlp
      ∧ (s.commandValves m x y).dle = s.dle ∧ (s.commandValves m x y).points = s.points
      ∧ (s.commandValves m x y).ptu = s.ptu ∧ (s.commandValves m x y).pou = s.pou
      ∧ (s.commandValves m x y).ddu = s.ddu ∧ (s.commandValves m x y).display = s.display
      ∧ (s.commandValves m x y).crg = s.crg ∧ (s.commandValves m x y).psc = s.psc
      ∧ (s.commandValves m x y).rtm = s.rtm ∧ (s.commandValves m x y).pending = s.pending := by
  unfold State.commandValves
  (repeat' (first | split | dsimp only)) <;> simp

/-- The suspension of every channel (R2). -/
@[simp] theorem State.suspendAll_frame :
    s.suspendAll.now = s.now ∧ s.suspendAll.powered = s.powered ∧ s.suspendAll.pins = s.pins
      ∧ s.suspendAll.hlp = s.hlp ∧ s.suspendAll.dle = s.dle ∧ s.suspendAll.points = s.points
      ∧ s.suspendAll.ptu = s.ptu ∧ s.suspendAll.pou = s.pou ∧ s.suspendAll.ddu = s.ddu
      ∧ s.suspendAll.display = s.display ∧ s.suspendAll.crg = s.crg ∧ s.suspendAll.psc = s.psc
      ∧ s.suspendAll.rtm = s.rtm ∧ s.suspendAll.pending = s.pending := by
  simp [State.suspendAll]

/-- Retirement (R39). -/
@[simp] theorem State.retire_frame :
    s.retire.now = s.now ∧ s.retire.powered = s.powered ∧ s.retire.pins = s.pins ∧ s.retire.hlp = s.hlp
      ∧ s.retire.miu = s.miu ∧ s.retire.dle = s.dle ∧ s.retire.points = s.points ∧ s.retire.pou = s.pou
      ∧ s.retire.ddu = s.ddu ∧ s.retire.display = s.display ∧ s.retire.crg = s.crg ∧ s.retire.psc = s.psc
      ∧ s.retire.pending = s.pending := by
  unfold State.retire
  (repeat' (first | split | dsimp only)) <;> simp

/-- Adoption by one point (R38). -/
@[simp] theorem State.adopt_frame (p : Point) :
    (s.adopt p).now = s.now ∧ (s.adopt p).powered = s.powered ∧ (s.adopt p).pins = s.pins ∧ (s.adopt p).miu = s.miu
      ∧ (s.adopt p).dle = s.dle ∧ (s.adopt p).pou = s.pou ∧ (s.adopt p).ddu = s.ddu
      ∧ (s.adopt p).display = s.display ∧ (s.adopt p).crg = s.crg ∧ (s.adopt p).psc = s.psc
      ∧ (s.adopt p).pending = s.pending := by
  unfold State.adopt
  (repeat' (first | split | dsimp only)) <;> simp

/-- What no write of DELIVERIES carries yet becomes a change of the region (R105). -/
@[simp] theorem State.retainDeliveries_frame :
    s.retainDeliveries.now = s.now ∧ s.retainDeliveries.powered = s.powered ∧ s.retainDeliveries.pins = s.pins
      ∧ s.retainDeliveries.hlp = s.hlp ∧ s.retainDeliveries.miu = s.miu ∧ s.retainDeliveries.dle = s.dle
      ∧ s.retainDeliveries.points = s.points ∧ s.retainDeliveries.ptu = s.ptu ∧ s.retainDeliveries.pou = s.pou
      ∧ s.retainDeliveries.ddu = s.ddu ∧ s.retainDeliveries.display = s.display ∧ s.retainDeliveries.crg = s.crg
      ∧ s.retainDeliveries.psc = s.psc ∧ s.retainDeliveries.pending = s.pending := by
  unfold State.retainDeliveries
  split <;> simp

/-- The changes of DELIVERIES are handed to the RTM (R97). -/
@[simp] theorem State.commitDeliveries_frame :
    s.commitDeliveries.now = s.now ∧ s.commitDeliveries.powered = s.powered ∧ s.commitDeliveries.pins = s.pins
      ∧ s.commitDeliveries.hlp = s.hlp ∧ s.commitDeliveries.miu = s.miu ∧ s.commitDeliveries.dle = s.dle
      ∧ s.commitDeliveries.points = s.points ∧ s.commitDeliveries.ptu = s.ptu ∧ s.commitDeliveries.pou = s.pou
      ∧ s.commitDeliveries.ddu = s.ddu ∧ s.commitDeliveries.display = s.display ∧ s.commitDeliveries.crg = s.crg
      ∧ s.commitDeliveries.psc = s.psc ∧ s.commitDeliveries.pending = s.pending := by
  unfold State.commitDeliveries
  (repeat' (first | split | dsimp only)) <;> simp

/-- The changes of CONFIG are handed to the RTM (R97). -/
@[simp] theorem State.commitConfig_frame :
    s.commitConfig.now = s.now ∧ s.commitConfig.powered = s.powered ∧ s.commitConfig.pins = s.pins
      ∧ s.commitConfig.hlp = s.hlp ∧ s.commitConfig.miu = s.miu ∧ s.commitConfig.dle = s.dle
      ∧ s.commitConfig.points = s.points ∧ s.commitConfig.ptu = s.ptu ∧ s.commitConfig.pou = s.pou
      ∧ s.commitConfig.ddu = s.ddu ∧ s.commitConfig.display = s.display ∧ s.commitConfig.crg = s.crg
      ∧ s.commitConfig.psc = s.psc ∧ s.commitConfig.pending = s.pending := by
  unfold State.commitConfig
  (repeat' (first | split | dsimp only)) <;> simp

/-- The end of an event (R97). -/
@[simp] theorem State.commit_frame :
    s.commit.now = s.now ∧ s.commit.powered = s.powered ∧ s.commit.pins = s.pins ∧ s.commit.hlp = s.hlp
      ∧ s.commit.miu = s.miu ∧ s.commit.dle = s.dle ∧ s.commit.points = s.points ∧ s.commit.ptu = s.ptu
      ∧ s.commit.pou = s.pou ∧ s.commit.ddu = s.ddu ∧ s.commit.display = s.display ∧ s.commit.crg = s.crg
      ∧ s.commit.psc = s.psc ∧ s.commit.pending = s.pending := by
  simp [State.commit]

/-- A held change of DELIVERIES (R97). -/
@[simp] theorem State.pumpDeliveries_frame :
    s.pumpDeliveries.now = s.now ∧ s.pumpDeliveries.powered = s.powered ∧ s.pumpDeliveries.pins = s.pins
      ∧ s.pumpDeliveries.hlp = s.hlp ∧ s.pumpDeliveries.miu = s.miu ∧ s.pumpDeliveries.dle = s.dle
      ∧ s.pumpDeliveries.points = s.points ∧ s.pumpDeliveries.ptu = s.ptu ∧ s.pumpDeliveries.pou = s.pou
      ∧ s.pumpDeliveries.ddu = s.ddu ∧ s.pumpDeliveries.display = s.display ∧ s.pumpDeliveries.crg = s.crg
      ∧ s.pumpDeliveries.psc = s.psc ∧ s.pumpDeliveries.pending = s.pending := by
  unfold State.pumpDeliveries
  (repeat' (first | split | dsimp only)) <;> simp

/-- A finalization is handed to the RTM (R94). -/
@[simp] theorem State.handFinalization_frame (p : Point) (r : DeliveryRecord) :
    (s.handFinalization p r).now = s.now ∧ (s.handFinalization p r).powered = s.powered
      ∧ (s.handFinalization p r).pins = s.pins ∧ (s.handFinalization p r).hlp = s.hlp
      ∧ (s.handFinalization p r).miu = s.miu ∧ (s.handFinalization p r).dle = s.dle
      ∧ (s.handFinalization p r).points = s.points ∧ (s.handFinalization p r).ptu = s.ptu
      ∧ (s.handFinalization p r).pou = s.pou ∧ (s.handFinalization p r).ddu = s.ddu
      ∧ (s.handFinalization p r).display = s.display ∧ (s.handFinalization p r).crg = s.crg
      ∧ (s.handFinalization p r).psc = s.psc ∧ (s.handFinalization p r).pending = s.pending := by
  simp [State.handFinalization]

/-- A write of CONFIG ends (R97). -/
@[simp] theorem State.endConfigWrite_frame :
    s.endConfigWrite.now = s.now ∧ s.endConfigWrite.powered = s.powered ∧ s.endConfigWrite.pins = s.pins
      ∧ s.endConfigWrite.hlp = s.hlp ∧ s.endConfigWrite.miu = s.miu ∧ s.endConfigWrite.dle = s.dle
      ∧ s.endConfigWrite.points = s.points ∧ s.endConfigWrite.ptu = s.ptu ∧ s.endConfigWrite.pou = s.pou
      ∧ s.endConfigWrite.ddu = s.ddu ∧ s.endConfigWrite.display = s.display ∧ s.endConfigWrite.crg = s.crg
      ∧ s.endConfigWrite.psc = s.psc ∧ s.endConfigWrite.pending = s.pending := by
  simp [State.endConfigWrite]

/-- A write of TOTALS ends (R97). -/
@[simp] theorem State.endTotalsWrite_frame :
    s.endTotalsWrite.now = s.now ∧ s.endTotalsWrite.powered = s.powered ∧ s.endTotalsWrite.pins = s.pins
      ∧ s.endTotalsWrite.hlp = s.hlp ∧ s.endTotalsWrite.miu = s.miu ∧ s.endTotalsWrite.dle = s.dle
      ∧ s.endTotalsWrite.points = s.points ∧ s.endTotalsWrite.ptu = s.ptu ∧ s.endTotalsWrite.pou = s.pou
      ∧ s.endTotalsWrite.ddu = s.ddu ∧ s.endTotalsWrite.display = s.display ∧ s.endTotalsWrite.crg = s.crg
      ∧ s.endTotalsWrite.psc = s.psc ∧ s.endTotalsWrite.pending = s.pending := by
  simp [State.endTotalsWrite]

/-- A write of DELIVERIES ends (R97). -/
@[simp] theorem State.endDeliveriesWrite_frame :
    s.endDeliveriesWrite.now = s.now ∧ s.endDeliveriesWrite.powered = s.powered ∧ s.endDeliveriesWrite.pins = s.pins
      ∧ s.endDeliveriesWrite.hlp = s.hlp ∧ s.endDeliveriesWrite.miu = s.miu ∧ s.endDeliveriesWrite.dle = s.dle
      ∧ s.endDeliveriesWrite.points = s.points ∧ s.endDeliveriesWrite.ptu = s.ptu ∧ s.endDeliveriesWrite.pou = s.pou
      ∧ s.endDeliveriesWrite.ddu = s.ddu ∧ s.endDeliveriesWrite.display = s.display
      ∧ s.endDeliveriesWrite.crg = s.crg ∧ s.endDeliveriesWrite.psc = s.psc
      ∧ s.endDeliveriesWrite.pending = s.pending := by
  simp [State.endDeliveriesWrite]

/-- A pulse goes out, or the output is READY (R89, R90). -/
@[simp] theorem State.emit_frame (p : Point) :
    (s.emit p).now = s.now ∧ (s.emit p).powered = s.powered ∧ (s.emit p).pins = s.pins ∧ (s.emit p).hlp = s.hlp
      ∧ (s.emit p).miu = s.miu ∧ (s.emit p).dle = s.dle ∧ (s.emit p).ptu = s.ptu ∧ (s.emit p).ddu = s.ddu
      ∧ (s.emit p).display = s.display ∧ (s.emit p).crg = s.crg ∧ (s.emit p).psc = s.psc
      ∧ (s.emit p).pending = s.pending := by
  unfold State.emit
  (repeat' (first | split | dsimp only)) <;> simp

/-- A pulse is made (R88). -/
@[simp] theorem State.makePulse_frame (p : Point) (tag : Nat) :
    (s.makePulse p tag).now = s.now ∧ (s.makePulse p tag).powered = s.powered ∧ (s.makePulse p tag).pins = s.pins
      ∧ (s.makePulse p tag).hlp = s.hlp ∧ (s.makePulse p tag).miu = s.miu ∧ (s.makePulse p tag).dle = s.dle
      ∧ (s.makePulse p tag).ptu = s.ptu ∧ (s.makePulse p tag).ddu = s.ddu ∧ (s.makePulse p tag).display = s.display
      ∧ (s.makePulse p tag).crg = s.crg ∧ (s.makePulse p tag).psc = s.psc ∧ (s.makePulse p tag).pending = s.pending := by
  unfold State.makePulse
  (repeat' (first | split | dsimp only)) <;> simp

/-- A forward step notice at the pulse output (R87). -/
@[simp] theorem State.advance_frame (p : Point) (m : Meter) (net : Int) :
    (s.advance p m net).now = s.now ∧ (s.advance p m net).powered = s.powered ∧ (s.advance p m net).pins = s.pins
      ∧ (s.advance p m net).hlp = s.hlp ∧ (s.advance p m net).miu = s.miu ∧ (s.advance p m net).dle = s.dle
      ∧ (s.advance p m net).ptu = s.ptu ∧ (s.advance p m net).ddu = s.ddu ∧ (s.advance p m net).display = s.display
      ∧ (s.advance p m net).crg = s.crg ∧ (s.advance p m net).psc = s.psc ∧ (s.advance p m net).pending = s.pending := by
  unfold State.advance
  (repeat' (first | split | dsimp only)) <;> simp

/-- The valves open (R63). -/
@[simp] theorem State.openValves_frame (p : Point) (m : Meter) (r : DeliveryRecord) :
    (s.openValves p m r).now = s.now ∧ (s.openValves p m r).powered = s.powered ∧ (s.openValves p m r).pins = s.pins
      ∧ (s.openValves p m r).dle = s.dle ∧ (s.openValves p m r).ptu = s.ptu ∧ (s.openValves p m r).ddu = s.ddu
      ∧ (s.openValves p m r).display = s.display ∧ (s.openValves p m r).crg = s.crg
      ∧ (s.openValves p m r).psc = s.psc ∧ (s.openValves p m r).pending = s.pending := by
  unfold State.openValves
  (repeat' (first | split | dsimp only)) <;> simp

/-- The valve-opening test of a point (R63). -/
@[simp] theorem State.tryOpen_frame (p : Point) :
    (s.tryOpen p).now = s.now ∧ (s.tryOpen p).powered = s.powered ∧ (s.tryOpen p).pins = s.pins
      ∧ (s.tryOpen p).dle = s.dle ∧ (s.tryOpen p).ptu = s.ptu ∧ (s.tryOpen p).ddu = s.ddu
      ∧ (s.tryOpen p).display = s.display ∧ (s.tryOpen p).crg = s.crg ∧ (s.tryOpen p).psc = s.psc
      ∧ (s.tryOpen p).pending = s.pending := by
  unfold State.tryOpen
  (repeat' (first | split | dsimp only)) <;> simp

/-- The valve-opening test of a meter (R63). -/
@[simp] theorem State.tryOpenHolder_frame (m : Meter) :
    (s.tryOpenHolder m).now = s.now ∧ (s.tryOpenHolder m).powered = s.powered ∧ (s.tryOpenHolder m).pins = s.pins
      ∧ (s.tryOpenHolder m).dle = s.dle ∧ (s.tryOpenHolder m).ptu = s.ptu ∧ (s.tryOpenHolder m).ddu = s.ddu
      ∧ (s.tryOpenHolder m).display = s.display ∧ (s.tryOpenHolder m).crg = s.crg ∧ (s.tryOpenHolder m).psc = s.psc
      ∧ (s.tryOpenHolder m).pending = s.pending := by
  unfold State.tryOpenHolder
  (repeat' (first | split | dsimp only)) <;> simp

/-- A grant of the motor start queue (R176). -/
@[simp] theorem State.grant_frame (m : Meter) (rest : List Meter) :
    (s.grant m rest).now = s.now ∧ (s.grant m rest).powered = s.powered ∧ (s.grant m rest).pins = s.pins
      ∧ (s.grant m rest).ptu = s.ptu ∧ (s.grant m rest).ddu = s.ddu ∧ (s.grant m rest).display = s.display
      ∧ (s.grant m rest).crg = s.crg ∧ (s.grant m rest).pending = s.pending := by
  unfold State.grant
  dsimp only
  simp

/-- The tests of the head of the motor start queue (R176). -/
@[simp] theorem State.testHead_frame (fuel : Nat) :
    (s.testHead fuel).now = s.now ∧ (s.testHead fuel).powered = s.powered ∧ (s.testHead fuel).pins = s.pins
      ∧ (s.testHead fuel).ptu = s.ptu ∧ (s.testHead fuel).ddu = s.ddu ∧ (s.testHead fuel).display = s.display
      ∧ (s.testHead fuel).crg = s.crg ∧ (s.testHead fuel).pending = s.pending := by
  induction fuel generalizing s with
  | zero => simp [State.testHead]
  | succ n ih =>
    unfold State.testHead
    split
    · simp
    · split <;> simp [ih]

/-- The test of the motor start queue (R176). -/
@[simp] theorem State.testStartQueue_frame :
    s.testStartQueue.now = s.now ∧ s.testStartQueue.powered = s.powered ∧ s.testStartQueue.pins = s.pins
      ∧ s.testStartQueue.ptu = s.ptu ∧ s.testStartQueue.ddu = s.ddu ∧ s.testStartQueue.display = s.display
      ∧ s.testStartQueue.crg = s.crg ∧ s.testStartQueue.pending = s.pending := by
  simp [State.testStartQueue]

/-- A motor start request (R176). -/
@[simp] theorem State.requestStart_frame (m : Meter) :
    (s.requestStart m).now = s.now ∧ (s.requestStart m).powered = s.powered ∧ (s.requestStart m).pins = s.pins
      ∧ (s.requestStart m).ptu = s.ptu ∧ (s.requestStart m).ddu = s.ddu ∧ (s.requestStart m).display = s.display
      ∧ (s.requestStart m).crg = s.crg ∧ (s.requestStart m).pending = s.pending := by
  simp [State.requestStart]

/-- A withdrawn motor start request (R177). -/
@[simp] theorem State.withdrawStart_frame (m : Meter) :
    (s.withdrawStart m).now = s.now ∧ (s.withdrawStart m).powered = s.powered ∧ (s.withdrawStart m).pins = s.pins
      ∧ (s.withdrawStart m).ptu = s.ptu ∧ (s.withdrawStart m).ddu = s.ddu ∧ (s.withdrawStart m).display = s.display
      ∧ (s.withdrawStart m).crg = s.crg ∧ (s.withdrawStart m).pending = s.pending := by
  unfold State.withdrawStart
  (repeat' (first | split | dsimp only)) <;> simp

/-- A holder demands its motor (R62). -/
@[simp] theorem State.demandMotor_frame (m : Meter) :
    (s.demandMotor m).now = s.now ∧ (s.demandMotor m).powered = s.powered ∧ (s.demandMotor m).pins = s.pins
      ∧ (s.demandMotor m).ptu = s.ptu ∧ (s.demandMotor m).ddu = s.ddu ∧ (s.demandMotor m).display = s.display
      ∧ (s.demandMotor m).crg = s.crg ∧ (s.demandMotor m).pending = s.pending := by
  unfold State.demandMotor
  (repeat' (first | split | dsimp only)) <;> simp

/-- A holder stops (R62). -/
@[simp] theorem State.dropMotor_frame (m : Meter) :
    (s.dropMotor m).now = s.now ∧ (s.dropMotor m).powered = s.powered ∧ (s.dropMotor m).pins = s.pins
      ∧ (s.dropMotor m).ptu = s.ptu ∧ (s.dropMotor m).ddu = s.ddu ∧ (s.dropMotor m).display = s.display
      ∧ (s.dropMotor m).crg = s.crg ∧ (s.dropMotor m).pending = s.pending := by
  unfold State.dropMotor
  (repeat' (first | split | dsimp only)) <;> simp

/-- A meter is released (R62). -/
@[simp] theorem State.releaseMotor_frame (m : Meter) :
    (s.releaseMotor m).now = s.now ∧ (s.releaseMotor m).powered = s.powered ∧ (s.releaseMotor m).pins = s.pins
      ∧ (s.releaseMotor m).hlp = s.hlp ∧ (s.releaseMotor m).miu = s.miu ∧ (s.releaseMotor m).points = s.points
      ∧ (s.releaseMotor m).ptu = s.ptu ∧ (s.releaseMotor m).pou = s.pou ∧ (s.releaseMotor m).ddu = s.ddu
      ∧ (s.releaseMotor m).display = s.display ∧ (s.releaseMotor m).crg = s.crg ∧ (s.releaseMotor m).psc = s.psc
      ∧ (s.releaseMotor m).rtm = s.rtm ∧ (s.releaseMotor m).pending = s.pending := by
  unfold State.releaseMotor
  (repeat' (first | split | dsimp only)) <;> simp

/-- Every motor goes off (R62, R177). -/
@[simp] theorem State.allMotorsOff_frame :
    s.allMotorsOff.now = s.now ∧ s.allMotorsOff.powered = s.powered ∧ s.allMotorsOff.pins = s.pins
      ∧ s.allMotorsOff.hlp = s.hlp ∧ s.allMotorsOff.miu = s.miu ∧ s.allMotorsOff.points = s.points
      ∧ s.allMotorsOff.ptu = s.ptu ∧ s.allMotorsOff.pou = s.pou ∧ s.allMotorsOff.ddu = s.ddu
      ∧ s.allMotorsOff.display = s.display ∧ s.allMotorsOff.crg = s.crg ∧ s.allMotorsOff.rtm = s.rtm
      ∧ s.allMotorsOff.pending = s.pending := by
  simp [State.allMotorsOff]

/-- A zero check is withdrawn (R118). -/
@[simp] theorem State.withdrawZero_frame (x : Side) :
    (s.withdrawZero x).now = s.now ∧ (s.withdrawZero x).powered = s.powered ∧ (s.withdrawZero x).pins = s.pins
      ∧ (s.withdrawZero x).hlp = s.hlp ∧ (s.withdrawZero x).miu = s.miu ∧ (s.withdrawZero x).dle = s.dle
      ∧ (s.withdrawZero x).points = s.points ∧ (s.withdrawZero x).ptu = s.ptu ∧ (s.withdrawZero x).pou = s.pou
      ∧ (s.withdrawZero x).display = s.display ∧ (s.withdrawZero x).crg = s.crg ∧ (s.withdrawZero x).psc = s.psc
      ∧ (s.withdrawZero x).rtm = s.rtm ∧ (s.withdrawZero x).pending = s.pending := by
  simp [State.withdrawZero]

/-- A display test ends (R120, R121). -/
@[simp] theorem State.endTest_frame (x : Side) (r : TestResult) :
    (s.endTest x r).now = s.now ∧ (s.endTest x r).powered = s.powered ∧ (s.endTest x r).pins = s.pins
      ∧ (s.endTest x r).miu = s.miu ∧ (s.endTest x r).dle = s.dle ∧ (s.endTest x r).points = s.points
      ∧ (s.endTest x r).ptu = s.ptu ∧ (s.endTest x r).pou = s.pou ∧ (s.endTest x r).display = s.display
      ∧ (s.endTest x r).crg = s.crg ∧ (s.endTest x r).psc = s.psc ∧ (s.endTest x r).rtm = s.rtm
      ∧ (s.endTest x r).pending = s.pending := by
  unfold State.endTest
  (repeat' (first | split | dsimp only)) <;> simp

/-- A display hold ends (R123). -/
@[simp] theorem State.endHold_frame (x : Side) (r : HoldEnd) :
    (s.endHold x r).now = s.now ∧ (s.endHold x r).powered = s.powered ∧ (s.endHold x r).pins = s.pins
      ∧ (s.endHold x r).miu = s.miu ∧ (s.endHold x r).dle = s.dle ∧ (s.endHold x r).points = s.points
      ∧ (s.endHold x r).ptu = s.ptu ∧ (s.endHold x r).pou = s.pou ∧ (s.endHold x r).display = s.display
      ∧ (s.endHold x r).crg = s.crg ∧ (s.endHold x r).psc = s.psc ∧ (s.endHold x r).rtm = s.rtm
      ∧ (s.endHold x r).pending = s.pending := by
  unfold State.endHold
  (repeat' (first | split | dsimp only)) <;> simp

/-- A side takes a hold (R122). -/
@[simp] theorem State.takeHold_frame (x : Side) (h : Hold) :
    (s.takeHold x h).now = s.now ∧ (s.takeHold x h).powered = s.powered ∧ (s.takeHold x h).pins = s.pins
      ∧ (s.takeHold x h).miu = s.miu ∧ (s.takeHold x h).dle = s.dle ∧ (s.takeHold x h).points = s.points
      ∧ (s.takeHold x h).ptu = s.ptu ∧ (s.takeHold x h).pou = s.pou ∧ (s.takeHold x h).display = s.display
      ∧ (s.takeHold x h).crg = s.crg ∧ (s.takeHold x h).psc = s.psc ∧ (s.takeHold x h).rtm = s.rtm
      ∧ (s.takeHold x h).pending = s.pending := by
  unfold State.takeHold
  (repeat' (first | split | dsimp only)) <;> simp

/-- A hold that awaited the finish (R123). -/
@[simp] theorem State.holdFinished_frame (x : Side) :
    (s.holdFinished x).now = s.now ∧ (s.holdFinished x).powered = s.powered ∧ (s.holdFinished x).pins = s.pins
      ∧ (s.holdFinished x).miu = s.miu ∧ (s.holdFinished x).dle = s.dle ∧ (s.holdFinished x).points = s.points
      ∧ (s.holdFinished x).ptu = s.ptu ∧ (s.holdFinished x).pou = s.pou ∧ (s.holdFinished x).display = s.display
      ∧ (s.holdFinished x).crg = s.crg ∧ (s.holdFinished x).psc = s.psc ∧ (s.holdFinished x).rtm = s.rtm
      ∧ (s.holdFinished x).pending = s.pending := by
  unfold State.holdFinished
  (repeat' (first | split | dsimp only)) <;> simp

/-- The test of a point for a nozzle that is up (R57). -/
@[simp] theorem State.callIfUp_frame (p : Point) :
    (s.callIfUp p).now = s.now ∧ (s.callIfUp p).powered = s.powered ∧ (s.callIfUp p).pins = s.pins
      ∧ (s.callIfUp p).miu = s.miu ∧ (s.callIfUp p).dle = s.dle ∧ (s.callIfUp p).ptu = s.ptu
      ∧ (s.callIfUp p).pou = s.pou ∧ (s.callIfUp p).ddu = s.ddu ∧ (s.callIfUp p).display = s.display
      ∧ (s.callIfUp p).crg = s.crg ∧ (s.callIfUp p).psc = s.psc ∧ (s.callIfUp p).rtm = s.rtm
      ∧ (s.callIfUp p).pending = s.pending := by
  unfold State.callIfUp
  (repeat' (first | split | dsimp only)) <;> simp

/-- Entry to IDLE (R38, R57). -/
@[simp] theorem State.enterIdle_frame (p : Point) :
    (s.enterIdle p).now = s.now ∧ (s.enterIdle p).powered = s.powered ∧ (s.enterIdle p).pins = s.pins
      ∧ (s.enterIdle p).miu = s.miu ∧ (s.enterIdle p).dle = s.dle ∧ (s.enterIdle p).pou = s.pou
      ∧ (s.enterIdle p).ddu = s.ddu ∧ (s.enterIdle p).display = s.display ∧ (s.enterIdle p).crg = s.crg
      ∧ (s.enterIdle p).psc = s.psc ∧ (s.enterIdle p).pending = s.pending := by
  simp [State.enterIdle]

/-- Entry to CLOSED (R38). -/
@[simp] theorem State.enterClosed_frame (p : Point) :
    (s.enterClosed p).now = s.now ∧ (s.enterClosed p).powered = s.powered ∧ (s.enterClosed p).pins = s.pins
      ∧ (s.enterClosed p).miu = s.miu ∧ (s.enterClosed p).dle = s.dle ∧ (s.enterClosed p).pou = s.pou
      ∧ (s.enterClosed p).ddu = s.ddu ∧ (s.enterClosed p).display = s.display ∧ (s.enterClosed p).crg = s.crg
      ∧ (s.enterClosed p).psc = s.psc ∧ (s.enterClosed p).pending = s.pending := by
  simp [State.enterClosed]

/-- Entry to a free state (R71, R72). -/
@[simp] theorem State.enterFree_frame (p : Point) :
    (s.enterFree p).now = s.now ∧ (s.enterFree p).powered = s.powered ∧ (s.enterFree p).pins = s.pins
      ∧ (s.enterFree p).miu = s.miu ∧ (s.enterFree p).dle = s.dle ∧ (s.enterFree p).pou = s.pou
      ∧ (s.enterFree p).ddu = s.ddu ∧ (s.enterFree p).display = s.display ∧ (s.enterFree p).crg = s.crg
      ∧ (s.enterFree p).psc = s.psc ∧ (s.enterFree p).pending = s.pending := by
  unfold State.enterFree
  (repeat' (first | split | dsimp only)) <;> simp

/-- The current record moves (R71, R72). -/
@[simp] theorem State.clearRecord_frame (p : Point) :
    (s.clearRecord p).now = s.now ∧ (s.clearRecord p).powered = s.powered ∧ (s.clearRecord p).pins = s.pins
      ∧ (s.clearRecord p).miu = s.miu ∧ (s.clearRecord p).dle = s.dle ∧ (s.clearRecord p).pou = s.pou
      ∧ (s.clearRecord p).ddu = s.ddu ∧ (s.clearRecord p).display = s.display ∧ (s.clearRecord p).crg = s.crg
      ∧ (s.clearRecord p).psc = s.psc ∧ (s.clearRecord p).pending = s.pending := by
  simp [State.clearRecord]

/-- A point stops waiting (R59). -/
@[simp] theorem State.removeWaiter_frame (p : Point) :
    (s.removeWaiter p).now = s.now ∧ (s.removeWaiter p).powered = s.powered ∧ (s.removeWaiter p).pins = s.pins
      ∧ (s.removeWaiter p).hlp = s.hlp ∧ (s.removeWaiter p).miu = s.miu ∧ (s.removeWaiter p).points = s.points
      ∧ (s.removeWaiter p).ptu = s.ptu ∧ (s.removeWaiter p).pou = s.pou ∧ (s.removeWaiter p).ddu = s.ddu
      ∧ (s.removeWaiter p).display = s.display ∧ (s.removeWaiter p).crg = s.crg ∧ (s.removeWaiter p).psc = s.psc
      ∧ (s.removeWaiter p).rtm = s.rtm ∧ (s.removeWaiter p).pending = s.pending := by
  simp [State.removeWaiter]

/-- A begun record is discarded (R52). -/
@[simp] theorem State.discard_frame (p : Point) :
    (s.discard p).now = s.now ∧ (s.discard p).powered = s.powered ∧ (s.discard p).pins = s.pins
      ∧ (s.discard p).hlp = s.hlp ∧ (s.discard p).miu = s.miu ∧ (s.discard p).dle = s.dle
      ∧ (s.discard p).ptu = s.ptu ∧ (s.discard p).pou = s.pou ∧ (s.discard p).ddu = s.ddu
      ∧ (s.discard p).display = s.display ∧ (s.discard p).crg = s.crg ∧ (s.discard p).psc = s.psc
      ∧ (s.discard p).pending = s.pending := by
  simp [State.discard]

/-- A point leaves STARTING without its meter (R64). -/
@[simp] theorem State.leaveStarting_frame (p : Point) :
    (s.leaveStarting p).now = s.now ∧ (s.leaveStarting p).powered = s.powered ∧ (s.leaveStarting p).pins = s.pins
      ∧ (s.leaveStarting p).hlp = s.hlp ∧ (s.leaveStarting p).miu = s.miu ∧ (s.leaveStarting p).ptu = s.ptu
      ∧ (s.leaveStarting p).pou = s.pou ∧ (s.leaveStarting p).ddu = s.ddu ∧ (s.leaveStarting p).display = s.display
      ∧ (s.leaveStarting p).crg = s.crg ∧ (s.leaveStarting p).psc = s.psc ∧ (s.leaveStarting p).pending = s.pending := by
  simp [State.leaveStarting]

/-- A waiter returns to AUTHORIZED (R59). -/
@[simp] theorem State.returnToAuthorized_frame (p : Point) :
    (s.returnToAuthorized p).now = s.now ∧ (s.returnToAuthorized p).powered = s.powered
      ∧ (s.returnToAuthorized p).pins = s.pins ∧ (s.returnToAuthorized p).hlp = s.hlp
      ∧ (s.returnToAuthorized p).miu = s.miu ∧ (s.returnToAuthorized p).ptu = s.ptu
      ∧ (s.returnToAuthorized p).pou = s.pou ∧ (s.returnToAuthorized p).ddu = s.ddu
      ∧ (s.returnToAuthorized p).display = s.display ∧ (s.returnToAuthorized p).crg = s.crg
      ∧ (s.returnToAuthorized p).psc = s.psc ∧ (s.returnToAuthorized p).pending = s.pending := by
  simp [State.returnToAuthorized]

/-- A waiter is refused (R59). -/
@[simp] theorem State.refuseWaiter_frame (p : Point) (r : LiftRefusal) :
    (s.refuseWaiter p r).now = s.now ∧ (s.refuseWaiter p r).powered = s.powered ∧ (s.refuseWaiter p r).pins = s.pins
      ∧ (s.refuseWaiter p r).miu = s.miu ∧ (s.refuseWaiter p r).ptu = s.ptu ∧ (s.refuseWaiter p r).pou = s.pou
      ∧ (s.refuseWaiter p r).ddu = s.ddu ∧ (s.refuseWaiter p r).display = s.display
      ∧ (s.refuseWaiter p r).crg = s.crg ∧ (s.refuseWaiter p r).psc = s.psc
      ∧ (s.refuseWaiter p r).pending = s.pending := by
  unfold State.refuseWaiter
  dsimp only
  simp

/-- An authorization ends (R73 to R78). -/
@[simp] theorem State.endAuthorization_frame (p : Point) (r : AuthEnd) :
    (s.endAuthorization p r).now = s.now ∧ (s.endAuthorization p r).powered = s.powered
      ∧ (s.endAuthorization p r).pins = s.pins ∧ (s.endAuthorization p r).miu = s.miu
      ∧ (s.endAuthorization p r).dle = s.dle ∧ (s.endAuthorization p r).pou = s.pou
      ∧ (s.endAuthorization p r).ddu = s.ddu ∧ (s.endAuthorization p r).display = s.display
      ∧ (s.endAuthorization p r).crg = s.crg ∧ (s.endAuthorization p r).psc = s.psc
      ∧ (s.endAuthorization p r).pending = s.pending := by
  simp [State.endAuthorization]

/-- Entry to STOPPING (R68). -/
@[simp] theorem State.enterStopping_frame (p : Point) (m : Meter) (c : StopCause) :
    (s.enterStopping p m c).now = s.now ∧ (s.enterStopping p m c).powered = s.powered
      ∧ (s.enterStopping p m c).pins = s.pins ∧ (s.enterStopping p m c).ptu = s.ptu
      ∧ (s.enterStopping p m c).display = s.display ∧ (s.enterStopping p m c).crg = s.crg
      ∧ (s.enterStopping p m c).pending = s.pending := by
  unfold State.enterStopping
  dsimp only
  simp

/-- A holder is stopped (R64, R66, R69). -/
@[simp] theorem State.stopHolder_frame (p : Point) (c : StopCause) :
    (s.stopHolder p c).now = s.now ∧ (s.stopHolder p c).powered = s.powered ∧ (s.stopHolder p c).pins = s.pins
      ∧ (s.stopHolder p c).ptu = s.ptu ∧ (s.stopHolder p c).display = s.display ∧ (s.stopHolder p c).crg = s.crg
      ∧ (s.stopHolder p c).pending = s.pending := by
  unfold State.stopHolder
  (repeat' (first | split | dsimp only)) <;> simp

/-- A zero check is asked for (R116). -/
@[simp] theorem State.askZero_frame (x : Side) :
    (s.askZero x).1.now = s.now ∧ (s.askZero x).1.powered = s.powered ∧ (s.askZero x).1.pins = s.pins
      ∧ (s.askZero x).1.hlp = s.hlp ∧ (s.askZero x).1.miu = s.miu ∧ (s.askZero x).1.dle = s.dle
      ∧ (s.askZero x).1.points = s.points ∧ (s.askZero x).1.ptu = s.ptu ∧ (s.askZero x).1.pou = s.pou
      ∧ (s.askZero x).1.display = s.display ∧ (s.askZero x).1.crg = s.crg ∧ (s.askZero x).1.psc = s.psc ∧ (s.askZero x).1.rtm = s.rtm
      ∧ (s.askZero x).1.pending = s.pending := by
  unfold State.askZero
  split <;> simp

/-- A point becomes the holder (R61). -/
@[simp] theorem State.becomeHolder_frame (p : Point) (m : Meter) :
    (s.becomeHolder p m).now = s.now ∧ (s.becomeHolder p m).powered = s.powered ∧ (s.becomeHolder p m).pins = s.pins
      ∧ (s.becomeHolder p m).ptu = s.ptu ∧ (s.becomeHolder p m).display = s.display
      ∧ (s.becomeHolder p m).crg = s.crg ∧ (s.becomeHolder p m).pending = s.pending := by
  unfold State.becomeHolder
  split
  · simp
  · dsimp only
    split <;> simp

/-- A claim on a meter (R58). -/
@[simp] theorem State.claim_frame (p : Point) (m : Meter) :
    (s.claim p m).now = s.now ∧ (s.claim p m).powered = s.powered ∧ (s.claim p m).pins = s.pins
      ∧ (s.claim p m).ptu = s.ptu ∧ (s.claim p m).display = s.display ∧ (s.claim p m).crg = s.crg
      ∧ (s.claim p m).pending = s.pending := by
  unfold State.claim
  (repeat' (first | split | dsimp only)) <;> simp

/-- A meter is handed over or released (R59). -/
@[simp] theorem State.releaseMeter_frame (m : Meter) :
    (s.releaseMeter m).now = s.now ∧ (s.releaseMeter m).powered = s.powered ∧ (s.releaseMeter m).pins = s.pins
      ∧ (s.releaseMeter m).ptu = s.ptu ∧ (s.releaseMeter m).display = s.display ∧ (s.releaseMeter m).crg = s.crg
      ∧ (s.releaseMeter m).pending = s.pending := by
  unfold State.releaseMeter
  (repeat' (first | split | dsimp only)) <;> simp

/-- An accepted lift (R54). -/
@[simp] theorem State.acceptLift_frame (p : Point) (a : Authorization) (k : Position) :
    (s.acceptLift p a k).now = s.now ∧ (s.acceptLift p a k).powered = s.powered ∧ (s.acceptLift p a k).pins = s.pins
      ∧ (s.acceptLift p a k).ptu = s.ptu ∧ (s.acceptLift p a k).display = s.display
      ∧ (s.acceptLift p a k).crg = s.crg ∧ (s.acceptLift p a k).pending = s.pending := by
  unfold State.acceptLift
  dsimp only
  simp

/-- A judged lift (R54). -/
@[simp] theorem State.judgeLift_frame (p : Point) (k : Position) :
    (s.judgeLift p k).now = s.now ∧ (s.judgeLift p k).powered = s.powered ∧ (s.judgeLift p k).pins = s.pins
      ∧ (s.judgeLift p k).ptu = s.ptu ∧ (s.judgeLift p k).display = s.display ∧ (s.judgeLift p k).crg = s.crg
      ∧ (s.judgeLift p k).pending = s.pending := by
  unfold State.judgeLift
  (repeat' (first | split | dsimp only)) <;> simp

/-- A finalization (R70). -/
@[simp] theorem State.finalize_frame (p : Point) (m : Meter) (r : DeliveryRecord) :
    (s.finalize p m r).now = s.now ∧ (s.finalize p m r).powered = s.powered ∧ (s.finalize p m r).pins = s.pins
      ∧ (s.finalize p m r).ptu = s.ptu ∧ (s.finalize p m r).display = s.display ∧ (s.finalize p m r).crg = s.crg
      ∧ (s.finalize p m r).pending = s.pending := by
  unfold State.finalize
  dsimp only
  simp

/-- The end of a delivery (R70, R71). -/
@[simp] theorem State.finish_frame (p : Point) :
    (s.finish p).now = s.now ∧ (s.finish p).powered = s.powered ∧ (s.finish p).pins = s.pins
      ∧ (s.finish p).display = s.display ∧ (s.finish p).crg = s.crg ∧ (s.finish p).pending = s.pending := by
  unfold State.finish
  (repeat' (first | split | dsimp only)) <;> simp

/-- A step notice (R67, R69). -/
@[simp] theorem State.stepNotice_frame (p : Point) (b : Bool) :
    (s.stepNotice p b).now = s.now ∧ (s.stepNotice p b).powered = s.powered ∧ (s.stepNotice p b).pins = s.pins
      ∧ (s.stepNotice p b).hlp = s.hlp ∧ (s.stepNotice p b).miu = s.miu ∧ (s.stepNotice p b).dle = s.dle
      ∧ (s.stepNotice p b).ptu = s.ptu ∧ (s.stepNotice p b).pou = s.pou ∧ (s.stepNotice p b).ddu = s.ddu
      ∧ (s.stepNotice p b).display = s.display ∧ (s.stepNotice p b).crg = s.crg ∧ (s.stepNotice p b).psc = s.psc
      ∧ (s.stepNotice p b).rtm = s.rtm ∧ (s.stepNotice p b).pending = s.pending := by
  unfold State.stepNotice
  dsimp only
  simp

/-- A SLOW compare event (R65). -/
@[simp] theorem State.slowEvent_frame (p : Point) (m : Meter) :
    (s.slowEvent p m).now = s.now ∧ (s.slowEvent p m).powered = s.powered ∧ (s.slowEvent p m).pins = s.pins
      ∧ (s.slowEvent p m).hlp = s.hlp ∧ (s.slowEvent p m).dle = s.dle ∧ (s.slowEvent p m).ptu = s.ptu
      ∧ (s.slowEvent p m).pou = s.pou ∧ (s.slowEvent p m).ddu = s.ddu ∧ (s.slowEvent p m).display = s.display
      ∧ (s.slowEvent p m).crg = s.crg ∧ (s.slowEvent p m).psc = s.psc ∧ (s.slowEvent p m).pending = s.pending := by
  unfold State.slowEvent
  (repeat' (first | split | dsimp only)) <;> simp

/-- A STOP compare event (R66). -/
@[simp] theorem State.stopEvent_frame (p : Point) :
    (s.stopEvent p).now = s.now ∧ (s.stopEvent p).powered = s.powered ∧ (s.stopEvent p).pins = s.pins
      ∧ (s.stopEvent p).ptu = s.ptu ∧ (s.stopEvent p).display = s.display ∧ (s.stopEvent p).crg = s.crg
      ∧ (s.stopEvent p).pending = s.pending := by
  unfold State.stopEvent
  (repeat' (first | split | dsimp only)) <;> simp

/-- A meter or valve fault (R59, R66). -/
@[simp] theorem State.meterEvent_frame (m : Meter) (c : StopCause) :
    (s.meterEvent m c).now = s.now ∧ (s.meterEvent m c).powered = s.powered ∧ (s.meterEvent m c).pins = s.pins
      ∧ (s.meterEvent m c).ptu = s.ptu ∧ (s.meterEvent m c).display = s.display ∧ (s.meterEvent m c).crg = s.crg
      ∧ (s.meterEvent m c).pending = s.pending := by
  unfold State.meterEvent
  (repeat' (first | split | dsimp only)) <;> simp

/-- A failed zero check (R64). -/
@[simp] theorem State.zeroFailed_frame (x : Side) :
    (s.zeroFailed x).now = s.now ∧ (s.zeroFailed x).powered = s.powered ∧ (s.zeroFailed x).pins = s.pins
      ∧ (s.zeroFailed x).ptu = s.ptu ∧ (s.zeroFailed x).display = s.display ∧ (s.zeroFailed x).crg = s.crg
      ∧ (s.zeroFailed x).pending = s.pending := by
  unfold State.zeroFailed
  (repeat' (first | split | dsimp only)) <;> simp

/-- A passed zero check (R63). -/
@[simp] theorem State.zeroPassed_frame (x : Side) :
    (s.zeroPassed x).now = s.now ∧ (s.zeroPassed x).powered = s.powered ∧ (s.zeroPassed x).pins = s.pins
      ∧ (s.zeroPassed x).dle = s.dle ∧ (s.zeroPassed x).ptu = s.ptu ∧ (s.zeroPassed x).display = s.display
      ∧ (s.zeroPassed x).crg = s.crg ∧ (s.zeroPassed x).psc = s.psc ∧ (s.zeroPassed x).pending = s.pending := by
  simp [State.zeroPassed]

/-- CANCEL at a point (R73). -/
@[simp] theorem State.cancelPoint_frame (p : Point) :
    (s.cancelPoint p).now = s.now ∧ (s.cancelPoint p).powered = s.powered ∧ (s.cancelPoint p).pins = s.pins
      ∧ (s.cancelPoint p).display = s.display ∧ (s.cancelPoint p).crg = s.crg
      ∧ (s.cancelPoint p).pending = s.pending := by
  unfold State.cancelPoint
  (repeat' (first | split | dsimp only)) <;> simp

/-- An end of permission (R64, R76). -/
@[simp] theorem State.endPermission_frame (p : Point) (r : AuthEnd) (c : StopCause) :
    (s.endPermission p r c).now = s.now ∧ (s.endPermission p r c).powered = s.powered
      ∧ (s.endPermission p r c).pins = s.pins ∧ (s.endPermission p r c).display = s.display
      ∧ (s.endPermission p r c).crg = s.crg ∧ (s.endPermission p r c).pending = s.pending := by
  unfold State.endPermission
  (repeat' (first | split | dsimp only)) <;> simp

/-- The emergency stop at the points (R77). -/
@[simp] theorem State.emergencyStop_frame :
    s.emergencyStop.now = s.now ∧ s.emergencyStop.powered = s.powered ∧ s.emergencyStop.pins = s.pins
      ∧ s.emergencyStop.display = s.display ∧ s.emergencyStop.crg = s.crg ∧ s.emergencyStop.pending = s.pending := by
  simp only [State.emergencyStop, State.emergencyDelivery, State.emergencyAuthorized]
  (repeat' split) <;> simp

/-- The end of a reader session (R76). -/
@[simp] theorem State.sessionEnd_frame (n : Nat) :
    (s.sessionEnd n).now = s.now ∧ (s.sessionEnd n).powered = s.powered ∧ (s.sessionEnd n).pins = s.pins
      ∧ (s.sessionEnd n).display = s.display ∧ (s.sessionEnd n).crg = s.crg ∧ (s.sessionEnd n).pending = s.pending := by
  simp only [State.sessionEnd, State.sessionEndPoint]
  (repeat' split) <;> simp

/-- The points open (R79). -/
@[simp] theorem State.openPoints_frame :
    s.openPoints.now = s.now ∧ s.openPoints.powered = s.powered ∧ s.openPoints.pins = s.pins
      ∧ s.openPoints.miu = s.miu ∧ s.openPoints.dle = s.dle ∧ s.openPoints.pou = s.pou ∧ s.openPoints.ddu = s.ddu
      ∧ s.openPoints.display = s.display ∧ s.openPoints.crg = s.crg ∧ s.openPoints.psc = s.psc
      ∧ s.openPoints.pending = s.pending := by
  simp only [State.openPoints, State.openPoint]
  (repeat' split) <;> simp

/-- Draining is complete (R79). -/
@[simp] theorem State.drainPoints_frame :
    s.drainPoints.now = s.now ∧ s.drainPoints.powered = s.powered ∧ s.drainPoints.pins = s.pins
      ∧ s.drainPoints.miu = s.miu ∧ s.drainPoints.dle = s.dle ∧ s.drainPoints.pou = s.pou
      ∧ s.drainPoints.ddu = s.ddu ∧ s.drainPoints.display = s.display ∧ s.drainPoints.crg = s.crg
      ∧ s.drainPoints.psc = s.psc ∧ s.drainPoints.pending = s.pending := by
  simp only [State.drainPoints, State.drainPoint]
  (repeat' split) <;> simp

/-- The points close (R80). -/
@[simp] theorem State.closePoints_frame :
    s.closePoints.now = s.now ∧ s.closePoints.powered = s.powered ∧ s.closePoints.pins = s.pins
      ∧ s.closePoints.display = s.display ∧ s.closePoints.crg = s.crg ∧ s.closePoints.pending = s.pending := by
  simp only [State.closePoints, State.closeAuthorized, State.closeDelivery]
  (repeat' split) <;> simp

/-- The inbound queue is emptied (R146). -/
@[simp] theorem State.flushInbound_frame :
    s.flushInbound.now = s.now ∧ s.flushInbound.powered = s.powered ∧ s.flushInbound.pins = s.pins
      ∧ s.flushInbound.miu = s.miu ∧ s.flushInbound.dle = s.dle ∧ s.flushInbound.points = s.points
      ∧ s.flushInbound.ptu = s.ptu ∧ s.flushInbound.pou = s.pou ∧ s.flushInbound.ddu = s.ddu
      ∧ s.flushInbound.display = s.display ∧ s.flushInbound.psc = s.psc ∧ s.flushInbound.rtm = s.rtm
      ∧ s.flushInbound.pending = s.pending := by
  unfold State.flushInbound
  (repeat' (first | split | dsimp only)) <;> simp

end Sys2Proof.Machine
end

