-- ==== Sys2Proof/Laws/Tables.lean ====
section
/-! SUPPORT. The small tables: an entry replaced is read back, and every other entry stays. -/

namespace Sys2Proof

variable {α : Type}

@[simp] theorem Pair.get_set (t : Pair α) (i j : Point) (x : α) : (t.set i x).get j = if j = i then x else t.get j := by
  cases i <;> cases j <;> rfl

@[simp] theorem Quad.get_set (t : Quad α) (i j : Meter) (x : α) : (t.set i x).get j = if j = i then x else t.get j := by
  cases i <;> cases j <;> rfl

@[simp] theorem Quad.at_setAt (t : Quad α) (i j : Position) (x : α) :
    (t.setAt i x).at j = if j = i then x else t.at j := by
  cases i <;> cases j <;> rfl

@[simp] theorem Oct.get_set (t : Oct α) (i j : Grade) (x : α) : (t.set i x).get j = if j = i then x else t.get j := by
  cases i <;> cases j <;> rfl

@[simp] theorem Oct.sc_setSc (t : Oct α) (i j : Comparator) (x : α) :
    (t.setSc i x).sc j = if j = i then x else t.sc j := by
  cases i <;> cases j <;> rfl

@[simp] theorem Pair.set_get (t : Pair α) (i : Point) : t.set i (t.get i) = t := by cases i <;> rfl

@[simp] theorem Quad.set_get (t : Quad α) (i : Meter) : t.set i (t.get i) = t := by cases i <;> rfl

@[simp] theorem Oct.setSc_sc (t : Oct α) (i : Comparator) : t.setSc i (t.sc i) = t := by cases i <;> rfl

@[simp] theorem Pair.set_set (t : Pair α) (i : Point) (x y : α) : (t.set i x).set i y = t.set i y := by cases i <;> rfl

@[simp] theorem Quad.set_set (t : Quad α) (i : Meter) (x y : α) : (t.set i x).set i y = t.set i y := by cases i <;> rfl

@[simp] theorem Oct.setSc_setSc (t : Oct α) (i : Comparator) (x y : α) : (t.setSc i x).setSc i y = t.setSc i y := by
  cases i <;> rfl

@[simp] theorem Quad.get_map {β : Type} (f : α → β) (t : Quad α) (i : Meter) : (t.map f).get i = f (t.get i) := by
  cases i <;> rfl

@[simp] theorem Pair.get_map {β : Type} (f : α → β) (t : Pair α) (i : Point) : (t.map f).get i = f (t.get i) := by
  cases i <;> rfl

@[simp] theorem Pair.get_fill (x : α) (i : Point) : (Pair.fill x).get i = x := by cases i <;> rfl

@[simp] theorem Quad.get_fill (x : α) (i : Meter) : (Quad.fill x).get i = x := by cases i <;> rfl

@[simp] theorem Oct.get_fill (x : α) (i : Grade) : (Oct.fill x).get i = x := by cases i <;> rfl

/-- The point a number names has that number, and every point is named by its own. -/
theorem Point.ofNumber_eq_some (n : Nat) (p : Point) : Point.ofNumber n = some p ↔ n = p.number := by
  constructor
  · intro h
    unfold Point.ofNumber at h
    split at h <;> simp_all [Point.number] <;> subst h <;> rfl
  · rintro rfl
    cases p <;> rfl

/-- The meter a number names has that number, and every meter is named by its own. -/
theorem Meter.ofNumber_eq_some (n : Nat) (m : Meter) : Meter.ofNumber n = some m ↔ n = m.number := by
  constructor
  · intro h
    unfold Meter.ofNumber at h
    split at h <;> simp_all [Meter.number] <;> subst h <;> rfl
  · rintro rfl
    cases m <;> rfl

end Sys2Proof
end

