-- ==== Sys2Proof/Laws/Channels.lean ====
section
/-! SUPPORT. What the operations on meters, points and generations give, entry by entry. -/

namespace Sys2Proof.Machine

variable (s : State)

/-! ## Channels -/

theorem State.channel_mapChannel (m j : Meter) (f : Channel → Channel) :
    (s.mapChannel m f).channel j = if j = m then f (s.channel m) else s.channel j := by
  simp [State.channel]

/-- The mismatch timer of one meter moves, and nothing else of any channel (R12). -/
theorem State.retime_channel (m j : Meter) : (s.retime m).channel j =
    if j = m then { s.channel m with
      mismatchSince := if s.mismatched m then some ((s.channel m).mismatchSince.getD s.now) else none }
    else s.channel j := by
  simp [State.retime, State.channel_mapChannel]

/-- The mismatch timer of one meter starts afresh or stops, and nothing else of any channel moves (R12, R15). -/
theorem State.restartMismatch_channel (m j : Meter) : (s.restartMismatch m).channel j =
    if j = m then { s.channel m with mismatchSince := if s.mismatched m then some s.now else none }
    else s.channel j := by
  simp [State.restartMismatch, State.channel_mapChannel]

/-- The valves of one meter take their commands; only the mismatch timer moves with them (R11, R12). -/
theorem State.commandValves_channel (m j : Meter) (x y : Bool) :
    (j ≠ m → (s.commandValves m x y).channel j = s.channel j)
      ∧ ∃ since, (s.commandValves m x y).channel m =
          { s.channel m with mainOpen := x, slowOpen := y, mismatchSince := since } := by
  unfold State.commandValves
  dsimp only
  split
  · rename_i h
    refine ⟨fun _ => rfl, (s.channel m).mismatchSince, ?_⟩
    rw [← h.1, ← h.2]
  · refine ⟨fun hj => ?_, ?_⟩
    · simp [State.restartMismatch_channel, State.channel_mapChannel, hj]
    · rw [State.restartMismatch_channel, if_pos rfl, State.channel_mapChannel, if_pos rfl]
      exact ⟨_, rfl⟩

/-! ## Points -/

theorem State.point_mapPoint (p q : Point) (f : PointData → PointData) :
    (s.mapPoint p f).point q = if q = p then f (s.point p) else s.point q := by
  simp [State.point]

/-- Adoption leaves the other point as it is, and of its own changes the generation alone (R38). -/
theorem State.adopt_point (p q : Point) :
    (s.adopt p).point q = if q = p then { s.point p with generation := s.ptu.newest } else s.point q := by
  unfold State.adopt
  dsimp only
  split
  · rename_i h
    split
    · rename_i hq
      rw [hq, ← h]
    · rfl
  · simp [State.point]

/-- Adoption leaves the newest generation and the staging table as they are (R38, R39). -/
theorem State.adopt_ptu (p : Point) :
    (s.adopt p).ptu.newest = s.ptu.newest ∧ (s.adopt p).ptu.staging = s.ptu.staging := by
  unfold State.adopt State.retire
  dsimp only
  (repeat' split) <;> simp

/-! ## Holders -/

/-- The meter a point holds is one whose holder it is. -/
theorem State.holder_of_heldBy {p : Point} {m : Meter} (h : s.heldBy p = some m) : s.dle.holders.get m = some p := by
  have := List.find?_some h
  simpa using this

/-- A point that holds no meter is the holder of none. -/
theorem State.heldBy_eq_none {p : Point} : s.heldBy p = none ↔ ∀ m : Meter, s.dle.holders.get m ≠ some p := by
  constructor
  · intro h m
    have := List.find?_eq_none.1 h m (by cases m <;> simp [Meter.all])
    simpa using this
  · intro h
    exact List.find?_eq_none.2 fun m _ => by simpa using h m

end Sys2Proof.Machine
end

