-- ==== Sys2Proof/Laws/Events.lean ====
section
/-! SUPPORT. What a command leaves for the end of its event, and the answers of requests: in a running part an effect that
starts no step, changes no point and touches no retained content is the whole of its event. -/

namespace Sys2Proof.Machine

variable {s t : State}

/-! ## A running part -/

theorem State.runs_iff : s.runs = true ↔
    s.powered = true ∧ s.rtm.dirtyConfig = false ∧ s.rtm.dirtyDeliveries = false ∧ s.noStepDue = true := by
  simp [State.runs, State.quiet, and_assoc]

theorem State.powered_of_runs (h : s.runs = true) : s.powered = true := (State.runs_iff.1 h).1

theorem State.powered_of_takes {i : Instr} (h : s.takes i = true) : s.powered = true := by
  simp [State.takes] at h
  exact h.1

/-! ## The end of an event -/

/-- No step takes a notice of the gate where none is due (R161). -/
theorem State.gateNotice_of_noStepDue (h : s.noStepDue = true) : s.gateNotice = s := by
  simp [State.noStepDue] at h
  unfold State.gateNotice
  split
  · rename_i hc
    rcases h with h | h
    · simp [h] at hc
    · simp [h.1, h.2]
  · rfl

/-- A gate and a power controller that stand as they did owe no step (R161). -/
theorem State.noStepDue_congr (hc : t.crg.st = s.crg.st) (hp : t.psc.checking .readerOpen = s.psc.checking .readerOpen)
    (h : s.noStepDue = true) : t.noStepDue = true := by
  simpa [State.noStepDue, hc, hp] using h

/-- Nothing is due where no step checks READER_OPEN. -/
theorem State.noStepDue_of_checking (h : s.psc.checking .readerOpen = false) : s.noStepDue = true := by
  simp [State.noStepDue, h]

theorem State.anySelling_congr (h : t.points = s.points) : t.anySelling = s.anySelling := by
  simp [State.anySelling, State.point, h]

/-- Outside DRAINING no drain completes (R169). -/
theorem State.drainTest_of_power (h : t.psc.power ≠ .draining) : t.drainTest s = t := by
  simp [State.drainTest, h]

/-- An event that leaves the points and the power state as they were completes no drain (R169). -/
theorem State.drainTest_of_points (hp : t.points = s.points) (hw : t.psc.power = s.psc.power) : t.drainTest s = t := by
  unfold State.drainTest
  rw [State.anySelling_congr hp, hw]
  split
  · rename_i h
    obtain ⟨h1, h2, h3⟩ := h
    rcases h3 with h3 | h3
    · exact absurd h1 h3
    · simp [h2] at h3
  · rfl

/-- With no change of retained content, nothing is handed to the RTM (R97). -/
theorem State.commit_clean (hc : s.rtm.dirtyConfig = false) (hd : s.rtm.dirtyDeliveries = false) : s.commit = s := by
  simp [State.commit, State.commitConfig, State.commitDeliveries, hc, hd]

/-- The end of an event that starts no step, changes no point and touches no retained content. -/
theorem State.settle_plain (hn : t.noStepDue = true) (hp : t.points = s.points) (hw : t.psc.power = s.psc.power)
    (hc : t.rtm.dirtyConfig = false) (hd : t.rtm.dirtyDeliveries = false) : t.settle s = t := by
  rw [State.settle, State.gateNotice_of_noStepDue hn, State.drainTest_of_points hp hw, State.commit_clean hc hd]

/-! ## Events -/

@[simp] theorem State.event_none : s.event none = .next s := rfl

theorem State.event_some (h : s.powered = true) : s.event (some t) = .next (t.settle s) := by
  simp [State.event, h]

theorem State.event_unpowered (h : s.powered = false) (r : Option State) : s.event r = .next s := by
  cases r <;> simp [State.event, h]

theorem State.inputEvent_powered {f : State → State} (h : s.powered = true) :
    s.inputEvent t f = .next ((f t).settle s) := by
  simp [State.inputEvent, h]

theorem State.inputEvent_unpowered {f : State → State} (h : s.powered = false) : s.inputEvent t f = .next t := by
  simp [State.inputEvent, h]

/-! ## Answers -/

/-- What is heard of a request moves the silence timer alone (R191). -/
@[simp] theorem Hlp.heard_frame (h : Hlp) (now : Nat) :
    (h.heard now).rx = h.rx ∧ (h.heard now).buffer = h.buffer ∧ (h.heard now).hand = h.hand
      ∧ (h.heard now).frameErrors = h.frameErrors ∧ (h.heard now).overruns = h.overruns
      ∧ (h.heard now).reports = h.reports ∧ (h.heard now).lost = h.lost ∧ (h.heard now).lastFetch = h.lastFetch
      ∧ (h.heard now).policy = h.policy ∧ (h.heard now).modes = h.modes
      ∧ (h.heard now).silenceTime = h.silenceTime ∧ (h.heard now).startCause = h.startCause := by
  unfold Hlp.heard Hlp.restartSilence
  (repeat' split) <;> simp

theorem State.request_taken {i : Instr} {a : Answer} (h : s.takes i = true) :
    s.request i a = .next (s.answered (kindOf i) a) := by
  simp [State.request, h]

theorem State.request_untaken {i : Instr} {a : Answer} (h : s.takes i = false) : s.request i a = .next s := by
  simp [State.request, h]

/-- A reply alone changes nothing but the request in hand (R184). -/
theorem State.answered_only (kind : Nat) (reply : List Byte) : s.answered kind (.only reply) = s.replies kind reply := rfl

/-- An answer with an effect that starts no step, changes no point and touches no retained content. -/
theorem State.answered_plain (hn : t.noStepDue = true) (hp : t.points = s.points) (hw : t.psc.power = s.psc.power)
    (hc : t.rtm.dirtyConfig = false) (hd : t.rtm.dirtyDeliveries = false) (kind : Nat) (reply : List Byte) :
    s.answered kind (.acts t reply) = t.replies kind reply := by
  simp only [State.answered, State.gateNotice_of_noStepDue hn, State.drainTest_of_points hp hw]
  unfold State.respond
  simp only [hc, hd, writesAwaited]
  rw [State.commit_clean (by simpa using hc) (by simpa using hd)]
  rfl

/-- An answer with an effect that also changes CONFIG: the reply waits for the write (R97). -/
theorem State.answered_config (hn : t.noStepDue = true) (hp : t.points = s.points) (hw : t.psc.power = s.psc.power)
    (hc : t.rtm.dirtyConfig = false) (hd : t.rtm.dirtyDeliveries = false) (kind : Nat) (reply : List Byte) :
    s.answered kind (.acts t.touchConfig reply) = t.configChanged kind reply := by
  have hn' : t.touchConfig.noStepDue = true := State.noStepDue_congr (by simp) (by simp) hn
  simp only [State.answered, State.gateNotice_of_noStepDue hn',
    State.drainTest_of_points (s := s) (t := t.touchConfig) (by simpa using hp) (by simpa using hw)]
  cases hf : t.rtm.config.inFlight <;>
    simp [State.respond, writesAwaited, State.commit, State.commitConfig, State.commitDeliveries, Region.change,
      Region.begin, State.configChanged, Hlp.handReply, State.touchConfig, State.mapRtm, State.mapHlp,
      State.configImage, hf, hd] <;> rw [← hc]

end Sys2Proof.Machine
end

