-- ==== Sys2Proof/Laws/Regions.lean ====
section
/-! SUPPORT. The copies and the writes of a region (R96, R97), and the report queue (R186): what each operation on them
gives. -/

namespace Sys2Proof.Machine

variable {α : Type}

/-! ## Copies -/

/-- A sealed copy is sound. -/
@[simp] theorem sealedCopy_sound (count : BitVec 32) (content : α) : (sealedCopy count content).sound = true := by
  simp [sealedCopy, Copy.sound]

@[simp] theorem sealedCopy_content (count : BitVec 32) (content : α) : (sealedCopy count content).content = content := rfl

@[simp] theorem sealedCopy_count (count : BitVec 32) (content : α) : (sealedCopy count content).count = count := rfl

/-- A torn copy is unsound, whatever check value it carries. -/
@[simp] theorem unsoundCopy_sound (count check : BitVec 32) (content : α) :
    (unsoundCopy count check content).sound = false := by
  unfold unsoundCopy Copy.sound
  dsimp only
  split <;> simp_all

@[simp] theorem unsoundCopy_count (count check : BitVec 32) (content : α) :
    (unsoundCopy count check content).count = count := rfl

/-! ## Writes -/

@[simp] theorem Region.setOther_current (r : Region α) (c : Copy α) : (r.setOther c).current = r.current := by
  unfold Region.setOther Region.current
  split <;> simp_all

@[simp] theorem Region.begin_current (r : Region α) (x : α) : (r.begin x).current = r.current := rfl

@[simp] theorem Region.begin_inFlight (r : Region α) (x : α) : (r.begin x).inFlight = some x := rfl

/-- A taken change leaves both copies as they are, and begins a write exactly when it may. -/
theorem Region.change_cases (r : Region α) (free : Bool) (x : α) :
    (r.change free x).current = r.current ∧
      ((free = true ∧ r.inFlight = none ∧ r.change free x = r.begin x)
        ∨ ((free = false ∨ r.inFlight.isSome = true) ∧ r.change free x = { r with held := true })) := by
  unfold Region.change
  cases free <;> cases h : r.inFlight <;> simp [Region.begin, Region.current]

/-- The end of a write makes the content in flight the current one, sound, with the next count (R96). -/
theorem Region.finish_current (r : Region α) (x : α) (h : r.inFlight = some x) :
    r.finish.current = sealedCopy (r.current.count + 1) x ∧ r.finish.inFlight = none ∧ r.finish.held = r.held := by
  cases hs : r.second <;> simp [Region.finish, Region.setOther, Region.current, h, hs]

/-- A region with no write in flight has none to end. -/
theorem Region.finish_none (r : Region α) (h : r.inFlight = none) : r.finish = r := by
  simp [Region.finish, h]

/-- A taken change of DELIVERIES begins its write, with the additions that waited for it, exactly when no write of the
region and no TOTALS write of a finalization is owed or in flight; else it is held (R97). -/
theorem Rtm.takeDeliveries_cases (r : Rtm) (image : DeliveriesImage) :
    (r.deliveries.inFlight = none ∧ r.owed = [] ∧ r.totals.inFlight = none
        ∧ r.takeDeliveries image = r.beginDeliveries image)
      ∨ ((r.deliveries.inFlight.isSome = true ∨ r.owed ≠ [] ∨ r.totals.inFlight.isSome = true)
        ∧ r.takeDeliveries image = { r with deliveries := { r.deliveries with held := true } }) := by
  unfold Rtm.takeDeliveries Rtm.deliveriesFree
  cases r.deliveries.inFlight <;> cases r.owed <;> cases r.totals.inFlight <;> simp

@[simp] theorem Rtm.beginDeliveries_inFlight (r : Rtm) (image : DeliveriesImage) :
    (r.beginDeliveries image).deliveries.inFlight = some image := rfl

@[simp] theorem Rtm.beginDeliveries_carried (r : Rtm) (image : DeliveriesImage) :
    (r.beginDeliveries image).carried = r.carried ++ r.unwritten := rfl

@[simp] theorem Rtm.beginDeliveries_unwritten (r : Rtm) (image : DeliveriesImage) :
    (r.beginDeliveries image).unwritten = [] := rfl

@[simp] theorem Rtm.beginDeliveries_totals (r : Rtm) (image : DeliveriesImage) :
    (r.beginDeliveries image).totals = r.totals := rfl

/-- A fresh region has two sound copies of one content. -/
theorem freshRegion_sound (count : BitVec 32) (x : α) :
    (freshRegion count x).copy1.sound = true ∧ (freshRegion count x).copy2.sound = true
      ∧ (freshRegion count x).current.content = x ∧ (freshRegion count x).inFlight = none := by
  simp [freshRegion, Region.current]

/-! ## The report queue -/

/-- A post changes the queue and the lost counter and nothing else of the port. -/
@[simp] theorem Hlp.post_frame (h : Hlp) (r : Report) :
    (h.post r).rx = h.rx ∧ (h.post r).buffer = h.buffer ∧ (h.post r).hand = h.hand
      ∧ (h.post r).frameErrors = h.frameErrors ∧ (h.post r).overruns = h.overruns
      ∧ (h.post r).lastFetch = h.lastFetch ∧ (h.post r).policy = h.policy ∧ (h.post r).modes = h.modes
      ∧ (h.post r).silenceTime = h.silenceTime ∧ (h.post r).silence = h.silence
      ∧ (h.post r).startCause = h.startCause := by
  unfold Hlp.post
  (repeat' split) <;> simp

/-- A post keeps the bounds of the port. -/
theorem Hlp.post_bounded (h : Hlp) (r : Report) (hb : h.bounded = true) : (h.post r).bounded = true := by
  simp only [Hlp.bounded, Bool.and_eq_true, decide_eq_true_eq] at hb ⊢
  obtain ⟨⟨⟨⟨h1, h2⟩, h3⟩, h4⟩, h5⟩ := hb
  unfold Hlp.post reportRoom
  (repeat' split) <;> simp_all [satAdd] <;> omega

end Sys2Proof.Machine
end

