-- ==== Sys2Proof/Tests/Slice0.lean ====
section
/-! SUPPORT. The model's own tests: figures that the manual prints, ill-formed commands that are refused, one step of
single commands on small states, and a witness for the hypotheses of every statement. -/

namespace Sys2Proof.Tests

-- Each `decide +kernel` waits for every proof before it; taken one at a time, they do not each hold a thread meanwhile.
set_option Elab.async false

open Sys2Proof.Machine

/-! ## Small states -/

/-- The state after a command. -/
def after (c : Instr) (s : State) : State :=
  match exec c s with
  | .next t => t
  | .fault f => nomatch f
  | .refused _ => s

/-- One price table for the tests: 1,459 PU and 1,500 PU, a slow-down distance of 50 cl, vapour recovery. -/
def prices : PriceTable := .fill { price1 := 1459, price2 := 1500, slowDown := 50, vapour := true }

/-- Position k of each point: grade k and meter k. -/
def hoses : HoseTable :=
  .fill ⟨⟨.g1, .m1, true⟩, ⟨.g2, .m2, true⟩, ⟨.g3, .m3, true⟩, ⟨.g4, .m4, true⟩⟩

/-- A part in RUN: meters present, all conditions good, both points IDLE, the gate OPEN in session 1. -/
def ready : State :=
  let s := State.reset
  { s with
    pins := { s.pins with millivolts := .fill 1000 }
    miu := .fill { startChannel { defaultMeter with present := true, q := 12450 } 0 with reference := some (false, false) }
    dle := { s.dle with hoses := hoses }
    points := .fill { startPoint defaultSaved 5 with st := .idle }
    ptu := { published := [⟨5, prices⟩], newest := 5, staging := prices }
    crg := { s.crg with st := .opened, counter := 1, session := some 1 }
    psc := { s.psc with
      sensors := s.psc.sensors.map fun x => { x with good := true }
      power := .run, intended := .run, drives := ⟨true, true, true, true, true, true, true, true, true⟩ } }

/-- An authorization of every grade at level 1 with a preset of 5,000 MU, bound to session 1. -/
def grant : Authorization :=
  { mask := 255, level := .one, preset := some ⟨.amount, 5000⟩, amountLimit := none, volumeLimit := none
    session := some 1, granted := ⟨0, 0⟩ }

/-- Point A in some state, with the data of some change. -/
def pointA (s : State) (f : PointData → PointData) : State := s.mapPoint .a f

/-- Point A in AUTHORIZED. -/
def granted : State := pointA ready fun d => { d with st := .authorized, auth := some grant }

/-- The record that a lift of A1 begins in `granted`. -/
def begun : DeliveryRecord := granted.liftRecord .a grant .p1

/-- Point A in STARTING to STOPPING, holding M1 with its motor running. -/
def selling (st : PointSt) : State :=
  let s := pointA granted fun d =>
    { d with st := st, auth := if st = .starting then some grant else none, position := some .p1, current := some begun
             lastSeq := 1, saleTable := some prices, quietDue := if st = .stopping then some 1000 else none }
  let s := s.mapChannel .m1 (·.hold .a begun.nSlow begun.nStop)
  let s := s.mapPou .a (·.startNotice 1 .m1 true 2)
  { s with dle := { s.dle with
      holders := s.dle.holders.set .m1 (some .a), motors := s.dle.motors.set .m1 ⟨.running, 0, none⟩ } }

/-- A nozzle put up. -/
def lifted (s : State) (p : Point) (k : Position) : State := s.moveNozzle p k true

/-- Point A in STARTING to STOPPING on M1, and point B in STARTING with its nozzle 1 up, waiting for M1. -/
def contested (st : PointSt) : State :=
  let s := (selling st).mapPoint .b fun d =>
    { d with st := .starting, auth := some grant, position := some .p1, current := some begun, lastSeq := 1
             saleTable := some prices }
  lifted { s with dle := { s.dle with waiters := s.dle.waiters.set .m1 (some .b) } } .b .p1

/-- The final record of a sale. -/
def sold : DeliveryRecord := { begun.figured 42667 0 with final := true, cause := some .preset }

/-- Point A in FINISHED with its record. -/
def finished : State := pointA ready fun d => { d with st := .finished, current := some sold, lastSeq := 1 }

/-- A power state put into a state. -/
def inPower (s : State) (p : PowerSt) : State := s.mapPsc fun c => { c with power := p }

/-- A gate put into a state. -/
def inGate (s : State) (f : Crg → Crg) : State := s.mapCrg f

/-- The gate without a session. -/
def gateIn (st : GateSt) (cause : Option QuarantineCause) : State :=
  inGate ready fun c => { c with st := st, cause := cause, session := none }

/-- An exchange in progress since 0. -/
def asking (s : State) (pass : Bool) : State := inGate s fun c => { c with exchange := some ⟨0, pass⟩ }

/-- A comparator gone bad. -/
def bad (s : State) (c : Comparator) : State :=
  s.mapPsc fun p => { p with sensors := p.sensors.setSc c { p.sensors.sc c with good := false } }

/-- The wire bytes of a reader packet with its CRC. -/
def packet (kind control : Byte) (payload : List Byte) : List Byte :=
  let body := kind :: control :: BitVec.ofNat 8 payload.length :: payload
  body ++ crc16Bytes body

/-- A WAKING state with its cursor at a step of a table of one step. -/
def stepping (phase : StepPhase) (st : PowerStep) : State :=
  ready.mapPsc fun c => { c with power := .waking, cursor := some ⟨1, phase, 0⟩, steps := [st] }

/-! ## Figures that the manual prints -/

/-- The published check vector of the CRC with the parameters of R129 and R182. -/
theorem test_crc16_vector : crc16 [0x31, 0x32, 0x33, 0x34, 0x35, 0x36, 0x37, 0x38, 0x39] = 0x29B1 := by
  decide +kernel

/-- The published check vector of the CRC with the parameters of R96. -/
theorem test_crc32_vector : crc32 [0x31, 0x32, 0x33, 0x34, 0x35, 0x36, 0x37, 0x38, 0x39] = 0xCBF43926 := by
  decide +kernel

/-- The delivery of chapter 2: 5,000 MU at 1,459 PU and 12,450 pulses is 3,427 cl, 42,667 and 42,044 pulses. -/
theorem test_target_of_the_manual :
    (begun.target, begun.source, begun.nStop, begun.nSlow) = (3427, Source.preset, 42667, 42044) := by decide +kernel

theorem test_figures_of_the_manual : (sold.volume, sold.amount) = (3427, 5000) := by decide +kernel

/-- The limit figures of 2.8: 3,427 cl is the least volume at which the amount reaches 5,000 MU. -/
theorem test_amount_rounds_half_up :
    (amountOf .halfUp 1459 3427, amountOf .halfUp 1459 3426, amountOf .down 1459 3427) = (5000, 4999, 4999) := by
  decide +kernel

/-- The net count of R18: a snapshot of 4,294,960,000 and a counter of 35,371. -/
theorem test_net_count_wraps : netCount 35371 4294960000 = 42667 := by decide +kernel

/-! ## Ill-formed commands -/

/-- A field of one byte above 255. -/
theorem test_wf_one_byte_fields : ([
    .loadMeter true 256 ⟨1, 2000, 0, 1, 1, 0, 0⟩, .loadMeter true 1 ⟨256, 2000, 0, 1, 1, 0, 0⟩,
    .loadMeter true 1 ⟨1, 2000, 0, 1, 256, 0, 0⟩, .loadMeter true 1 ⟨1, 2000, 0, 1, 1, 0, 256⟩, .meterReset 256,
    .readMeter 256, .setRounding true 256, .stagePrices 256 [], .stagePrices 1 [⟨256, 0, 0, 0, 0⟩],
    .stagePrices 1 [⟨1, 0, 0, 0, 256⟩], .readPrices 256 0, .loadHoses (.fill (.fill ⟨256, 1, 1⟩)),
    .loadHoses (.fill (.fill ⟨1, 256, 1⟩)), .loadHoses ⟨.fill ⟨1, 1, 1⟩, .fill ⟨1, 1, 256⟩⟩,
    .loadPointTiming 256 ⟨200, 0, 0, 0⟩, .readPointTiming 256, .authorize 256 ⟨0, 0, 0, 0, 0, 0, 0, 0⟩,
    .authorize 1 ⟨256, 0, 0, 0, 0, 0, 0, 0⟩, .authorize 1 ⟨0, 256, 0, 0, 0, 0, 0, 0⟩,
    .authorize 1 ⟨0, 0, 256, 0, 0, 0, 0, 0⟩, .authorize 1 ⟨0, 0, 0, 256, 0, 0, 0, 0⟩, .cancel 256, .clear 256 0 0,
    .clear 1 256 0, .readDelivery 256 1, .readDelivery 1 256, .readPulseOutput 256, .loadDisplay ⟨256, 0, 0, 0⟩,
    .loadDisplay ⟨0, 256, 0, 0⟩, .loadDisplay ⟨0, 0, 256, 0⟩, .loadDisplay ⟨0, 0, 0, 256⟩, .displayTest 256,
    .readDisplay 256, .loadGate ⟨256, 0, 0, 0⟩, .loadGate ⟨0, 256, 0, 0⟩, .loadGate ⟨0, 0, 0, 256⟩,
    .loadSense 256 ⟨0, 0, 0, 0⟩, .loadSense 1 ⟨256, 0, 0, 0⟩, .loadSense 1 ⟨0, 256, 0, 0⟩,
    .loadSequence [⟨256, 0, 0, 0, 0, 0, 0, 0⟩], .loadSequence [⟨0, 256, 0, 0, 0, 0, 0, 0⟩],
    .loadSequence [⟨0, 0, 0, 256, 0, 0, 0, 0⟩], .loadSequence [⟨0, 0, 0, 0, 256, 0, 0, 0⟩],
    .loadSequence [⟨0, 0, 0, 0, 0, 0, 256, 0⟩], .loadSequence [⟨0, 0, 0, 0, 0, 0, 0, 256⟩],
    .setSchedule ⟨256, 0, 0, 0, 0⟩, .setSchedule ⟨0, 0, 0, 256, 0⟩, .setSchedule ⟨0, 0, 0, 0, 256⟩,
    .fetchReports 256 0, .fetchReports 1 256, .setReportModes 256 (List.replicate 24 1),
    .setReportModes 1 (List.replicate 24 256)] : List Instr).any Instr.wf = false := by decide +kernel

/-- A field of two bytes above 65,535, and one of four bytes above its greatest number. -/
theorem test_wf_wide_fields : ([
    .loadMeter true 1 ⟨1, 65536, 0, 1, 1, 0, 0⟩, .loadMeter true 1 ⟨1, 2000, 65536, 1, 1, 0, 0⟩,
    .loadMeter true 1 ⟨1, 2000, 0, 65536, 1, 0, 0⟩, .loadMeter true 1 ⟨1, 2000, 0, 1, 1, 65536, 0⟩,
    .stagePrices 1 [⟨1, 65536, 0, 0, 0⟩], .stagePrices 1 [⟨1, 0, 65536, 0, 0⟩], .stagePrices 1 [⟨1, 0, 0, 65536, 0⟩],
    .readPrices 1 65536, .loadPointTiming 1 ⟨65536, 0, 0, 0⟩, .loadPointTiming 1 ⟨200, 65536, 0, 0⟩,
    .loadPointTiming 1 ⟨200, 0, 65536, 0⟩, .loadPointTiming 1 ⟨200, 0, 0, 65536⟩,
    .authorize 1 ⟨0, 0, 0, 0, 4294967296, 0, 0, 0⟩, .authorize 1 ⟨0, 0, 0, 0, 0, 4294967296, 0, 0⟩,
    .authorize 1 ⟨0, 0, 0, 0, 0, 0, 4294967296, 0⟩, .authorize 1 ⟨0, 0, 0, 0, 0, 0, 0, 65536⟩, .clear 1 0 65536,
    .readerPost 65536 [], .loadGate ⟨0, 0, 65536, 0⟩, .loadSense 1 ⟨0, 0, 65536, 0⟩, .loadSense 1 ⟨0, 0, 0, 65536⟩,
    .loadSequence [⟨0, 0, 65536, 0, 0, 0, 0, 0⟩], .loadSequence [⟨0, 0, 0, 0, 0, 65536, 0, 0⟩], .setStartSpacing 65536,
    .setClock 65536 0, .setClock 0 4294967296, .setSchedule ⟨0, 65536, 0, 0, 0⟩, .setSchedule ⟨0, 0, 65536, 0, 0⟩,
    .setHostSilence 65536] : List Instr).any Instr.wf = false := by decide +kernel

/-- A list that no payload or packet carries. -/
theorem test_wf_lengths : ([
    .stagePrices 1 (List.replicate 30 ⟨1, 0, 0, 0, 0⟩), .readerPost 1 (List.replicate 238 0),
    .loadSequence (List.replicate 24 ⟨0, 0, 0, 0, 0, 0, 0, 0⟩), .setReportModes 1 (List.replicate 23 1),
    .requestRefused 0x77 (List.replicate 240 0), .refreshInstant .a (some []),
    .readerReplyReceived (List.replicate 261 0)] : List Instr).any Instr.wf = false := by decide +kernel

/-! ## Requests read from their bytes (R184, R198)

Each payload is written out from the tables of 11.3. -/

/-- LOAD_METER M2: present, 12,450 = 30A2h, 200, 50, 4, 800 = 0320h, 10. -/
theorem test_reads_load_meter :
    requestOf ⟨0x01, [2, 1, 0xA2, 0x30, 200, 0, 50, 0, 4, 0x20, 3, 10]⟩
      = .ok (.loadMeter false 2 ⟨1, 12450, 200, 50, 4, 800, 10⟩) := by rfl

/-- STAGE_PRICES RESET with grade 3 at 1,459 = 05B3h and 0, 50 cl, vapour. -/
theorem test_reads_stage_prices :
    requestOf ⟨0x08, [2, 1, 3, 0xB3, 5, 0, 0, 50, 0, 1]⟩ = .ok (.stagePrices 2 [⟨3, 1459, 0, 50, 1⟩]) := by rfl

/-- AUTHORIZE B with a preset of 5,000 = 1388h MU, bound to session 258. -/
theorem test_reads_authorize :
    requestOf ⟨0x14, [2, 9, 255, 1, 2, 0x88, 0x13, 0, 0, 0, 0, 0, 0, 0, 0, 0, 0, 2, 1]⟩
      = .ok (.authorize 2 ⟨9, 255, 1, 2, 5000, 0, 0, 258⟩) := by rfl

/-- One request of each other family: LOAD_DISPLAY, READER_POST, LOAD_SENSE, SET_CLOCK, FETCH_REPORTS, and an unknown
kind and a wrong length. -/
theorem test_reads_other_families :
    requestOf ⟨0x24, [2, 2, 3, 15]⟩ = .ok (.loadDisplay ⟨2, 2, 3, 15⟩)
    ∧ requestOf ⟨0x2B, [7, 1, 0xAA]⟩ = .ok (.readerPost 263 [0xAA])
    ∧ requestOf ⟨0x30, [1, 6, 8, 20, 0, 0xD0, 7]⟩ = .ok (.loadSense 1 ⟨6, 8, 20, 2000⟩)
    ∧ requestOf ⟨0x36, [1, 0, 0x7F, 0x51, 1, 0]⟩ = .ok (.setClock 1 86399)
    ∧ requestOf ⟨0x3C, [8, 0]⟩ = .ok (.fetchReports 8 0)
    ∧ requestOf ⟨0x77, []⟩ = .error .unknownKind ∧ requestOf ⟨0x09, [0]⟩ = .error .badLength :=
  ⟨rfl, rfl, rfl, rfl, rfl, rfl, rfl⟩

/-! ## Single steps of the manual's worked sequences -/

/-- Chapter 1's example at 42,043, with three backward steps taken: the snapshot is 4,294,960,000. -/
def dithering (counter : BitVec 32) : State :=
  (selling .slowing).mapChannel .m1 fun c => { c with counter := counter, snapshot := 4294960000, reverse := 3 }

/-- The first forward step to 42,044 fires SLOW and not STOP; a backward step raises the reverse count alone. -/
theorem test_dither_at_the_slow_point :
    let forward := (after (.pulserSample .m1 true false) (dithering 34747)).channel .m1
    let backward := (after (.pulserSample .m1 false true) (dithering 34748)).channel .m1
    (forward.counter, forward.net, forward.slow, forward.stop)
      = (34748, 42044, some ⟨42044, true⟩, some ⟨42667, false⟩)
    ∧ (backward.counter, backward.net, backward.reverse, backward.slow)
      = (34747, 42043, 4, some ⟨42044, false⟩) := by decide +kernel

/-- The step to 42,667 fires STOP: STOPPING with cause PRESET, both valves closed, the motor in RUN_ON. -/
theorem test_stop_at_the_target :
    let t := after (.pulserSample .m1 true false) (dithering 35370)
    (t.point .a).st = .stopping ∧ ((t.point .a).current.bind (·.cause)) = some .preset
      ∧ (t.channel .m1).mainOpen = false ∧ (t.channel .m1).slowOpen = false ∧ (t.motor .m1).st = .runOn
      ∧ (t.channel .m1).counter = 35371 := by decide +kernel

/-- 5.7: with a divider of 100 the step to 42,100 makes one pulse, which goes out at once and is credited. -/
theorem test_pulse_at_the_divider :
    let s := ((selling .slowing).mapChannel .m1 fun c => { c with counter := 42099 }).mapPou .a fun u =>
      { u with divider := 100, generating := true, high := 42099, residue := 99 }
    let t := after (.pulserSample .m1 true false) s
    ((t.pou.get .a).high, (t.pou.get .a).residue, (t.pou.get .a).queue, (t.pou.get .a).phase,
      (t.point .a).current.map (·.pulses)) = (42100, 0, [], .high, some 1) := by decide +kernel

/-- 3.9, step 4: point A keeps the generation of its delivery, and point B adopts the new one. -/
theorem test_publication_during_a_delivery :
    let t := after .applyPrices (selling .fuelling)
    ((t.point .a).generation, (t.point .b).generation, t.ptu.newest, t.ptu.published.map (·.number),
      (t.hlp.reports.drop 1).map (·.data)) = (5, 6, 6, [5, 6], [.priceAdopted 5 6 .apply none])
    ∧ t.answer? = some (9, [0, 6, 0, 0]) := by decide +kernel

/-- 4.13, step 1: both points lift nozzles of one meter at the same moment. -/
theorem test_both_sides_on_one_meter :
    let g (p : Preset) : Authorization := { grant with preset := some p, session := none }
    let s := { ready with points := (⟨{ ready.point .a with st := .authorized, auth := some (g ⟨.volume, 1000⟩) },
      { ready.point .b with st := .authorized, auth := some { g ⟨.volume, 1000⟩ with
        preset := none, amountLimit := some 2000 } }⟩ : Pair PointData) }
    let t := after (.nozzleLift .a .p2 (some .p2)) s
    (t.dle.holders.get .m2, t.dle.waiters.get .m2, (t.motor .m2).st) = (some .a, some .b, .awaitingGrant)
    ∧ ((t.point .a).current.map fun r => (r.target, r.source, r.nStop, r.nSlow))
      = some (1000, .preset, 12450, 11828)
    ∧ ((t.point .b).current.map fun r => (r.target, r.source, r.nStop, r.nSlow))
      = some (1371, .limit, 17069, 16447) := by decide +kernel

/-- The example of 8.5: a PASS at the threshold is held, and the same PASS with room is taken. -/
theorem test_hold_threshold :
    let s (n : Nat) := inGate (asking ready false) fun c =>
      { c with readerToggle := true, inbound := List.replicate n ⟨1, ⟨0, 0⟩, [9]⟩ }
    let t (n : Nat) := (after (.readerReplyReceived (packet 0x11 1 [1, 2])) (s n)).crg
    ((t 6).inbound.length, (t 6).readerToggle, (t 6).verdict) = (6, true, .held)
    ∧ ((t 5).inbound.length, (t 5).readerToggle, (t 5).verdict) = (6, false, .accepted) := by decide +kernel

/-- 8.10 at 0: the tamper line quarantines the gate, and the bound authorization is withdrawn. -/
theorem test_tamper_with_a_bound_authorization :
    let t := after .tamperAssert (inGate granted fun c => { c with outbound := [⟨41, [1], 1⟩, ⟨42, [1], 1⟩] })
    (t.crg.st, t.crg.cause, t.crg.session, (t.point .a).st) = (.quarantine, some .tamper, none, .idle)
    ∧ (t.hlp.reports.drop 1).map (·.data) = [.condition .tamper true, .readerOutboundEnd 41 .flushed,
      .readerOutboundEnd 42 .flushed, .readerGate .opened .quarantine (.quarantine .tamper) (some 1) none false,
      .authEnded .readerLost] := by decide +kernel

/-- 9.11 at 0: the wake minute of 05:30 wakes the part, and the first step turns the pulser supply on. -/
theorem test_wake_minute :
    let s := (inPower ready .night).mapPsc fun c => { c with
      drives := noDrives, clock := ⟨10, 19799⟩, clockSet := true
      schedule := { defaultSchedule with wake := some 330 } }
    let t := after .dayClockSecond s
    (t.psc.power, t.psc.intended, t.psc.cursor.map (·.step), t.psc.drives.pulserSupply, t.psc.drives.valveSupply)
      = (.waking, .run, some 1, true, false)
    ∧ (t.hlp.reports.drop 1).map (·.data)
      = [.wake .schedule .waking, .powerState .night .waking .schedule .run] := by decide +kernel

/-- 10.7 at 0: the five reports of a mains failure, in the order in which the port takes them. -/
theorem test_mains_failure_reports :
    let s := (selling .fuelling).mapPoint .b fun d => { d with st := .authorized, auth := some grant }
    let s := s.mapPsc fun p => { p with sensors := p.sensors.setSc .mains { p.sensors.e1 with since := some 0 } }
    let t := after (.sensePersistenceExpiry .mains) s
    (t.hlp.reports.drop 1).map (fun r => (r.target, r.data)) = [(.none, .condition (.sense .mains) false),
      (.none, .powerState .run .mainsLost .mainsLoss .run), (.point .b, .authEnded .power),
      (.point .a, .deliveryStopping 1 .powerLoss),
      (.none, .readerGate .opened .off .sequence (some 1) none false)] := by decide +kernel

/-- R38 and R64: at RESTART a point that waits for its meter is CLOSED and leaves generation 5, which nobody else uses. -/
theorem test_restart_of_a_waiting_point :
    let s := contested .fuelling
    let t := after .restart { s with ptu := { s.ptu with published := s.ptu.published ++ [⟨6, prices⟩], newest := 6 } }
    (t.point .b).st = .closed ∧ (t.point .b).generation = 6 ∧ (t.point .b).current = none
      ∧ t.dle.waiters.get .m1 = none := by decide +kernel

/-- R191 and R193: an EXPIRED timer of 600 s runs again in the answer to the READ_STATUS that restarts it. -/
theorem test_read_status_restarts_silence :
    let s := ready.mapHlp fun h => { h with silence := .expired, silenceTime := 600 }
    let items (t : State) := (t.answer?.map fun x => (x.2.drop (x.2.length - 6))).getD []
    items (after .readStatus s) = u8 (SilenceTimer.running 0).number ++ u32 600000 ++ flagBytes true := by decide +kernel

/-! ## Witnesses

For each statement with hypotheses, concrete states and operands that meet them, clause by clause, at boundary values of
their ranges. -/

theorem test_witness_StepRunsFront : State.reset.pending = [] := rfl

theorem test_witness_ReceiverReadsFrame :
    State.reset.hlp.rx = .hunt ∧ (⟨0x2B, List.replicate 239 0xC3⟩ : Frame).payload.length ≤ 239 := by decide +kernel

theorem test_witness_FramesRoundTrip :
    let i : Instr := .readerPost 65535 (List.replicate 237 0xC3)
    i.wf = true ∧ i.frame? = some ⟨0x2B, 0xFF :: 0xFF :: List.replicate 237 0xC3⟩ := by decide +kernel

/-- Both ends of every range, on M1 and M4; the switch off; and a delivery that names the meter. -/
theorem test_witness_LoadMeterJudged :
    let lowest : MeterFields := ⟨0, 2000, 0, 1, 1, 0, 0⟩
    let highest : MeterFields := ⟨1, 60000, 65535, 65535, 255, 5000, 60⟩
    (ready.runs = true ∧ ready.takes (.loadMeter true 1 lowest) = true ∧ ready.takes (.loadMeter true 4 highest) = true
      ∧ ready.takes (.loadMeter false 1 lowest) = true ∧ Meter.ofNumber 1 = some .m1 ∧ Meter.ofNumber 4 = some .m4
      ∧ ∀ p ∈ Point.all, (ready.point p).st.delivering = false)
    ∧ (meterRecordOf lowest).isSome = true ∧ (meterRecordOf highest).isSome = true
    ∧ ((selling .fuelling).runs = true ∧ (selling .fuelling).takes (.loadMeter true 1 highest) = true
      ∧ ((selling .fuelling).point .a).st.delivering = true ∧ ((selling .fuelling).point .a).current = some begun
      ∧ begun.meter = .m1) := by decide +kernel

theorem test_witness_MeterResetClears :
    ready.runs = true ∧ ready.takes (.meterReset 0) = true ∧ ready.takes (.meterReset 4) = true := by decide +kernel

theorem test_witness_ReadMeterAnswers :
    (selling .fuelling).takes (.readMeter 1) = true ∧ 1 = Meter.m1.number ∧ 4 = Meter.m4.number
      ∧ (selling .fuelling).takes (.readMeter 0) = true ∧ (selling .fuelling).takes (.readMeter 5) = true := by
  decide +kernel

/-- A suspended channel, the reference again, no reference, and a step and an error of an unheld meter. -/
theorem test_witness_SampleOfUnheldMeter :
    (State.reset.runs = true ∧ State.reset.decoding .m1 = false)
    ∧ (ready.runs = true ∧ ready.decoding .m1 = true ∧ (ready.channel .m1).reference = some (false, false)
      ∧ (ready.channel .m1).holder = none ∧ (true, false) ≠ (false, false) ∧ (true, true) ≠ (false, false))
    ∧ (let s := ready.mapChannel .m1 fun c => { c with reference := none }
       s.runs = true ∧ s.decoding .m1 = true ∧ (s.channel .m1).reference = none) := by decide +kernel

theorem test_witness_StepOfHeldMeter :
    let s := selling .fuelling
    s.runs = true ∧ s.decoding .m1 = true ∧ (s.channel .m1).reference = some (false, false)
      ∧ (s.channel .m1).holder = some .a
      ∧ classify (false, false) (true, false) = .forward ∧ classify (false, false) (false, true) = .backward := by
  decide +kernel

/-- A forward step that meets the stop point in each of the states a STOP stops, one that meets the slow point in
FUELLING, one past the reverse limit in SLOWING, and a step in STOPPING. -/
theorem test_witness_StepOfHeldMeter_holder :
    let at_ (st : PointSt) (net : Nat) := (selling st).mapChannel .m1 fun c =>
      { c with counter := BitVec.ofNat 32 net, slow := some ⟨42044, decide (st = .slowing)⟩ }
    let back := (selling .slowing).mapChannel .m1 fun c =>
      { c with reverse := 5, record := { c.record with reverseLimit := 5 } }
    let holds (s : State) := s.runs = true ∧ s.decoding .m1 = true ∧ (s.channel .m1).holder = some .a
      ∧ (s.channel .m1).reference = some (false, false) ∧ s.heldBy .a = some .m1 ∧ (s.point .a).current = some begun
    (∀ st ∈ [PointSt.starting, .fuelling, .slowing], holds (at_ st 42666)
      ∧ ((at_ st 42666).channel .m1).stop = some ⟨42667, false⟩ ∧ ((at_ st 42666).point .a).st = st)
    ∧ (holds (at_ .fuelling 42043) ∧ ((at_ .fuelling 42043).channel .m1).slow = some ⟨42044, false⟩)
    ∧ (holds back ∧ (back.channel .m1).reversePassed = false ∧ (back.channel .m1).reverse = 5
      ∧ (back.channel .m1).record.reverseLimit = 5 ∧ (back.point .a).st.flowing = true)
    ∧ (holds (selling .stopping) ∧ ((selling .stopping).point .a).st = .stopping) := by decide +kernel

/-- A window that reaches the threshold at a running delivery, and at one whose meter has a waiter: both clauses. -/
theorem test_witness_PhaseWindowEnds :
    let s := (selling .slowing).mapChannel .m1 fun c => { c with windowCount := 4 }
    s.runs = true ∧ (s.channel .m1).fault = false ∧ (s.channel .m1).record.phaseThreshold ≤ (s.channel .m1).windowCount
      ∧ s.heldBy .a = some .m1 ∧ s.dle.holders.get .m1 = some .a ∧ (s.point .a).current = some begun
      ∧ s.dle.waiters.get .m1 = none ∧ (s.point .a).st = .slowing
      ∧ (let s := (contested .slowing).mapChannel .m1 fun c => { c with windowCount := 4 }
         s.runs = true ∧ (s.channel .m1).fault = false ∧ s.dle.waiters.get .m1 = some .b
           ∧ s.dle.holders.get .m1 = some .a ∧ (s.point .b).st = .starting ∧ s.heldBy .b = none
           ∧ s.heldBy .a = some .m1 ∧ s.dle.waiters.get .m1 ≠ some .a ∧ (s.point .a).current = some begun
           ∧ (s.point .a).st = .slowing) := by decide +kernel

/-- A holder alone, a meter without a holder, and a holder whose meter has a waiter. -/
theorem test_witness_ValveSensing :
    let s := (selling .fuelling).mapChannel .m1 fun c => { c with mismatchSince := some 0 }
    s.runs = true ∧ (s.channel .m1).mismatchSince = some 0 ∧ (s.channel .m1).valveFault = false
      ∧ s.heldBy .a = some .m1 ∧ s.dle.holders.get .m1 = some .a ∧ (s.point .a).current = some begun
      ∧ s.dle.waiters.get .m1 = none ∧ (s.point .a).st = .fuelling
      ∧ (ready.mapChannel .m2 fun c => { c with mismatchSince := some 0 }).dle.holders.get .m2 = none
      ∧ (let s := (contested .starting).mapChannel .m1 fun c => { c with mismatchSince := some 0 }
         s.runs = true ∧ (s.channel .m1).mismatchSince = some 0 ∧ (s.channel .m1).valveFault = false
           ∧ s.heldBy .a = some .m1 ∧ s.dle.holders.get .m1 = some .a ∧ (s.point .a).current = some begun
           ∧ s.dle.waiters.get .m1 = some .b ∧ (s.point .a).st = .starting ∧ (s.point .b).st = .starting
           ∧ s.heldBy .b = none ∧ ((after (.valveMismatchTimeout .m1) s).point .b).st = .authorized) := by
  decide +kernel

/-- Both ends of the ranges, and a target at and above the distance. -/
theorem test_witness_CountsAreLeast :
    (2000 ≤ 2000 ∧ 60000 ≤ 60000 ∧ 1 ≤ 1 ∧ 999999 ≤ 999999) ∧ (legalVolume 2 2000 = 1 ∧ stopCount 1 2000 = 2)
      ∧ (legalVolume (stopCount 999999 60000) 60000 = 999999 ∧ slowCount 50 50 2000 = 0 ∧ slowCount 51 50 2000 = 2) := by
  decide +kernel

theorem test_witness_AmountCandidatesAreTight :
    amountPresetTarget .down 1 1 = 1000 ∧ amountOf .down 1 1000 = 1 ∧ amountLimitTarget .down 1 1 = 1999
      ∧ amountOf .down 1 1999 = 1 ∧ amountLimitTarget .halfUp 9999 1 = 0 ∧ amountOf .halfUp 9999 1 = 10
      ∧ amountLimitTarget .halfUp 9999 999999 = 100009 ∧ grant.preset = some ⟨.amount, 5000⟩
      ∧ { grant with amountLimit := some 1 }.amountLimit = some 1 := by
  decide +kernel

theorem test_witness_EffectiveTargetIsLeast :
    grant.preset = some ⟨.amount, 5000⟩ ∧ { grant with preset := none }.preset = none
      ∧ { grant with volumeLimit := some 999999 }.volumeLimit = some 999999 := by decide +kernel

/-- R26: LIMIT where a limit of 999,999 cl gives what the capacity gives, and CAPACITY where nothing else gives it. -/
theorem test_limit_before_capacity :
    let source (l : Option Nat) :=
      (targetOf .halfUp 900 50 12450 { grant with preset := none, volumeLimit := l }).source
    (source (some 999999), source none) = (.limit, .capacity) := by decide +kernel

/-- A negative count, a price in range, and final figures that set and clear each flag. -/
theorem test_witness_FiguresOfNetCount :
    (-1 : Int) < 0 ∧ begun.price ≤ 9999
      ∧ ((begun.finalized 100000000 0 ⟨0, 0⟩).flags.clamped, (begun.finalized 0 0 ⟨0, 0⟩).flags.clamped) = (true, false) := by
  decide +kernel

theorem test_witness_SetRounding :
    ready.runs = true ∧ ready.takes (.setRounding true 2) = true ∧ Rounding.down.number = 2
      ∧ ready.takes (.setRounding false 9) = true ∧ ready.takes (.setRounding true 0) = true := by decide +kernel

theorem test_witness_StagePricesJudged :
    let f : GradeFields := ⟨8, 9999, 9999, 999, 1⟩
    ready.runs = true ∧ ready.takes (.stagePrices 1 [f]) = true ∧ ready.takes (.stagePrices 2 [f]) = true
      ∧ ready.takes (.stagePrices 2 []) = true ∧ ready.takes (.stagePrices 1 [f, { f with grade := 1 }]) = true
      ∧ ([f, { f with grade := 1 }].map (·.grade)).Nodup ∧ ready.takes (.stagePrices 1 (List.replicate 9 f)) = true
      ∧ ready.takes (.stagePrices 3 [f]) = true ∧ ready.takes (.stagePrices 1 [f, f]) = true
      ∧ ready.takes (.stagePrices 1 [{ f with vapour := 2 }]) = true := by decide +kernel

theorem test_witness_ApplyPricesPublishes :
    (selling .fuelling).runs = true ∧ (selling .fuelling).takes .applyPrices = true
      ∧ (selling .fuelling).pricesLawful = true ∧ ((selling .fuelling).point .b).st.free = true := by decide +kernel

theorem test_witness_ReadPricesAnswers :
    ready.takes (.readPrices 1 0) = true ∧ ready.takes (.readPrices 2 0) = true ∧ ready.takes (.readPrices 3 5) = true
      ∧ ready.ptu.find 5 = some ⟨5, prices⟩ ∧ ready.takes (.readPrices 3 6) = true ∧ ready.ptu.holds 6 = false
      ∧ ready.takes (.readPrices 0 5) = true ∧ ready.takes (.readPrices 4 5) = true := by decide +kernel

/-- The published set is lawful, and a step answers. -/
theorem test_witness_PricesLawKept :
    ready.pricesLawful = true ∧ (after .applyPrices ready).pricesLawful = true
      ∧ (after .applyPrices (selling .fuelling)).ptu.published.length = 2 := by decide +kernel

theorem test_witness_HoseTableLoads :
    let f : HoseTableFields := .fill ⟨⟨1, 1, 1⟩, ⟨2, 2, 1⟩, ⟨3, 3, 1⟩, ⟨8, 4, 0⟩⟩
    let t : HoseTable := .fill ⟨⟨.g1, .m1, true⟩, ⟨.g2, .m2, true⟩, ⟨.g3, .m3, true⟩, ⟨.g8, .m4, false⟩⟩
    ready.runs = true ∧ ready.takes (.loadHoses f) = true
      ∧ hoseTableOf (fun m => (ready.channel m).record.present) f = some t
      ∧ (selling .fuelling).takes (.loadHoses f) = true
      ∧ hoseTableOf (fun m => ((selling .fuelling).channel m).record.present) f = some t
      ∧ ready.takes .readHoses = true := by decide +kernel

theorem test_witness_PointTimingLoads :
    ready.runs = true ∧ ready.takes (.loadPointTiming 2 ⟨5000, 300, 3600, 0⟩) = true
      ∧ ready.takes (.loadPointTiming 1 ⟨200, 0, 0, 65535⟩) = true ∧ Point.ofNumber 2 = some .b
      ∧ ready.takes (.readPointTiming 2) = true := by decide +kernel

/-- Accepted; outside RUN; stopped; in a wrong state; and with a binding to another session. -/
theorem test_witness_AuthorizeJudged :
    let f : AuthFields := ⟨0, 255, 1, 0, 0, 0, 0, 0⟩
    let a : Authorization := ⟨255, .one, none, none, none, none, ⟨0, 0⟩⟩
    let g : AuthFields := ⟨8, 255, 1, 0, 0, 0, 0, 2⟩
    let stopped := { ready with pins := { ready.pins with emergency := true } }
    (ready.runs = true ∧ ready.takes (.authorize 1 f) = true ∧ authorizationOf f ready.stamp = some a
      ∧ ready.psc.power = .run ∧ ready.pins.emergency = false ∧ (ready.point .a).st = .idle ∧ a.session = none)
    ∧ ((inPower ready .draining).takes (.authorize 1 f) = true ∧ (inPower ready .draining).psc.power ≠ .run)
    ∧ (stopped.takes (.authorize 1 f) = true ∧ stopped.pins.emergency = true)
    ∧ (finished.takes (.authorize 1 f) = true ∧ (finished.point .a).st ≠ .idle ∧ (finished.point .a).st ≠ .calling)
    ∧ (ready.takes (.authorize 1 g) = true
      ∧ authorizationOf g ready.stamp = some { a with session := some 2 } ∧ ready.crg.session ≠ some 2) := by
  decide +kernel

/-- An authorization bound to the current session, and a call of A1 at which the lift is accepted, and one at which its
hose is disabled. -/
theorem test_witness_AuthorizeJudged_calling :
    let f : AuthFields := ⟨8, 255, 1, 0, 0, 0, 0, 1⟩
    let a : Authorization := ⟨255, .one, none, none, none, some 1, ⟨0, 0⟩⟩
    let calling := lifted (pointA ready fun d => { d with st := .calling, position := some .p1 }) .a .p1
    let shut := { calling with dle := { calling.dle with hoses := .fill ⟨⟨.g1, .m1, false⟩, ⟨.g2, .m2, true⟩,
      ⟨.g3, .m3, true⟩, ⟨.g4, .m4, true⟩⟩ } }
    let given (s : State) := { s with points := s.points.set .a { s.point .a with
      st := .authorized, auth := some a, authTimeout := s.dle.timings.a.authTimeout, position := none
      authDue := if s.dle.timings.a.authTimeout = 0 then none else some (1000 * s.dle.timings.a.authTimeout) } }
    (ready.takes (.authorize 1 f) = true ∧ authorizationOf f ready.stamp = some a ∧ ready.crg.session = some 1
      ∧ (ready.point .a).st = .idle)
    ∧ (∀ s ∈ [calling, shut], s.runs = true ∧ s.takes (.authorize 1 f) = true ∧ authorizationOf f s.stamp = some a
      ∧ s.psc.power = .run ∧ s.pins.emergency = false ∧ (s.point .a).st = .calling ∧ (s.point .a).position = some .p1
      ∧ s.crg.session = some 1 ∧ s.now = 0)
    ∧ (given calling).liftRefusal .a a .p1 = none ∧ (given shut).liftRefusal .a a .p1 = some .hoseDisabled
    ∧ calling.dle.holders.get (calling.hose .a .p1).meter = none ∧ calling.refreshing .a = true
    ∧ (calling.side .a).sideFault = false := by decide +kernel

/-- One state for each reason, in the order of R54, with the tests before it passed. -/
theorem test_witness_LiftRefusedInOrder :
    let disabled := { granted with dle := { granted.dle with
      hoses := granted.dle.hoses.set .a ((granted.dle.hoses.get .a).setAt .p1 ⟨.g1, .m1, false⟩) } }
    let dear : State := { granted with ptu := { granted.ptu with published := [⟨5, .fill ⟨9999, 0, 50, false⟩⟩] } }
    let masked := { grant with mask := 0xFE }
    let level2 := { grant with level := .two }
    let limited := { grant with amountLimit := some 1 }
    let broken := granted.mapChannel .m1 fun c => { c with fault := true }
    let with_ (s : State) (a : Authorization) := pointA s fun d => { d with auth := some a }
    let at_ (s : State) (a : Authorization) :=
      s.runs = true ∧ s.up .a .p1 = false ∧ (s.point .a).st = .authorized ∧ (s.point .a).auth = some a
    (at_ disabled grant ∧ (disabled.hose .a .p1).enabled = false ∧ disabled.liftRefusal .a grant .p1 = some .hoseDisabled)
    ∧ (at_ (with_ granted masked) masked ∧ (granted.hose .a .p1).enabled = true
      ∧ masked.mask.testBit 0 = false)
    ∧ (at_ (with_ dear level2) level2 ∧ level2.mask.testBit 0 = true ∧ (dear.ptu.entry 5 .g1).price .two = 0)
    ∧ (at_ broken grant ∧ (broken.ptu.entry 5 .g1).price .one ≠ 0 ∧ broken.displayCloses .a .g1 = false
      ∧ (broken.channel .m1).fault = true)
    ∧ (at_ (lifted granted .a .p4) grant ∧ (lifted granted .a .p4).up .a .p4 = true
      ∧ (lifted granted .a .p4).liftRefusal .a grant .p1 = some .conflict)
    ∧ (at_ (with_ dear limited) limited ∧ ((with_ dear limited).liftRecord .a limited .p1).target = 0
      ∧ (with_ dear limited).liftRefusal .a limited .p1 = some .limitTooSmall) := by decide +kernel

/-- A lift of a free meter with its motor OFF, behind an empty and behind a waiting start queue and before its spacing
has passed, and with its motor in RUN_ON; a lift at a held meter; and a record's generation. -/
theorem test_witness_LiftAcceptedHoldsMeter :
    granted.runs = true ∧ granted.up .a .p1 = false ∧ (granted.point .a).st = .authorized
      ∧ (granted.point .a).auth = some grant ∧ granted.liftRefusal .a grant .p1 = none
      ∧ granted.dle.holders.get .m1 = none ∧ granted.heldBy .b ≠ some .m1 ∧ granted.refreshing .a = true
      ∧ (granted.side .a).sideFault = false
      ∧ (let s := (selling .fuelling).mapPoint .b fun d => { d with st := .authorized, auth := some grant }
         s.runs = true ∧ s.up .b .p1 = false ∧ (s.point .b).st = .authorized ∧ (s.point .b).auth = some grant
           ∧ s.liftRefusal .b grant .p1 = none ∧ s.dle.holders.get (s.hose .b .p1).meter = some .a)
      ∧ ((granted.motor .m1).st = .off ∧ granted.psc.startQueue = []
        ∧ granted.now < granted.psc.lastGrant + granted.psc.spacing
        ∧ { granted with now := 1500 }.runs = true ∧ granted.psc.lastGrant + granted.psc.spacing ≤ 1500
        ∧ (granted.setMotor .m1 ⟨.runOn, 0, some 10000⟩).runs = true
        ∧ ((granted.setMotor .m1 ⟨.runOn, 0, some 10000⟩).motor .m1).st = .runOn)
      ∧ (let s (now : Nat) := { granted with now := now, psc := { granted.psc with startQueue := [.m2], spacing := 500 } }
         (s 499).runs = true ∧ (s 500).runs = true ∧ (s 500).psc.startQueue = .m2 :: [] ∧ (s 500).psc.lastGrant = 0)
      ∧ granted.ptu.find (granted.point .a).generation = some ⟨5, prices⟩ := by
  decide +kernel

/-- Two lifts in one event, of two nozzles of one meter and of nozzles of two meters. -/
theorem test_witness_LiftAcceptedHoldsMeter_together :
    let s := granted.mapPoint .b fun d => { d with st := .authorized, auth := some grant }
    s.runs = true ∧ s.up .a .p1 = false ∧ s.up .b .p1 = false ∧ s.up .b .p2 = false ∧ (s.point .a).st = .authorized
      ∧ (s.point .a).auth = some grant ∧ s.liftRefusal .a grant .p1 = none ∧ (s.point .b).st = .authorized
      ∧ (s.point .b).auth = some grant ∧ s.liftRefusal .b grant .p1 = none ∧ s.liftRefusal .b grant .p2 = none
      ∧ s.refreshing .a = true ∧ (s.side .a).sideFault = false ∧ s.refreshing .b = true
      ∧ (s.side .b).sideFault = false ∧ s.dle.holders.get .m1 = none ∧ s.dle.holders.get .m2 = none
      ∧ (s.hose .a .p1).meter = .m1 ∧ (s.hose .b .p1).meter = .m1 ∧ (s.hose .b .p2).meter = .m2
      ∧ (let t := after (.nozzleLift .b .p2 (some .p1)) s
         (t.dle.holders.get .m1, t.dle.holders.get .m2, t.psc.startQueue) = (some .a, some .b, [.m1, .m2])) := by
  decide +kernel

theorem test_witness_NozzlesAtOtherPoints :
    let calling := pointA ready fun d => { d with st := .calling, position := some .p1 }
    let closed := inPower (pointA ready fun d => { d with st := .closed }) .halted
    let up := lifted calling .a .p1
    (ready.runs = true ∧ ready.up .a .p1 = false ∧ (ready.point .a).st = .idle ∧ (ready.point .a).position ≠ some .p4)
    ∧ (up.runs = true ∧ (up.point .a).st = .calling ∧ (up.point .a).position = some .p1 ∧ up.up .a .p1 = true
      ∧ (up.point .a).generation = up.ptu.newest ∧ (up.moveNozzle .a .p1 false).lowestUp .a = none
      ∧ ((lifted up .a .p4).moveNozzle .a .p1 false).lowestUp .a = some .p4)
    ∧ (finished.runs = true ∧ finished.up .a .p1 = false ∧ (finished.point .a).st = .finished)
    ∧ (calling.runs = true ∧ calling.up .a .p2 = false ∧ (calling.point .a).st = .calling)
    ∧ ((selling .stopping).runs = true ∧ ((selling .stopping).point .a).st.delivering = true)
    ∧ (closed.runs = true ∧ (closed.point .a).st = .closed ∧ closed.psc.power ≠ .night)
    ∧ (let night := inPower closed .night
       night.runs = true ∧ night.up .a .p1 = false ∧ night.psc.schedule.nozzleWake = true ∧ night.psc.power = .night
         ∧ night.good .mains = true ∧ (bad night .mains).good .mains = false
         ∧ (bad night .mains).psc.schedule.nozzleWake = true)
    ∧ (let s := lifted (selling .stopping) .a .p1
       s.runs = true ∧ s.up .a .p1 = true ∧ (s.point .a).position = some .p1
         ∧ (s.point .a).st ∈ [.closed, .idle, .authorized, .stopping, .finished]) := by decide +kernel

theorem test_witness_HangAndNoFlowStop :
    let s := lifted (pointA (selling .slowing) fun d => { d with noFlowDue := some 60000 }) .a .p1
    s.runs = true ∧ s.up .a .p1 = true ∧ (s.point .a).position = some .p1 ∧ (s.point .a).st = .slowing
      ∧ s.heldBy .a = some .m1 ∧ (s.point .a).current = some begun ∧ (s.point .a).noFlowDue = some 60000
      ∧ ready.runs = true ∧ (ready.point .a).noFlowDue = none
      ∧ (let s := contested .fuelling
         s.runs = true ∧ s.up .b .p1 = true ∧ (s.point .b).position = some .p1 ∧ (s.point .b).st = .starting
           ∧ s.heldBy .b = none) := by decide +kernel

theorem test_witness_CancelActsByState :
    (granted.runs = true ∧ granted.takes (.cancel 1) = true ∧ (granted.point .a).st = .authorized
      ∧ granted.psc.power = .run ∧ (granted.point .a).generation = granted.ptu.newest ∧ granted.lowestUp .a = none)
    ∧ (finished.runs = true ∧ finished.takes (.cancel 1) = true ∧ (finished.point .a).st = .finished)
    ∧ (granted.takes (.cancel 2) = true ∧ (granted.point .b).st = .idle ∧ granted.psc.power ≠ .draining)
    ∧ (let s := contested .starting
       s.runs = true ∧ s.takes (.cancel 3) = true ∧ (s.point .a).st = .starting ∧ s.heldBy .a = some .m1
         ∧ (s.point .a).current = some begun ∧ (s.point .b).st = .starting ∧ s.heldBy .b = none) := by decide +kernel

theorem test_witness_ClearMovesRecord :
    (finished.runs = true ∧ finished.takes (.clear 1 0 0) = true ∧ finished.takes (.clear 1 1 1) = true
      ∧ (finished.point .a).st = .finished ∧ (finished.point .a).current = some sold ∧ sold.seq = 1)
    ∧ (finished.takes (.clear 1 1 2) = true ∧ sold.seq ≠ 2)
    ∧ (ready.runs = true ∧ ready.takes (.clear 1 0 0) = true ∧ (ready.point .a).st ≠ .finished) := by decide +kernel

theorem test_witness_EmergencyStops :
    ((granted.runs = true ∧ granted.takes .stopAll = true ∧ granted.pins.emergency = false
      ∧ (granted.point .a).st = .authorized)
    ∧ (let s := selling .fuelling
       s.runs = true ∧ s.takes .stopAll = true ∧ s.pins.emergency = false ∧ (s.point .a).st.flowing = true
         ∧ s.heldBy .a = some .m1 ∧ (s.point .a).current = some begun)
    ∧ (let s := contested .starting
       s.runs = true ∧ s.takes .stopAll = true ∧ s.pins.emergency = false ∧ (s.point .a).st = .starting
         ∧ s.heldBy .a = some .m1 ∧ (s.point .a).current = some begun ∧ (s.point .b).st = .starting
         ∧ s.heldBy .b = none)
    ∧ { ready with pins := { ready.pins with emergency := true } }.runs = true)
    ∧ (∃ t, exec .stopAll granted = .next t) ∧ ∃ t, exec .emergencyStopAssert granted = .next t :=
  ⟨by decide +kernel, ⟨_, rfl⟩, ⟨_, rfl⟩⟩

theorem test_witness_ReadDeliveryAnswers :
    finished.takes (.readDelivery 1 1) = true ∧ (finished.point .a).current = some sold
      ∧ finished.takes (.readDelivery 1 2) = true ∧ (finished.point .a).previous = none
      ∧ finished.takes (.readDelivery 1 0) = true ∧ finished.takes (.readDelivery 1 3) = true := by decide +kernel

theorem test_witness_AuthorizationsExpire :
    (let s := pointA granted fun d => { d with authDue := some 30000 }
     s.runs = true ∧ (s.point .a).authDue = some 30000 ∧ s.psc.power = .run
       ∧ (s.point .a).generation = s.ptu.newest ∧ s.lowestUp .a = none)
    ∧ (let s := granted.mapHlp fun h => { h with silence := .running 5000, silenceTime := 5 }
       s.runs = true ∧ s.hlp.silence = .running 5000 ∧ (s.point .a).st = .authorized
         ∧ (s.point .b).st ≠ .authorized ∧ s.psc.power ≠ .draining)
    ∧ (ready.point .a).authDue = none ∧ ready.hlp.silence = .off := by decide +kernel

/-- A sale of 3,427 cl and one of 0 cl, each with its motor in RUN_ON and a run-on of 0 or not. -/
theorem test_witness_QuietExpiryFinalizes :
    let empty := selling .stopping
    let sale := empty.mapChannel .m1 fun c => { c with counter := 42667 }
    let ends (s : State) := s.runs = true ∧ (s.point .a).quietDue = some 1000 ∧ (s.point .a).st = .stopping
      ∧ s.heldBy .a = some .m1 ∧ s.dle.waiters.get .m1 = none ∧ (s.point .a).current = some begun
    let runsOn (s : State) (n : Nat) := (s.setMotor .m1 ⟨.runOn, 0, none⟩).mapChannel .m1 fun c =>
      { c with record := { c.record with runOn := n } }
    (∀ n ∈ [0, 10], ends (runsOn empty n) ∧ ends (runsOn sale n) ∧ ((runsOn sale n).motor .m1).st = .runOn
      ∧ (runsOn sale n).psc.power ≠ .draining)
    ∧ (let s := contested .stopping
     s.runs = true ∧ (s.point .a).quietDue = some 1000 ∧ (s.point .a).st = .stopping ∧ s.heldBy .a = some .m1
       ∧ (s.point .a).current = some begun ∧ s.dle.waiters.get .m1 = some .b ∧ (s.point .b).st = .starting
       ∧ s.heldBy .b = none ∧ (s.point .b).current = some begun ∧ (s.point .b).zeroPassed = false
       ∧ s.refreshing .b = true ∧ (s.side .b).sideFault = false)
    ∧ ends empty ∧ ends sale ∧ ((after (.quietExpiry .a) sale).point .a).st = .finished
      ∧ ((after (.quietExpiry .a) empty).point .a).st = .idle := by decide +kernel

/-- Full flow, SLOW alone, and a zero check that has not passed. -/
theorem test_witness_RunUpOpensValves :
    let waits := selling .starting
    let opens := pointA waits fun d => { d with zeroPassed := true }
    let late := opens.mapChannel .m1 fun c => { c with slow := some ⟨42044, true⟩ }
    let starts (s : State) := s.runs = true ∧ (s.motor .m1).st = .running ∧ s.dle.holders.get .m1 = some .a
      ∧ s.heldBy .a = some .m1 ∧ (s.point .a).st = .starting ∧ (s.point .a).current = some begun
    starts waits ∧ starts opens ∧ starts late ∧ (waits.point .a).zeroPassed = false
      ∧ (opens.point .a).zeroPassed = true ∧ opens.good .valveSupply = true ∧ begun.nSlow ≠ 0
      ∧ (opens.channel .m1).slow = some ⟨42044, false⟩ ∧ (late.channel .m1).slow = some ⟨42044, true⟩ := by
  decide +kernel

theorem test_witness_MotorsGrantedAndStopped :
    (let s := { ready with psc := { ready.psc with startQueue := [.m2, .m1], spacing := 1 } }
     s.runs = true ∧ s.psc.startQueue = .m2 :: [.m1] ∧ 1 ≤ s.psc.spacing)
    ∧ (ready.psc.startQueue = [] ∧ (ready.motor .m1).runOnDue = none)
    ∧ (let s := ready.setMotor .m1 ⟨.runOn, 0, some 10000⟩
       s.runs = true ∧ (s.motor .m1).runOnDue = some 10000) := by decide +kernel

/-- The end of a low phase with a pulse of a record that is the previous one, with none of it left, and of no record; and
of the current record when it is final, and when it is not and the previous one bears another number. -/
theorem test_witness_PulsesMadeAndDriven_credits :
    let low (s : State) (l : List Nat) : State := s.mapPou .a fun u => { u with phase := .low, queue := l }
    let earlier := (selling .fuelling).mapPoint .a fun d => { d with previous := some { sold with seq := 0 } }
    let head (s : State) (tag : Nat) (rest : List Nat) : Bool :=
      s.runs && (s.pou.get .a).phase == .low && (s.pou.get .a).queue == tag :: rest
    head (low earlier [0]) 0 [] = true ∧ head (low earlier [0, 0, 1]) 0 [0, 1] = true
      ∧ head (low earlier [7]) 7 [] = true ∧ head (low earlier [1]) 1 [] = true ∧ head (low finished [1]) 1 [] = true
      ∧ begun.seq = 1 ∧ begun.final = false ∧ { sold with seq := 0 }.final = true ∧ sold.final = true
      ∧ (earlier.point .a).current = some begun ∧ (finished.point .a).current = some sold
      ∧ (finished.point .a).previous = none
      ∧ (after (.pulseLowEnd .a) (low earlier [0])).rtm.deliveries.inFlight.isSome = true := by decide +kernel

/-- A net count at the high-water mark and one above it, the residue on either side of the divider, a busy, a READY and a
full output, and the three phases. -/
theorem test_witness_PulsesMadeAndDriven :
    let out (f : Pou → Pou) : State := (selling .fuelling).mapPou .a f
    let u (s : State) : Pou := s.pou.get .a
    let plain := out id
    let makes := out fun u => { u with generating := true, residue := 1 }
    let busy := out fun u => { u with generating := true, residue := 1, phase := .low, queue := List.replicate 254 1 }
    let full := out fun u => { u with generating := true, residue := 1, phase := .low, queue := List.replicate 255 1 }
    ((u plain).tracked = some (1, .m1) ∧ (0 : Int) ≤ (u plain).high ∧ ((u plain).high : Int) < 1
      ∧ (u plain).generating = false)
    ∧ (let s := out fun u => { u with generating := true }
       (u s).tracked = some (1, .m1) ∧ (u s).generating = true ∧ (u s).residue + 1 < (u s).divider)
    ∧ ((u makes).tracked = some (1, .m1) ∧ (u makes).divider ≤ (u makes).residue + 1 ∧ (u makes).queue = []
      ∧ (u makes).phase = .ready ∧ (makes.point .a).current = some begun ∧ begun.seq = 1)
    ∧ ((u busy).queue.length < 255 ∧ (u busy).phase ≠ .ready ∧ 255 ≤ (u full).queue.length)
    ∧ (busy.runs = true ∧ (u busy).phase = .low ∧ (u busy).queue = 1 :: List.replicate 253 1)
    ∧ (let s := out fun u => { u with phase := .high }
       s.runs = true ∧ (u s).phase = .high)
    ∧ (let s := out fun u => { u with phase := .low }
       s.runs = true ∧ (u s).phase = .low ∧ (u s).queue = [])
    ∧ (plain.runs = true ∧ plain.decoding .m1 = true ∧ (plain.channel .m1).reference = some (false, false)
      ∧ classify (false, false) (true, false) = .forward ∧ (plain.channel .m1).holder = some .a)
    ∧ (ready.takes (.readPulseOutput 2) = true ∧ Point.ofNumber 2 = some .b
      ∧ ready.takes (.readPulseOutput 3) = true ∧ Point.ofNumber 3 = none) := by decide +kernel

theorem test_witness_TotalsAddOnce :
    let t := defaultTotals (.fill none)
    let x : Addition := ⟨.a, 1, .m1, .g1, 3427, 5000⟩
    t.marks.get .a ≠ some 1 ∧ (t.add x).marks.get .a = some 1 ∧ x.volume ≠ 0
      ∧ ready.takes .readTotals = true := by decide +kernel

theorem test_witness_TotalsLawKept :
    ready.rtm.totalsLawful = true ∧ ((defaultTotals (.fill none)).add ⟨.a, 1, .m1, .g1, 3427, 5000⟩).lawful = true := by
  decide +kernel

theorem test_witness_WriteEndsSealTheCopy :
    let config := ready.mapRtm fun r => { r with config := { r.config with inFlight := some defaultConfig } }
    let waits (n : Nat) := config.mapHlp fun h => { h with hand := some (.waiting 8 [0] n 0) }
    let sale := finished.mapRtm fun r => { r with
      deliveries := { r.deliveries with inFlight := some finished.deliveriesImage }, carried := [additionOf .a sold] }
    let totals := ready.mapRtm fun r => { r with totals := { r.totals with inFlight := some (defaultTotals (.fill none)) } }
    ((waits 1).powered = true ∧ (waits 1).rtm.config.inFlight = some defaultConfig
      ∧ (waits 1).hlp.hand = some (.waiting 8 [0] 1 0) ∧ (waits 2).hlp.hand = some (.waiting 8 [0] 2 0))
    ∧ (sale.powered = true ∧ sale.rtm.deliveries.inFlight = some finished.deliveriesImage
      ∧ sale.rtm.totals.inFlight = none ∧ sale.rtm.owed = [] ∧ sale.rtm.carried = additionOf .a sold :: [])
    ∧ (totals.powered = true ∧ totals.rtm.totals.inFlight = some (defaultTotals (.fill none)) ∧ totals.rtm.owed = [])
    ∧ ready.rtm.writing .config = false := by decide +kernel

/-- Each region with a write in flight and each fate; a part without supply, and the lift of two nozzles at once there. -/
theorem test_witness_SupplyFallAbandonsWrites :
    let s := ready.mapRtm fun r => { r with
      config := { r.config with inFlight := some defaultConfig }
      totals := { r.totals with inFlight := some (defaultTotals (.fill none)) }
      deliveries := { r.deliveries with inFlight := some (.fill defaultSaved) } }
    let off := after (.supplyFallOrReset ⟨.torn 7 7, .untouched, .completed⟩) s
    (s.powered = true ∧ s.rtm.config.inFlight.isSome = true ∧ s.rtm.totals.inFlight.isSome = true
      ∧ s.rtm.deliveries.inFlight.isSome = true)
    ∧ (off.powered = false ∧ off.rtm.config.second = false ∧ off.rtm.deliveries.second = true
      ∧ (after (.nozzleLift .a .p1 (some .p2)) off).pins = ((off.moveNozzle .a .p1 true).moveNozzle .b .p2 true).pins
      ∧ (after .dayClockSecond off).psc = off.psc) := by decide +kernel

/-- One point's part of a DELIVERIES region that a start finds. -/
def found (st : SavedSt) (r : DeliveryRecord) (f : Option Stamp) : SavedPoint :=
  { defaultSaved with current := some r, lastSeq := 1, st := st, figuresAt := f, table := some prices }

/-- The later count across the wrap, equal counts and an earlier copy 2; an unsound copy of the next count and of
another. -/
theorem test_witness_PowerOnStarts_copies :
    let x (n : BitVec 32) := sealedCopy n (7 : Nat)
    let y (n : BitVec 32) := unsoundCopy n 0 (7 : Nat)
    (x 0xFFFFFFFF).sound = true ∧ (x 0).sound = true ∧ ((x 0).count - (x 0xFFFFFFFF).count).toNat = 1
      ∧ ((x 4).count - (x 5).count).toNat = 2 ^ 32 - 1 ∧ (y 5).count ≠ (x 5).count + 1
      ∧ (y 6).count = (x 5).count + 1 ∧ (y 5).sound = false ∧ (y 6).sound = false :=
  ⟨by simp, by simp, by decide, by decide, by decide, by decide, by simp, by simp⟩

/-- A region of two sound copies is found GOOD with any content; a retained record in RUNNING with figures, one in
STARTING_HELD without them, one not held, and a final one whose number is not the point's mark. -/
theorem test_witness_PowerOnStarts :
    (∀ d : DeliveriesImage,
      ((freshRegion 3 d).spoil false false).judge (.fill defaultSaved) = (d, 3, .good)
      ∧ ((freshRegion 3 (defaultTotals (.fill none))).spoil false false).judge (defaultTotals (.fill none))
        = (defaultTotals (.fill none), 3, .good))
    ∧ (found .running begun (some ⟨201, 79914⟩)).current = some begun ∧ (found .startingHeld begun none).st ≠ .settled
    ∧ begun.final = false ∧ sold.final = true
    ∧ (startTotals (defaultTotals (.fill none)) .good (.fill (found .settled sold none)) .good).marks.get .a
        ≠ some sold.seq := by
  refine ⟨fun d => ⟨?_, ?_⟩, by decide +kernel⟩ <;> simp [Region.judge, Region.spoil, Copy.spoil, freshRegion, laterCount]

/-- The recovered sale of 6.5: 30,140 pulses are 2,420 cl and 3,531 MU; its write of DELIVERIES begins, and its addition
waits for that write, while the totals stand as they were. -/
theorem test_recovery_of_the_manual :
    let d : DeliveriesImage := ⟨found .running (begun.figured 30140 0) (some ⟨201, 79914⟩), defaultSaved⟩
    let x := recoverPoint .a d.a (defaultTotals ⟨some 311, none⟩) .good .older false
    let t := ready.writeRecovered d ⟨x.saved, d.b⟩ x.before x.after
    x.saved.current.map (fun r => (r.volume, r.amount, r.cause, r.flags.recovered, r.finish))
        = some (2420, 3531, some .powerLoss, true, some ⟨201, 79914⟩)
      ∧ t.rtm.deliveries.inFlight = some ⟨x.saved, d.b⟩ ∧ t.rtm.carried = x.after ∧ x.after.length = 1
      ∧ t.totals = ready.totals ∧ x.totals.gradeAmount.get .g1 = 3531 := by decide +kernel

theorem test_witness_RestartStartsWarm :
    (ready.runs = true ∧ ready.takes .restart = true ∧ ready.rtm.idle = true
      ∧ ready.deliveriesImage = ready.rtm.deliveries.current.content
      ∧ ∀ p ∈ Point.all, ready.heldBy p = none ∧ (ready.point p).st ≠ .starting)
    ∧ (let s := ready.mapRtm fun r => { r with config := { r.config with inFlight := some defaultConfig } }
       s.runs = true ∧ s.takes .restart = true ∧ s.rtm.idle = false
         ∧ s.deliveriesImage = s.rtm.deliveries.current.content)
    ∧ (finished.runs = true ∧ finished.takes .restart = true ∧ finished.rtm.idle = true
      ∧ finished.deliveriesImage ≠ finished.rtm.deliveries.current.content)
    ∧ (let s := inPower (selling .slowing) .draining
       s.runs = true ∧ s.takes .restart = true ∧ s.holdsLawful = true ∧ s.psc.power = .draining
         ∧ (s.point .b).st ≠ .authorized)
    ∧ (∀ st ∈ [PointSt.starting, .fuelling, .slowing, .stopping],
       let s := selling st
       s.runs = true ∧ s.takes .restart = true ∧ s.holdsLawful = true ∧ (s.point .a).st.delivering = true
         ∧ s.heldBy .a = some .m1 ∧ (s.point .a).current = some begun)
    ∧ (let s := contested .fuelling
       s.runs = true ∧ s.takes .restart = true ∧ (s.point .b).st = .starting ∧ s.heldBy .b = none)
    ∧ (let s := ready.mapHlp fun h => { h with hand := some (.replying 0x41 [0]) }
       s.powered = true ∧ s.hlp.hand = some (.replying 0x41 [0])) := by decide +kernel

/-- Both ends of the ranges, and a field outside its range or a state that refuses. -/
theorem test_witness_SettingsTaken :
    let s := ready
    let on : List StepFields := [⟨3, 1, 60000, 1, 6, 0, 1, 0⟩]
    s.runs = true
    ∧ (s.takes (.loadDisplay ⟨3, 3, 3, 60⟩) = true ∧ s.takes (.loadDisplay ⟨0, 0, 0, 0⟩) = true
      ∧ s.takes (.loadDisplay ⟨0, 0, 0, 61⟩) = true)
    ∧ (s.takes (.loadGate ⟨8, 255, 10000, 1⟩) = true ∧ s.takes (.loadGate ⟨1, 1, 500, 0⟩) = true)
    ∧ (s.takes (.loadSense 8 ⟨15, 15, 2000, 10000⟩) = true ∧ Comparator.ofNumber 8 = some .warmB
      ∧ s.takes (.loadSense 1 ⟨8, 7, 0, 0⟩) = true)
    ∧ (s.takes (.loadSequence on) = true ∧ (stepTableOf on).isSome = true ∧ (inPower s .waking).runs = true
      ∧ (inPower s .waking).takes (.loadSequence on) = true)
    ∧ (s.takes (.setStartSpacing 10000) = true ∧ s.psc.startQueue = [] ∧ s.takes (.setStartSpacing 10001) = true)
    ∧ (s.takes (.setClock 65535 86399) = true ∧ s.takes (.setClock 0 86400) = true)
    ∧ (s.takes (.setSchedule ⟨3, 1439, 0, 1, 1⟩) = true ∧ (scheduleOf ⟨3, 1439, 0, 1, 1⟩).isSome = true
      ∧ s.takes (.setSchedule ⟨3, 7, 7, 0, 0⟩) = true)
    ∧ (s.takes (.setReportModes 2 (List.replicate 24 3)) = true ∧ policyOf 2 = some .keepNewest
      ∧ (reportModesOf (List.replicate 24 3)).isSome = true)
    ∧ (s.takes (.setHostSilence 0) = true ∧ s.takes (.setHostSilence 600) = true
      ∧ s.takes (.setHostSilence 601) = true) := by decide +kernel

theorem test_witness_ReadsAnswer :
    ready.takes (.readDisplay 2) = true ∧ Point.ofNumber 2 = some .b ∧ ready.takes .readGate = true
      ∧ ready.takes .readSequence = true ∧ ready.takes .readPower = true ∧ ready.takes .identify = true
      ∧ ready.takes .readStatus = true ∧ ready.hlp.hand = none
      ∧ (ready.mapHlp fun h => { h with silenceTime := 600 }).takes .readStatus = true := by decide +kernel

theorem test_witness_DisplayTestsAndHolds :
    let tested := ready.mapSide .a fun d => { d with test := some ⟨0, List.replicate 28 false, true, false⟩ }
    let held := ready.mapSide .b fun d => { d with hold := .timing 15000 }
    let last := ready.mapSide .a fun d =>
      { d with zero := .waiting, test := some ⟨5, List.replicate 28 false, true, false⟩ }
    (ready.runs = true ∧ ready.takes (.displayTest 1) = true ∧ ready.refreshing .a = true ∧ (ready.side .a).hold = .none
      ∧ (ready.point .a).st.delivering = false ∧ (ready.point .a).st ≠ .finished ∧ (ready.side .a).test = none)
    ∧ (ready.takes (.displayTest 2) = true ∧ ready.takes (.displayTest 3) = true ∧ ready.takes (.displayTest 0) = true
      ∧ ready.takes (.displayTest 4) = true ∧ ready.refreshing .b = true ∧ (ready.side .b).hold = .none
      ∧ (ready.point .b).st.delivering = false ∧ (ready.point .b).st ≠ .finished ∧ (ready.side .b).test = none)
    ∧ (State.reset.takes (.displayTest 1) = true ∧ State.reset.refreshing .a = false)
    ∧ (tested.takes (.displayTest 1) = true ∧ tested.refreshing .a = true ∧ (tested.side .a).test.isSome = true)
    ∧ (finished.takes (.displayTest 1) = true ∧ finished.refreshing .a = true ∧ (finished.point .a).st = .finished)
    ∧ (tested.runs = true ∧ (tested.side .a).test = some ⟨0, List.replicate 28 false, true, false⟩)
    ∧ (last.runs = true ∧ last.refreshing .a = true ∧ (last.side .a).zero = .waiting
      ∧ (last.side .a).test = some ⟨5, List.replicate 28 false, true, false⟩ ∧ last.hlp.hasRoom = true
      ∧ ((after (.refreshInstant .a (some (List.replicate 28 0))) last).side .a).zero = .allOn 0)
    ∧ (held.runs = true ∧ (held.side .b).hold = .timing 15000 ∧ (held.side .b).test = none
      ∧ (held.side .b).zero = .none) := by decide +kernel

theorem test_witness_RefreshJudges :
    let s := selling .fuelling
    (s.runs = true ∧ s.heldBy .a = some .m1 ∧ (s.point .a).current = some begun ∧ (s.point .a).st.delivering = true
      ∧ s.refreshing .a = true ∧ s.good .displaySupply = true ∧ (s.side .a).test = none
      ∧ (s.side .a).counts.length = 28 ∧ (s.side .a).faulted.length = 28 ∧ (s.side .a).counts[27]? = some 0
      ∧ (s.side .a).faulted[27]? = some false)
    ∧ (let s := bad ready .displaySupply
       s.runs = true ∧ s.refreshing .a = true ∧ s.good .displaySupply = false ∧ (s.side .a).test = none)
    ∧ (let s (z : ZeroCheck) := (selling .starting).mapSide .a fun d => { d with zero := z }
       (s (.allOn 2)).runs = true ∧ (s (.zeros 1)).runs = true ∧ (s (.allOn 2)).refreshing .a = true
         ∧ ((s (.allOn 2)).side .a).test = none ∧ ((s (.zeros 1)).point .a).st = .starting
         ∧ (s (.allOn 2)).heldBy .a = some .m1 ∧ ((s (.allOn 2)).point .a).current = some begun
         ∧ ((after (.refreshInstant .a none) (s (.allOn 2))).point .a).st = .stopping
         ∧ ((after (.refreshInstant .a (some (List.replicate 28 0xFF))) (s (.allOn 2))).side .a).zero = .zeros 0)
    ∧ (State.reset.runs = true ∧ State.reset.refreshing .a = false ∧ State.reset.heldBy .a = none) := by decide +kernel

/-- A position of a figure window and one of a price window that fault, at a holder, at a point that waits for its meter
and at a FINISHED point; and a bad refresh of the zero check that decides nothing. -/
theorem test_witness_RefreshJudges_faults :
    let worn (s : State) (x : Side) := s.mapSide x fun d => { d with counts := List.replicate 28 2 }
    let judged (s : State) (x : Side) := s.runs = true ∧ s.refreshing x = true ∧ s.good .displaySupply = true
      ∧ (s.side x).test = none ∧ (s.side x).counts.length = 28 ∧ (s.side x).faulted.length = 28
      ∧ (s.side x).sideFault = false ∧ (s.side x).zero = .none
      ∧ ∀ i ∈ [0, 11, 12, 27], (s.side x).counts[i]? = some 2 ∧ (s.side x).faulted[i]? = some false
    let waits := worn (contested .fuelling) .b
    let checks (z : ZeroCheck) := (selling .starting).mapSide .a fun d => { d with zero := z }
    (∀ st ∈ [PointSt.starting, .fuelling, .slowing], judged (worn (selling st) .a) .a
      ∧ (worn (selling st) .a).heldBy .a = some .m1 ∧ ((worn (selling st) .a).point .a).current = some begun
      ∧ ((worn (selling st) .a).point .a).st = st)
    ∧ (judged waits .b ∧ (waits.point .b).st = .starting ∧ waits.heldBy .b = none
      ∧ (waits.point .b).current = some begun ∧ begun.grade = .g1 ∧ waits.displayCloses .b .g1 = false)
    ∧ (judged (worn finished .a) .a ∧ ((worn finished .a).point .a).st = .finished
      ∧ ((worn finished .a).point .a).current = some sold)
    ∧ (∀ z ∈ [ZeroCheck.allOn 0, .allOn 1, .zeros 0], (checks z).runs = true ∧ (checks z).refreshing .a = true
      ∧ ((checks z).side .a).test = none ∧ ((checks z).side .a).zero = z
      ∧ ((after (.refreshInstant .a none) (checks z)).side .a).sideFault = ((checks z).side .a).sideFault) := by
  decide +kernel

/-- The gate OFF, OPEN, in QUARANTINE with the tamper line asserted or not and without mains; a mailbox of three and of
four entries; payloads of 1, 64 and 65 bytes; and an inbound queue of none and of one. -/
theorem test_witness_GateRequestsAct :
    let off := gateIn .off none
    let shut := gateIn .quarantine (some .tamper)
    let line := { shut with pins := { shut.pins with tamper := true } }
    let boxed (n : Nat) := inGate ready fun c => { c with outbound := List.replicate n ⟨1, [7], 1⟩ }
    let got := inGate ready fun c => { c with inbound := [⟨1, ⟨0, 0⟩, [7]⟩] }
    (off.runs = true ∧ off.crg.lawful = true ∧ off.takes .readerOn = true ∧ off.takes .readerOff = true
      ∧ off.psc.power ≠ .mainsLost ∧ off.crg.st = .off ∧ (inPower off .mainsLost).psc.power = .mainsLost
      ∧ (inPower off .mainsLost).takes .readerOn = true)
    ∧ (ready.crg.lawful = true ∧ ready.takes .readerOn = true ∧ ready.takes .readerOff = true
      ∧ ready.crg.st ≠ .quarantine ∧ ready.crg.st ≠ .off ∧ ready.takes .readerRelease = true)
    ∧ (shut.runs = true ∧ shut.crg.lawful = true ∧ shut.takes .readerOn = true ∧ shut.takes .readerRelease = true
      ∧ shut.crg.st = .quarantine ∧ shut.pins.tamper = false)
    ∧ (line.crg.lawful = true ∧ line.takes .readerRelease = true ∧ line.crg.st = .quarantine ∧ line.pins.tamper = true)
    ∧ ((inPower shut .mainsLost).crg.lawful = true ∧ (inPower shut .mainsLost).takes .readerRelease = true)
    ∧ (ready.takes (.readerPost 0 [7]) = true ∧ ready.crg.session = some 1
      ∧ (boxed 3).takes (.readerPost 65535 (List.replicate 64 7)) = true ∧ (boxed 3).crg.outbound.length < 4
      ∧ (boxed 4).takes (.readerPost 0 [7]) = true ∧ 4 ≤ (boxed 4).crg.outbound.length
      ∧ ready.takes (.readerPost 0 []) = true ∧ ready.takes (.readerPost 0 (List.replicate 65 7)) = true
      ∧ off.takes (.readerPost 0 [7]) = true ∧ off.crg.st ≠ .opened)
    ∧ (ready.takes .readerFetch = true ∧ ready.crg.inbound = [] ∧ got.takes .readerFetch = true
      ∧ got.crg.inbound = ⟨1, ⟨0, 0⟩, [7]⟩ :: []) := by decide +kernel

theorem test_witness_PollsSendPackets :
    let posted := inGate ready fun c => { c with outbound := [⟨1, [7], 1⟩] }
    let echo (l : Option (List Byte)) := inGate (gateIn .echo none) fun c => { c with lastGood := l }
    (State.reset.runs = true ∧ State.reset.crg.st = .off)
    ∧ ((asking ready false).runs = true ∧ (asking ready false).crg.exchange.isSome = true
      ∧ (asking ready false).crg.st = .opened)
    ∧ ((gateIn .sync none).runs = true ∧ (gateIn .sync none).crg.exchange = none ∧ (gateIn .sync none).crg.st = .sync)
    ∧ (ready.crg.exchange = none ∧ ready.crg.outbound = [] ∧ posted.crg.exchange = none ∧ posted.crg.st = .opened
      ∧ posted.crg.outbound = ⟨1, [7], 1⟩ :: [])
    ∧ ((echo none).crg.exchange = none ∧ (echo none).crg.st = .echo ∧ (echo none).crg.lastGood = none
      ∧ (echo (some [1, 2])).crg.lastGood = some [1, 2]) := by decide +kernel

/-- The fourth and the fifth miss; no loss and two losses within 600,000 ms; the violation below and at the threshold. -/
theorem test_witness_MissesAndViolations :
    let missed (n : Nat) (l : List Nat) := inGate (asking ready false) fun c => { c with miss := n, losses := l }
    let wrong (n : Nat) := inGate (asking ready false) fun c => { c with errors := n }
    let sync := asking (gateIn .sync none) false
    let live (s : State) := s.runs = true ∧ s.crg.lawful = true ∧ s.crg.exchange = some ⟨0, false⟩
      ∧ s.crg.pollOwed = false ∧ s.crg.st = .opened
    (live (missed 3 []) ∧ (missed 3 []).crg.miss + 1 < 5) ∧ (live (missed 4 []) ∧ 5 ≤ (missed 4 []).crg.miss + 1
      ∧ (missed 4 []).psc.power ≠ .draining)
    ∧ (live (missed 4 [0, 0]) ∧ 2 ≤ ((missed 4 [0, 0]).crg.losses.filter fun t => decide (40 - t ≤ 600000)).length)
    ∧ (live (wrong 2) ∧ min 255 ((wrong 2).crg.errors + 1) < (wrong 2).crg.settings.errorThreshold)
    ∧ (live (wrong 3) ∧ (wrong 3).crg.settings.errorThreshold ≤ min 255 ((wrong 3).crg.errors + 1))
    ∧ (sync.runs = true ∧ sync.crg.lawful = true ∧ sync.crg.exchange = some ⟨0, false⟩ ∧ sync.crg.pollOwed = false
      ∧ sync.crg.st = .sync)
    ∧ readPacket [1, 2, 3] = none ∧ ready.runs = true ∧ ready.crg.exchange = none := by decide +kernel

/-- A HELLO in SYNC; a PASS that is new, held and repeated; an ACCEPTED verdict on a PASS of the gate; and loop packets
2,999 ms and 3,000 ms after the first of their run. -/
theorem test_witness_GoodPacketsTaken :
    let hello := packet 0x10 0 (List.replicate 12 1)
    let pass := packet 0x11 0 [7]
    let idle := packet 0x13 2 []
    let sync := asking (gateIn .sync none) false
    let full := inGate (asking ready false) fun c => { c with inbound := List.replicate 6 ⟨1, ⟨0, 0⟩, [7]⟩ }
    let again := inGate (asking ready false) fun c => { c with readerToggle := true }
    let sent := inGate (asking ready true) fun c => { c with outbound := [⟨1, [7], 1⟩] }
    let looped (now : Nat) := { inGate (asking ready false) fun c =>
      { c with run := some (.loopOn, 0), settings := { c.settings with echo := true } } with now := now }
    let echo (now : Nat) := { inGate (asking (gateIn .echo none) false) fun c =>
      { c with run := some (.loopOff, 0) } with now := now }
    ([7].length ≤ 64 ∧ (readerKind 0x11).takes 1 = true)
    ∧ (sync.runs = true ∧ sync.crg.lawful = true ∧ sync.crg.exchange = some ⟨0, false⟩ ∧ sync.crg.pollOwed = false
      ∧ readPacket hello = some ⟨.hello, false, .none, List.replicate 12 1⟩ ∧ sync.crg.st = .sync
      ∧ sync.psc.checking .readerOpen = false)
    ∧ ((asking ready false).runs = true ∧ (asking ready false).crg.lawful = true
      ∧ readPacket pass = some ⟨.pass, false, .none, [7]⟩ ∧ (asking ready false).crg.session = some 1
      ∧ (asking ready false).crg.readerToggle = false ∧ (asking ready false).crg.inbound = []
      ∧ (asking ready false).crg.settings.holdThreshold = 6)
    ∧ ((looped 2999).runs = true ∧ (looped 3000).crg.lawful = true ∧ (looped 3000).crg.settings.echo = true
      ∧ (looped 3000).bindingStands = false ∧ readPacket (packet 0x14 0 []) = some ⟨.loopOn, false, .none, []⟩)
    ∧ ((echo 2999).runs = true ∧ (echo 3000).crg.lawful = true ∧ (echo 3000).psc.checking .readerOpen = false
      ∧ readPacket (packet 0x15 0 []) = some ⟨.loopOff, false, .none, []⟩)
    ∧ (full.runs = true ∧ full.crg.lawful = true ∧ full.crg.settings.holdThreshold ≤ full.crg.inbound.length)
    ∧ (again.runs = true ∧ again.crg.lawful = true ∧ again.crg.readerToggle = true)
    ∧ (sent.runs = true ∧ sent.crg.lawful = true ∧ sent.crg.exchange = some ⟨0, true⟩
      ∧ readPacket idle = some ⟨.idle, false, .accepted, []⟩ ∧ sent.crg.outbound = ⟨1, [7], 1⟩ :: []) := by decide +kernel

/-- A PRESENCE of a card in, of one out, of a payload of 3 below and at the error threshold, and a repeat; a HELLO in OPEN
with no authorization, and with one bound; and the three other verdicts on a PASS. -/
theorem test_witness_GoodPacketsTaken_opened :
    let presence (n : Byte) := readPacket (packet 0x12 0 [n])
    let verdict (n : Byte) := readPacket (packet 0x13 n [])
    let asks (s : State) := s.runs = true ∧ s.crg.lawful = true ∧ s.crg.exchange = some ⟨0, false⟩
      ∧ s.crg.pollOwed = false ∧ s.crg.st = .opened ∧ s.crg.session = some 1
    let count (n : Nat) := inGate (asking ready false) fun c => { c with errors := n }
    let again := inGate (asking ready false) fun c => { c with readerToggle := true }
    let sent := inGate (asking ready true) fun c => { c with outbound := [⟨1, [7], 1⟩] }
    (presence 1 = some ⟨.presence, false, .none, [1]⟩ ∧ presence 2 = some ⟨.presence, false, .none, [2]⟩
      ∧ presence 3 = some ⟨.presence, false, .none, [3]⟩)
    ∧ (asks (count 2) ∧ asks (count 3) ∧ asks again ∧ (count 3).crg.settings.errorThreshold = 4
      ∧ (count 3).crg.readerToggle = false ∧ again.crg.readerToggle = true)
    ∧ (readPacket (packet 0x10 0 (List.replicate 12 1)) = some ⟨.hello, false, .none, List.replicate 12 1⟩
      ∧ (asking ready false).crg.outbound = [] ∧ (∀ p ∈ Point.all, (ready.point p).boundTo 1 = false)
      ∧ asks (asking granted false) ∧ (granted.point .a).boundTo 1 = true ∧ (granted.point .a).st = .authorized)
    ∧ (sent.crg.outbound = ⟨1, [7], 1⟩ :: [] ∧ verdict 6 = some ⟨.idle, false, .refused, []⟩
      ∧ verdict 4 = some ⟨.idle, false, .held, []⟩ ∧ verdict 0 = some ⟨.idle, false, .none, []⟩) := by decide +kernel

/-- A session that ends at a point in AUTHORIZED, at one that holds its meter in STARTING, at one that waits for it, and
at one whose valves are open. -/
theorem test_witness_sessionEnded :
    let open_ := pointA (selling .fuelling) fun d => { d with auth := some grant }
    (granted.point .a).boundTo 1 = true ∧ (granted.point .a).st = .authorized
    ∧ (let s := contested .starting
       s.runs = true ∧ s.crg.lawful = true ∧ s.crg.session = some 1 ∧ s.hlp.hasRoom = true ∧ s.takes .readerOff = true
         ∧ (s.point .a).boundTo 1 = true ∧ (s.point .a).st = .starting ∧ s.heldBy .a = some .m1
         ∧ (s.point .a).current = some begun ∧ (s.point .b).boundTo 1 = true ∧ (s.point .b).st = .starting
         ∧ s.heldBy .b = none
         ∧ ((after .readerOff s).point .a).st = .stopping ∧ ((after .readerOff s).point .b).current = none)
    ∧ ((open_.point .a).boundTo 1 = true ∧ (open_.point .a).st.flowing = true) := by decide +kernel

theorem test_witness_AttemptsAndTamper :
    let booting := inGate (gateIn .powering none) fun c => { c with bootDue := some 2000 }
    let resting := inGate (gateIn .powering none) fun c => { c with offDue := some 1000 }
    let sync (n : Nat) := inGate (gateIn .sync none) fun c => { c with attempts := n }
    (booting.runs = true ∧ booting.crg.lawful = true ∧ booting.crg.bootDue = some 2000 ∧ booting.crg.st = .powering
      ∧ booting.crg.offDue = none)
    ∧ (resting.runs = true ∧ resting.crg.lawful = true ∧ resting.crg.offDue = some 1000 ∧ resting.crg.bootDue = none)
    ∧ ((sync 1).runs = true ∧ (sync 1).crg.lawful = true ∧ (sync 1).crg.attempts + 1 < 3
      ∧ (sync 2).crg.lawful = true ∧ 3 ≤ (sync 2).crg.attempts + 1)
    ∧ (ready.runs = true ∧ ready.crg.lawful = true ∧ ready.crg.st ≠ .sync ∧ ready.crg.st ≠ .powering
      ∧ ready.pins.tamper = false) := by decide +kernel

theorem test_witness_GateLawKept :
    ready.crg.lawful = true ∧ (after .tamperAssert ready).crg.st = .quarantine
      ∧ (after .tamperAssert ready).crg.lawful = true := by decide +kernel

theorem test_witness_HoldsAndBindingsKept :
    (selling .starting).holdsLawful = true ∧ (selling .starting).bindingsLawful = true
      ∧ (after .readerOff (selling .starting)).holdsLawful = true
      ∧ (let open_ := (selling .fuelling).mapChannel .m1 fun c => { c with mainOpen := true, slowOpen := true }
         open_.holdsLawful = true ∧ open_.valvesLawful = true) := by decide +kernel

theorem test_witness_WakesAndSleepsByState :
    let night := inPower ready .night
    let dark := bad night .mains
    let noCard := night.mapPsc fun c => { c with schedule := { c.schedule with cardWake := false } }
    (ready.runs = true ∧ ready.takes .wake = true ∧ ready.takes .sleep = true ∧ ready.psc.power = .run
      ∧ ready.anySelling = false)
    ∧ (night.runs = true ∧ night.takes .wake = true ∧ night.psc.power = .night ∧ night.good .mains = true
      ∧ night.psc.schedule.cardWake = true)
    ∧ (dark.runs = true ∧ dark.takes .wake = true ∧ dark.psc.power = .night ∧ dark.good .mains = false
      ∧ dark.psc.schedule.cardWake = true)
    ∧ (noCard.runs = true ∧ noCard.psc.schedule.cardWake = false)
    ∧ ((inPower ready .mainsLost).runs = true ∧ (inPower ready .mainsLost).takes .wake = true)
    ∧ ((inPower granted .draining).runs = true ∧ (inPower granted .draining).takes .wake = true)
    ∧ (granted.runs = true ∧ granted.takes .sleep = true ∧ granted.psc.power = .run ∧ granted.anySelling = true)
    ∧ ((inPower ready .waking).runs = true ∧ (inPower ready .waking).takes .sleep = true
      ∧ (inPower ready .halted).runs = true ∧ (inPower ready .halted).takes .sleep = true) := by decide +kernel

/-- Mains that returns in NIGHT and HALTED with a wake that waits and without one, and in MAINS_LOST with either intended
state; and a sequence whose first step has a settle time. -/
theorem test_witness_WakesAndSleepsByState_mains :
    let s (p : PowerSt) (i : Intended) (w : Option WakeCause) := (bad (inPower ready p) .mains).mapPsc fun c => { c with
      intended := i, wakePending := w, sensors := c.sensors.setSc .mains { c.sensors.e1 with since := some 0 } }
    let slow := (inPower ready .night).mapPsc fun c => { c with steps := [⟨some .heaterA, true, 1, .none, 0, .abort⟩] }
    (∀ p ∈ [PowerSt.night, .halted, .mainsLost], ∀ i ∈ [Intended.run, .night], ∀ w ∈ [none, some WakeCause.card],
      let s := s p i w
      s.runs = true ∧ s.psc.power = p ∧ s.psc.intended = i ∧ s.psc.wakePending = w ∧ s.good .mains = false
        ∧ (s.psc.sensors.sc .mains).since = some 0 ∧ s.hlp.hasRoom = true ∧ ∀ p ∈ Point.all, (s.point p).st ≠ .starting)
    ∧ (slow.runs = true ∧ slow.takes .wake = true
      ∧ slow.psc.steps[0]? = some ⟨some .heaterA, true, 1, .none, 0, .abort⟩
      ∧ (after .wake slow).psc.cursor = some ⟨1, .settle, 0⟩) := by decide +kernel

/-- A voltage at the fail reference of 640 mV and one below it, a persistence of 0, and a timer that runs. -/
theorem test_witness_SensingMoves :
    let timed (c : Comparator) (s : State) := s.mapPsc fun p =>
      { p with sensors := p.sensors.setSc c { p.sensors.sc c with since := some 0 } }
    let quick := ready.mapPsc fun p =>
      { p with sensors := p.sensors.setSc .mains { p.sensors.e1 with settings := ⟨6, 8, 0, 0⟩ } }
    let lost := timed .mains (selling .slowing)
    (ready.runs = true ∧ (ready.psc.sensors.sc .mains).settings.kf = 6 ∧ decide (640 < 64 * (6 + 4)) = false
      ∧ decide (639 < 64 * (6 + 4)) = true ∧ (ready.psc.sensors.sc .mains).settings.failMs ≠ 0
      ∧ (ready.psc.sensors.sc .mains).since = none)
    ∧ (quick.runs = true ∧ (quick.psc.sensors.sc .mains).settings.failMs = 0)
    ∧ (lost.runs = true ∧ (lost.psc.sensors.sc .mains).since = some 0 ∧ (lost.psc.sensors.sc .mains).good = true
      ∧ lost.psc.power = .run ∧ (lost.point .a).st.flowing = true ∧ lost.heldBy .a = some .m1
      ∧ (lost.point .a).current = some begun ∧ (lost.point .b).st = .idle)
    ∧ (let s (i : Intended) := (timed .mains (bad (inPower ready .mainsLost) .mains)).mapPsc fun c => { c with intended := i }
       (s .run).runs = true ∧ (s .night).runs = true ∧ (s .run).good .mains = false
         ∧ ((s .night).psc.sensors.sc .mains).since = some 0 ∧ (s .night).psc.wakePending = none
         ∧ ∀ p ∈ Point.all, ((s .run).point p).st ≠ .starting)
    ∧ ((timed .standby (inPower ready .mainsLost)).runs = true ∧ (timed .standby ready).runs = true
      ∧ (timed .readerSupply ready).runs = true ∧ (timed .readerSupply ready).crg.st = .opened
      ∧ (timed .warmA ready).runs = true ∧ (timed .warmB (inPower ready .halted)).runs = true
      ∧ (timed .pulserSupply ready).runs = true
      ∧ ((timed .pulserSupply ready).psc.sensors.sc .pulserSupply).since = some 0) := by decide +kernel

/-- A point in STARTING that holds its meter and one that waits, at a loss of mains; a running delivery at a loss of the
valve supply; and its return at a point in STARTING ready to flow, with its slow compare unfired and fired. -/
theorem test_witness_SensingMoves_points :
    let timed (c : Comparator) (s : State) := s.mapPsc fun p =>
      { p with sensors := p.sensors.setSc c { p.sensors.sc c with since := some 0 } }
    let lost := timed .mains (contested .starting)
    let fallen := timed .valveSupply (selling .fuelling)
    let ran := { pointA (selling .starting) fun d => { d with zeroPassed := true } with now := 800 }
    let back := timed .valveSupply (bad ran .valveSupply)
    let slowed := back.mapChannel .m1 fun c => { c with slow := some ⟨42044, true⟩ }
    (lost.runs = true ∧ (lost.psc.sensors.sc .mains).since = some 0 ∧ lost.good .mains = true ∧ lost.psc.power = .run
      ∧ (lost.point .a).st = .starting ∧ lost.heldBy .a = some .m1 ∧ (lost.point .a).current = some begun
      ∧ (lost.point .b).st = .starting ∧ lost.heldBy .b = none)
    ∧ (fallen.runs = true ∧ (fallen.psc.sensors.sc .valveSupply).since = some 0 ∧ fallen.good .valveSupply = true
      ∧ fallen.heldBy .a = some .m1 ∧ (fallen.point .a).current = some begun ∧ (fallen.point .a).st.flowing = true)
    ∧ (∀ s ∈ [back, slowed], s.runs = true ∧ (s.psc.sensors.sc .valveSupply).since = some 0
      ∧ s.good .valveSupply = false ∧ s.heldBy .a = some .m1 ∧ (s.point .a).current = some begun
      ∧ s.psc.power = .run ∧ (s.point .a).st = .starting ∧ (s.point .a).zeroPassed = true
      ∧ (s.motor .m1).st = .running ∧ (s.motor .m1).onSince + (s.channel .m1).record.runUp = s.now)
    ∧ begun.nSlow ≠ 0 ∧ (back.channel .m1).slow = some ⟨42044, false⟩ := by decide +kernel

/-- The states of a step's checks, that of the step's condition, the gate and the display test, good and bad. -/
def checking (phase : StepPhase) (c : Check) (f : OnFail) : State :=
  let st : PowerStep := ⟨some .heaterA, true, 1, c, 1, f⟩
  (bad (stepping phase st) .warmA).mapPsc fun p => { p with steps := [st, { st with check := .none }] }

/-- A step in hand, and none. -/
theorem test_witness_StepsMove :
    (∀ phase ∈ [StepPhase.settle, .check, .retryWait], ∀ f ∈ [OnFail.abort, .retry 0, .retry 1, .proceed],
      let s := checking phase (.condition .warmA) f
      s.runs = true ∧ s.psc.power = .waking ∧ s.psc.cursor = some ⟨1, phase, 0⟩ ∧ s.psc.retries = 0
        ∧ s.psc.steps[1 - 1]? = some ⟨some .heaterA, true, 1, .condition .warmA, 1, f⟩
        ∧ s.psc.steps[1]?.isSome = true ∧ s.good .warmA = false)
    ∧ (stepping .settle ⟨none, true, 1, .none, 1, .abort⟩).psc.steps[1]? = none
    ∧ ready.psc.cursor = none := by decide +kernel

/-- What ends a step in SETTLE: no check; a condition, good and bad, with time and without; the gate OPEN, in QUARANTINE and
in SYNC; and the display test that is off, held, barred by a sale, and begun. -/
theorem test_witness_StepsMove_settle :
    let s (c : Check) := checking .settle c .abort
    let test := s (.displayTest .a)
    (s .none).psc.steps[0]?.map (·.check) = some .none
    ∧ ((s (.condition .warmB)).good .warmB = true ∧ (s (.condition .warmA)).good .warmA = false
      ∧ (stepping .settle ⟨none, true, 1, .condition .warmA, 0, .abort⟩).runs = true)
    ∧ ((s .readerOpen).crg.st = .opened
      ∧ (inGate (s .readerOpen) fun c => { c with st := .quarantine }).crg.st = .quarantine
      ∧ (inGate (s .readerOpen) fun c => { c with st := .sync }).crg.st ≠ .opened)
    ∧ (test.refreshing .a = true ∧ (test.side .a).hold = .none
      ∧ ((test.point .a).st.delivering || decide ((test.point .a).st = .finished)) = false
      ∧ (bad test .displaySupply).runs = true
      ∧ (test.mapPsc fun c => { c with drives := { c.drives with displayA := false } }).refreshing .a = false
      ∧ (test.mapSide .a fun d => { d with hold := .timing 15000 }).refreshing .a = true
      ∧ (pointA test fun d => { d with st := .finished, current := some sold }).runs = true) := by decide +kernel

/-- What ends a step in CHECK: its condition, a HELLO in SYNC, the tamper line, and the sixth refresh of its test, with
nothing and with something listed. -/
theorem test_witness_StepsMove_check :
    let s (c : Check) := checking .check c .abort
    let warm := (s (.condition .warmA)).mapPsc fun p =>
      { p with sensors := p.sensors.setSc .warmA { p.sensors.sc .warmA with since := some 0 } }
    let sync := asking (inGate (s .readerOpen) fun c => { c with st := .sync, session := none }) false
    let test (l : List Bool) := (s (.displayTest .a)).mapSide .a fun d => { d with test := some ⟨5, l, false, true⟩ }
    (warm.runs = true ∧ warm.good .warmA = false ∧ (warm.psc.sensors.sc .warmA).since = some 0)
    ∧ (sync.runs = true ∧ sync.crg.st = .sync ∧ sync.crg.exchange = some ⟨0, false⟩
      ∧ readPacket (packet 0x10 0 (List.replicate 12 1)) = some ⟨.hello, false, .none, List.replicate 12 1⟩)
    ∧ (sync.pins.tamper = false ∧ sync.crg.lawful = true)
    ∧ (∀ l ∈ [List.replicate 28 false, List.replicate 28 true], (test l).runs = true ∧ (test l).refreshing .a = true
      ∧ ((test l).side .a).test = some ⟨5, l, false, true⟩ ∧ l.length = 28)
    ∧ ((test (List.replicate 28 false)).good .displaySupply
      && (List.range 28).all fun i => decide ((List.replicate 28 (0 : Byte))[i]? = some 0x00)) = true := by decide +kernel

/-- R160, R161 and R162: a condition that is good at the end of SETTLE goes on to the next step with its load driven; RETRY
goes to RETRY_WAIT with its drive off, and used up it halts the part. -/
theorem test_steps_pass_and_fail :
    let next := after .settleTimeElapsed (checking .settle (.condition .warmB) .abort)
    let again := after .checkTimeout (checking .check (.condition .warmA) (.retry 1))
    let used := after .checkTimeout (checking .check (.condition .warmA) (.retry 0))
    (next.psc.cursor, next.psc.retries, next.psc.drives.heaterA) = (some ⟨2, .settle, 1⟩, 0, true)
    ∧ (again.psc.cursor, again.psc.retries, again.psc.drives.heaterA) = (some ⟨1, .retryWait, 1000⟩, 1, false)
    ∧ (used.psc.power, used.psc.cursor, used.psc.drives) = (.halted, none, noDrives) := by decide +kernel

/-- A listed load that is on behind one that is off; only loads that are off; and the last second of a day. -/
theorem test_witness_ShutdownAndClockTick :
    let night := (inPower ready .night).mapPsc fun c => { c with
      drives := { c.drives with heaterA := false }, shutdown := [.heaterA, .aux1, .aux2] }
    let none_ := night.mapPsc fun c => { c with shutdown := [.heaterA] }
    let late := ready.mapPsc fun c => { c with clock := ⟨65535, 86399⟩ }
    (night.runs = true ∧ night.psc.power = .night ∧ night.psc.shutdown = [.heaterA] ++ .aux1 :: [.aux2]
      ∧ night.loadIsOn .heaterA = false ∧ night.loadIsOn .aux1 = true)
    ∧ (none_.runs = true ∧ none_.psc.shutdown ≠ [] ∧ none_.psc.shutdown.all (fun k => !none_.loadIsOn k) = true)
    ∧ (ready.psc.shutdown = [] ∧ late.runs = true ∧ late.psc.clockSet = false
      ∧ (after .dayClockSecond late).psc.clock = ⟨0, 0⟩) := by decide +kernel

/-- The second before the night minute and before the wake minute, in each power state, with and without mains. -/
theorem test_witness_ShutdownAndClockTick_minutes :
    let due (night wake : Option Nat) (s : State) := s.mapPsc fun c => { c with
      clock := ⟨10, 19799⟩, clockSet := true, schedule := { c.schedule with night := night, wake := wake } }
    let night := due (some 330) none
    let wake := due none (some 330)
    let all := [PowerSt.night, .waking, .run, .draining, .mainsLost, .halted]
    (∀ w ∈ all, ∀ s ∈ [inPower ready w, inPower (selling .fuelling) w],
      (night s).runs = true ∧ (night s).psc.clockSet = true ∧ (night s).psc.schedule.night = some 330
      ∧ (wake s).psc.schedule.wake = some 330 ∧ (wake s).psc.schedule.night ≠ some 330
      ∧ 60 * 330 = (wake s).psc.clock.sec + 1)
    ∧ (night ready).anySelling = false ∧ (night (selling .fuelling)).anySelling = true
    ∧ (wake (inPower ready .night)).good .mains = true ∧ (wake (bad (inPower ready .night) .mains)).good .mains = false
    ∧ (wake (inPower ready .halted)).good .mains = true := by decide +kernel

/-- Queues of 31 and of 32 entries under both policies; a fetch of 1, of 8, of 0 and of 9, and a repeat. -/
theorem test_witness_ReportsQueueAndFetch :
    let r : Report := ⟨.none, ⟨0, 0⟩, .readerInbound 1⟩
    let queue (n : Nat) (p : Policy) := { ready.hlp with reports := List.replicate n r, policy := p }
    let empty := ready.mapHlp fun h => { h with reports := [] }
    ((queue 31 .keepOldest).reports.length < 32 ∧ 32 ≤ (queue 32 .keepOldest).reports.length
      ∧ (queue 32 .keepNewest).policy = .keepNewest)
    ∧ (ready.runs = true ∧ ready.takes (.fetchReports 1 0) = true ∧ ready.takes (.fetchReports 8 1) = true
      ∧ ready.takes (.fetchReports 0 0) = true ∧ ready.takes (.fetchReports 9 0) = true
      ∧ ready.takes (.fetchReports 1 2) = true ∧ ready.hlp.reports ≠ [])
    ∧ (empty.runs = true ∧ empty.takes (.fetchReports 8 0) = true ∧ empty.hlp.reports = []
      ∧ empty.hlp.lost = 0) := by decide +kernel

theorem test_witness_LineTakesFrames :
    let f : Frame := ⟨0x09, []⟩
    let hands (n : Nat) := ready.mapHlp fun h => { h with hand := some .restarting, buffer := List.replicate n f }
    let replying (l : List Frame) := ready.mapHlp fun h => { h with hand := some (.replying 9 [0]), buffer := l }
    let taken (f : Frame) := ready.mapHlp fun h => { h with hand := some (.taken f) }
    (ready.powered = true ∧ ready.hlp.rx = .hunt ∧ f.payload.length ≤ 239 ∧ ready.hlp.hand = none
      ∧ ready.hlp.buffer = [] ∧ [0, 0] ≠ crc16Bytes [1, 0x09] ∧ (0 : Byte).toNat = 0 ∧ 240 < (241 : Byte).toNat)
    ∧ ((hands 1).powered = true ∧ (hands 1).hlp.hand.isSome = true ∧ (hands 1).hlp.buffer.length < 2
      ∧ 2 ≤ (hands 2).hlp.buffer.length)
    ∧ (ready.mapHlp fun h => { h with rx := .inside [3] }).hlp.rx = .inside [3]
    ∧ ((replying []).hlp.hand = some (.replying 9 [0]) ∧ (replying []).hlp.buffer = []
      ∧ (replying [f]).hlp.buffer = f :: [])
    ∧ ((taken ⟨0x77, []⟩).hlp.hand = some (.taken ⟨0x77, []⟩) ∧ (taken ⟨9, [0]⟩).hlp.hand = some (.taken ⟨9, [0]⟩)) := by
  decide +kernel

theorem test_witness_LinkBoundsKept :
    ready.hlp.bounded = true ∧ ready.hlp.prompt = true ∧ (after .emergencyStopAssert ready).hlp.bounded = true := by
  decide +kernel

end Sys2Proof.Tests
end

section
/-! PROOFS. Family 1, meters: what the requests of the Meter Input Unit answer and change (chapter 1), and what reset
leaves. -/

namespace Sys2Proof.Machine

/-! ## The requests of the unit -/

theorem exec_loadMeter (cal : Bool) (n : Nat) (f : MeterFields) (s : State) :
    exec (.loadMeter cal n f) s = execLoadMeter cal n f s := rfl

theorem exec_meterReset (n : Nat) (s : State) : exec (.meterReset n) s = execMeterReset n s := rfl

theorem exec_readMeter (n : Nat) (s : State) : exec (.readMeter n) s = execReadMeter n s := rfl

theorem kindOf_loadMeter (cal : Bool) (n : Nat) (f : MeterFields) : kindOf (.loadMeter cal n f) = 1 := rfl

theorem kindOf_meterReset (n : Nat) : kindOf (.meterReset n) = 2 := rfl

theorem Meter.ofNumber_number (m : Meter) : Meter.ofNumber m.number = some m :=
  (Meter.ofNumber_eq_some _ m).2 rfl

/-- Only the numbers 1 to 4 name a meter. -/
theorem Meter.ofNumber_of_outside {n : Nat} (h : n = 0 ∨ 4 < n) : Meter.ofNumber n = none := by
  refine Option.eq_none_iff_forall_ne_some.2 fun m hm => ?_
  have hn := (Meter.ofNumber_eq_some n m).1 hm
  cases m <;> simp only [Meter.number] at hn <;> omega

/-! ## READ_METER -/

/-- A net count in four bytes is the difference of the counters itself (R6, R16). -/
theorem Channel.signedBytes_net (c : Channel) : signedBytes c.net = u32 (c.counter - c.snapshot).toNat := by
  rw [signedBytes, Channel.net, netCount, BitVec.ofInt_toInt]

/-- Settles O7: the number is judged first; the reply of a meter is the list of its items, of which the net count alone
depends on whether the meter is held. -/
theorem readMeterAnswers : Obligations.ReadMeterAnswers := by
  intro s n ht
  constructor
  · intro hn
    rw [exec_readMeter, execReadMeter, State.request_taken ht, Meter.ofNumber_of_outside hn]
    rfl
  · intro m hm
    subst hm
    have hnet := Channel.signedBytes_net (s.channel m)
    rw [exec_readMeter, execReadMeter, State.request_taken ht, Meter.ofNumber_number]
    refine congrArg (fun l => Host.Outcome.next (s.replies 3 l)) ?_
    unfold okReply State.meterReply
    dsimp only
    cases h : (s.channel m).holder with
    | none =>
      simp only [List.append_assoc, optNumber, Option.isSome_none, Bool.false_eq_true, if_false, signedBytes,
        BitVec.ofInt_ofNat, BitVec.toNat_zero]
    | some p => simp only [List.append_assoc, optNumber, Option.isSome_some, if_true, hnet]

/-! ## Reset -/

/-- Settles O2: reset is one state without a free value in what is read here, so each item is computed. -/
theorem resetLeaves : Obligations.ResetLeaves := by
  refine ⟨fun m => ?_, fun p => ?_, rfl, rfl, rfl, rfl, fun c => ?_, fun l => ?_, by decide⟩
  · cases m <;> decide
  · cases p <;> decide
  · cases c <;> rfl
  · cases l <;> rfl

/-! ## METER_RESET -/

/-- Nothing moves but the meters and the host link port. -/
def State.MetersOnly (s t : State) : Prop := { t with hlp := s.hlp, miu := s.miu } = s

theorem State.MetersOnly.refl (s : State) : s.MetersOnly s := rfl

theorem State.MetersOnly.trans {s t u : State} (h : s.MetersOnly t) (k : t.MetersOnly u) : s.MetersOnly u := by
  cases s; cases t; cases u
  simp_all [State.MetersOnly]

theorem State.MetersOnly.mapChannel (s : State) (m : Meter) (f : Channel → Channel) : s.MetersOnly (s.mapChannel m f) :=
  rfl

theorem State.MetersOnly.changed (s : State) (c : Condition) (v : Bool) : s.MetersOnly (s.changed c v) := by
  unfold State.changed
  split <;> rfl

theorem State.MetersOnly.clearedLatch (s : State) (c : Condition) (was : Bool) :
    s.MetersOnly (s.clearedLatch c was) := by
  unfold State.clearedLatch
  split
  · exact .changed s c false
  · exact .refl s

/-- The fields that nothing but the meters and the port leaves as they were. -/
theorem State.MetersOnly.fields {s t : State} (h : s.MetersOnly t) :
    t.now = s.now ∧ t.pins = s.pins ∧ t.points = s.points ∧ t.crg = s.crg ∧ t.psc = s.psc ∧ t.rtm = s.rtm := by
  unfold State.MetersOnly at h
  rw [← h]
  exact ⟨rfl, rfl, rfl, rfl, rfl, rfl⟩

/-- Posting the change of a latch leaves every channel as it is. -/
@[simp] theorem State.clearedLatch_channel (s : State) (c : Condition) (was : Bool) (m : Meter) :
    (s.clearedLatch c was).channel m = s.channel m := by
  unfold State.clearedLatch State.changed
  (repeat' split) <;> rfl

theorem State.MetersOnly.resetMeter (s : State) (m : Meter) : s.MetersOnly (s.resetMeter m) :=
  (((State.MetersOnly.mapChannel s m _).trans (.mapChannel _ m _)).trans (.clearedLatch _ _ _)).trans
    ((State.MetersOnly.clearedLatch _ _ _).trans (.clearedLatch _ _ _))

/-- METER_RESET clears the meter's own channel, whose mismatch timer starts afresh or stops, and no other (R15). -/
theorem State.resetMeter_channel (s : State) (m j : Meter) : (s.resetMeter m).channel j =
    if j = m then { (s.channel m).cleared with
      mismatchSince := if (s.mapChannel m (·.cleared)).mismatched m then some s.now else none }
    else s.channel j := by
  unfold State.resetMeter
  dsimp only
  simp only [State.clearedLatch_channel, State.restartMismatch_channel, State.channel_mapChannel]
  split <;> simp_all

/-- What METER_RESET has cleared of a channel (R15). -/
def Channel.ClearedFrom (c d : Channel) (now : Nat) : Prop :=
  ∃ since, d = { c with fault := false, creep := false, valveFault := false, creepCount := 0, windowCount := 0
                        lastWindow := 0, mismatchSince := since } ∧ (since = none ∨ since = some now)

theorem State.resetMeter_clears (s : State) (m : Meter) :
    (s.channel m).ClearedFrom ((s.resetMeter m).channel m) s.now := by
  rw [State.resetMeter_channel, if_pos rfl]
  refine ⟨_, rfl, ?_⟩
  split
  · exact .inr rfl
  · exact .inl rfl

theorem State.resetMeter_other (s : State) {m j : Meter} (h : j ≠ m) : (s.resetMeter m).channel j = s.channel j := by
  rw [State.resetMeter_channel, if_neg h]

/-- METER_RESET of a list of meters without repetition clears those and no others. -/
theorem State.resetMeters (l : List Meter) (hl : l.Nodup) (s : State) :
    s.MetersOnly (l.foldl State.resetMeter s) ∧ ∀ m : Meter,
      if m ∈ l then (s.channel m).ClearedFrom ((l.foldl State.resetMeter s).channel m) s.now
      else (l.foldl State.resetMeter s).channel m = s.channel m := by
  induction l generalizing s with
  | nil => exact ⟨.refl s, fun m => by simp⟩
  | cons x l ih =>
    obtain ⟨hx, hl⟩ := List.nodup_cons.1 hl
    obtain ⟨hframe, hchan⟩ := ih hl (s.resetMeter x)
    have hs : s.MetersOnly (s.resetMeter x) := .resetMeter s x
    refine ⟨hs.trans hframe, fun m => ?_⟩
    have hm := hchan m
    rw [hs.fields.1] at hm
    by_cases hmx : m = x
    · subst hmx
      rw [if_neg hx] at hm
      rw [if_pos List.mem_cons_self, List.foldl_cons, hm]
      exact s.resetMeter_clears m
    · rw [s.resetMeter_other hmx] at hm
      simpa [hmx] using hm

/-- The meters a METER_RESET names (R15). -/
theorem metersOf_eq (n : Nat) (h : n ≤ 4) :
    ∃ l, metersOf n = some l ∧ l.Nodup ∧ ∀ m : Meter, m ∈ l ↔ n = 0 ∨ n = m.number := by
  obtain rfl | rfl | rfl | rfl | rfl : n = 0 ∨ n = 1 ∨ n = 2 ∨ n = 3 ∨ n = 4 := by omega
  all_goals exact ⟨_, rfl, by decide, fun m => by cases m <;> decide⟩

/-- An answer that moves nothing but the meters is given at once. -/
theorem State.answered_meters {s t : State} (hr : s.runs = true) (h : s.MetersOnly t) (kind : Nat) (reply : List Byte) :
    s.answered kind (.acts t reply) = t.replies kind reply := by
  obtain ⟨-, hc, hd, hn⟩ := State.runs_iff.1 hr
  obtain ⟨-, -, hpoints, hcrg, hpsc, hrtm⟩ := h.fields
  exact State.answered_plain (State.noStepDue_congr (by rw [hcrg]) (by rw [hpsc]) hn) hpoints (by rw [hpsc])
    (by rw [hrtm, hc]) (by rw [hrtm, hd]) kind reply

/-- Settles O6: METER_RESET is the clearing of each meter named, one after the other, answered at once. -/
theorem meterResetClears : Obligations.MeterResetClears := by
  intro s n hr ht hn
  obtain ⟨l, hl, hnodup, hmem⟩ := metersOf_eq n hn
  obtain ⟨hframe, hchan⟩ := s.resetMeters l hnodup
  refine ⟨(l.foldl State.resetMeter s).replies 2 [0], ?_, rfl, hframe, fun m => ?_⟩
  · rw [exec_meterReset, execMeterReset, State.request_taken ht, hl, orBadField, kindOf_meterReset,
      State.answered_meters hr hframe]
    rfl
  · have hm := hchan m
    by_cases hmem' : n = 0 ∨ n = m.number
    · rw [if_pos hmem']
      rwa [if_pos ((hmem m).2 hmem')] at hm
    · rw [if_neg hmem']
      rwa [if_neg (mt (hmem m).1 hmem')] at hm

/-! ## LOAD_METER -/

theorem inRange_of_mem {lo hi n : Nat} (h : lo ≤ n ∧ n ≤ hi) : inRange lo hi n = some n := by
  simp [inRange, h]

/-- Fields in range give their meter record (R13, R14). -/
theorem meterRecordOf_of_ranges {f : MeterFields} {present : Bool} (hp : f.present = if present then 1 else 0)
    (h : 2000 ≤ f.q ∧ f.q ≤ 60000 ∧ f.reverseLimit ≤ 65535 ∧ 1 ≤ f.creepThreshold ∧ f.creepThreshold ≤ 65535 ∧
      1 ≤ f.phaseThreshold ∧ f.phaseThreshold ≤ 255 ∧ f.runUp ≤ 5000 ∧ f.runOn ≤ 60) :
    meterRecordOf f = some
      { present := present, q := f.q, reverseLimit := f.reverseLimit, creepThreshold := f.creepThreshold
        phaseThreshold := f.phaseThreshold, runUp := f.runUp, runOn := f.runOn } := by
  obtain ⟨hq, hq', hrev, hcreep, hcreep', hphase, hphase', hup, hon⟩ := h
  have hflag : flagOf f.present = some present := by rw [hp]; cases present <;> rfl
  rw [meterRecordOf, hflag, inRange_of_mem ⟨hq, hq'⟩, inRange_of_mem ⟨Nat.zero_le _, hrev⟩,
    inRange_of_mem ⟨hcreep, hcreep'⟩, inRange_of_mem ⟨hphase, hphase'⟩, inRange_of_mem ⟨Nat.zero_le _, hup⟩,
    inRange_of_mem ⟨Nat.zero_le _, hon⟩]
  rfl

/-- A delivery names a meter at a point that delivers with a record of it (R14). -/
theorem State.inDelivery_iff (s : State) (m : Meter) : s.inDelivery m = true ↔
    ∃ p r, (s.point p).st.delivering = true ∧ (s.point p).current = some r ∧ r.meter = m := by
  simp only [State.inDelivery, Point.all, List.any_eq_true, Bool.and_eq_true, Option.any_eq_true, decide_eq_true_eq]
  constructor
  · rintro ⟨p, -, hst, r, hr, hm⟩
    exact ⟨p, r, hst, hr, hm⟩
  · rintro ⟨p, r, hst, hr, hm⟩
    exact ⟨p, by cases p <;> simp, hst, r, hr, hm⟩

/-- A refused LOAD_METER leaves the switch as sampled, and is answered at once (R14). -/
theorem State.answered_calibrate {s : State} (hr : s.runs = true) (cal : Bool) (kind : Nat) (reply : List Byte) :
    s.answered kind (.acts (s.calibrate cal) reply) = (s.calibrate cal).replies kind reply := by
  obtain ⟨-, hc, hd, hn⟩ := State.runs_iff.1 hr
  exact State.answered_plain (s := s) (t := s.calibrate cal) hn rfl rfl hc hd kind reply

/-- A sense of the meter differs from its command while it is evaluated (R12). -/
theorem State.mismatched_iff (s : State) (m : Meter) : s.mismatched m = true ↔
    (s.channel m).record.present = true ∧ s.good .valveSupply = true
      ∧ (s.pins.mainSense.get m ≠ (s.channel m).mainOpen ∨ s.pins.slowSense.get m ≠ (s.channel m).slowOpen) := by
  simp [State.mismatched, and_assoc]

/-- The mismatch timer after a change of a sense: it starts, runs on, or stops, and nothing else moves (R12). -/
theorem State.retime_eq (s : State) (m : Meter) : s.retime m =
    { s with miu := s.miu.set m { s.channel m with
        mismatchSince :=
          if (s.channel m).record.present = true ∧ s.good .valveSupply = true
            ∧ (s.pins.mainSense.get m ≠ (s.channel m).mainOpen ∨ s.pins.slowSense.get m ≠ (s.channel m).slowOpen) then
            some ((s.channel m).mismatchSince.getD s.now)
          else none } } := by
  rw [← if_congr (s.mismatched_iff m) rfl rfl]
  rfl

/-- The channel of a meter that takes a record, its valves evaluated anew (R2, R12, R14). -/
def State.reloaded (s : State) (m : Meter) (r : MeterRecord) : State :=
  (s.mapChannel m fun c => { c with record := r, reference := if r.present then c.reference else none }).retime m

theorem State.reloaded_eq (s : State) (m : Meter) (r : MeterRecord) : s.reloaded m r =
    { s with miu := s.miu.set m { s.channel m with
        record := r
        reference := if r.present = true then (s.channel m).reference else none
        mismatchSince :=
          if r.present = true ∧ s.good .valveSupply = true ∧ (s.pins.mainSense.get m ≠ (s.channel m).mainOpen
            ∨ s.pins.slowSense.get m ≠ (s.channel m).slowOpen) then some ((s.channel m).mismatchSince.getD s.now)
          else none } } := by
  rw [State.reloaded, State.retime_eq]
  cases m <;> rfl

/-- A taken record is a change of CONFIG and of the meter's channel (R14, R97). -/
theorem State.answered_loadRecord {s : State} (hr : s.runs = true) (m : Meter) (r : MeterRecord) (kind : Nat)
    (reply : List Byte) :
    s.answered kind (.acts ((s.calibrate true).loadRecord m r) reply) =
      ((s.calibrate true).reloaded m r).configChanged kind reply := by
  obtain ⟨-, hc, hd, hn⟩ := State.runs_iff.1 hr
  exact State.answered_config (s := s) (t := (s.calibrate true).reloaded m r) hn rfl rfl hc hd kind reply

/-- Settles O5: the tests come in their order, the switch, the fields, the deliveries; only an accepted record is a change
of CONFIG. -/
theorem loadMeterJudged : Obligations.LoadMeterJudged := by
  refine ⟨fun s n f m present hr ht hm hp hranges hfree => ?_, fun s n f hr ht => ?_,
    fun s n f m p r hr ht hm hf hst hcur hmeter => ?_⟩
  · have hrec := meterRecordOf_of_ranges hp hranges
    have hin : (s.calibrate true).inDelivery m = false := by
      rw [Bool.eq_false_iff, Ne, State.inDelivery_iff]
      rintro ⟨p, r, hst, hcur, hmeter⟩
      exact hfree p hst r hcur hmeter
    dsimp only
    rw [exec_loadMeter, execLoadMeter, State.request_taken ht, kindOf_loadMeter]
    simp only [hm, hrec, hin, Bool.not_true, Bool.false_eq_true, if_false, State.answered_loadRecord hr]
    rw [State.reloaded_eq]
    rfl
  · rw [exec_loadMeter, execLoadMeter, State.request_taken ht, kindOf_loadMeter]
    exact congrArg Host.Outcome.next (State.answered_calibrate hr false 1 _)
  · obtain ⟨x, hx⟩ := Option.isSome_iff_exists.1 hf
    have hin : (s.calibrate true).inDelivery m = true := (State.inDelivery_iff _ m).2 ⟨p, r, hst, hcur, hmeter⟩
    rw [exec_loadMeter, execLoadMeter, State.request_taken ht, kindOf_loadMeter]
    simp only [hm, hx, hin, Bool.not_true, Bool.false_eq_true, if_false, if_true]
    exact congrArg Host.Outcome.next (State.answered_calibrate hr true 1 _)

/-! ## Samples of an unheld meter -/

theorem exec_pulserSample (m : Meter) (x y : Bool) (s : State) :
    exec (.pulserSample m x y) s = s.event (s.sample m (x, y)) := rfl

/-- The end of an event that moves nothing but the meters and the host link port. -/
theorem State.settle_meters {s t : State} (hr : s.runs = true) (h : s.MetersOnly t) : t.settle s = t := by
  obtain ⟨-, hc, hd, hn⟩ := State.runs_iff.1 hr
  obtain ⟨-, -, hpoints, hcrg, hpsc, hrtm⟩ := h.fields
  exact State.settle_plain (State.noStepDue_congr (by rw [hcrg]) (by rw [hpsc]) hn) hpoints (by rw [hpsc])
    (by rw [hrtm, hc]) (by rw [hrtm, hd])

/-- The four forward steps of the table of R1. -/
theorem classify_eq_forward_iff (r x : Bool × Bool) : classify r x = .forward ↔
    (r.1, r.2, x.1, x.2) ∈ [(false, false, true, false), (true, false, true, true), (true, true, false, true),
      (false, true, false, false)] := by
  revert r x
  decide

/-- The four backward steps of the table of R1. -/
theorem classify_eq_backward_iff (r x : Bool × Bool) : classify r x = .backward ↔
    (r.1, r.2, x.1, x.2) ∈ [(false, false, false, true), (true, false, false, false), (true, true, true, false),
      (false, true, true, true)] := by
  revert r x
  decide

theorem classify_eq_same_iff (r x : Bool × Bool) : classify r x = .same ↔ x = r := by
  revert r x
  decide

/-- The state in which a channel has taken a sample as its reference (R1). -/
def State.referred (s : State) (m : Meter) (x : Bool × Bool) : State :=
  s.mapChannel m fun c => { c with reference := some x }

section
variable {s : State} {m : Meter} {r x : Bool × Bool} (hd : s.decoding m = true) (hr : (s.channel m).reference = some r)
include hd hr

/-! A sample of a decoding channel with a reference acts by its class (R1). -/

theorem State.sample_same (hc : classify r x = .same) : s.sample m x = none := by simp [State.sample, hd, hr, hc]

theorem State.sample_forward (hc : classify r x = .forward) :
    s.sample m x = some ((s.referred m x).forwardStep m) := by simp [State.sample, hd, hr, hc, State.referred]

theorem State.sample_backward (hc : classify r x = .backward) :
    s.sample m x = some ((s.referred m x).backwardStep m) := by simp [State.sample, hd, hr, hc, State.referred]

theorem State.sample_error (hc : classify r x = .error) :
    s.sample m x = some ((s.referred m x).mapChannel m (·.phaseError)) := by
  simp [State.sample, hd, hr, hc, State.referred]

end

/-- The first sample of a decoding channel becomes its reference (R1). -/
theorem State.sample_of_no_reference {s : State} {m : Meter} (hd : s.decoding m = true)
    (hr : (s.channel m).reference = none) (x : Bool × Bool) :
    s.sample m x = some (s.referred m x) := by
  simp [State.sample, hd, hr, State.referred]

/-- A channel of an unheld meter after a forward step (R1, R5). -/
def Channel.crept (c : Channel) : Channel :=
  { c with counter := c.counter + 1, creepCount := min 65535 (c.creepCount + 1)
           creep := c.creep || decide (c.record.creepThreshold ≤ min 65535 (c.creepCount + 1)) }

@[simp] theorem State.changed_channel (s : State) (c : Condition) (v : Bool) (m : Meter) :
    (s.changed c v).channel m = s.channel m := by
  simp [State.channel]

/-- A forward step of an unheld meter moves that meter alone, and posts where the creep latch sets (R1, R5). -/
theorem State.forwardStep_unheld {s : State} {m : Meter} (h : (s.channel m).holder = none) :
    s.MetersOnly (s.forwardStep m)
      ∧ ∀ j : Meter, (s.forwardStep m).channel j = if j = m then (s.channel m).crept else s.channel j := by
  have hholder : ((s.mapChannel m (·.stepForward)).channel m).holder = none := by
    rw [State.channel_mapChannel, if_pos rfl]
    exact h
  unfold State.forwardStep
  simp only [hholder]
  by_cases hdue : ((s.mapChannel m (·.stepForward)).channel m).creepDue = true
  · rw [if_pos hdue]
    refine ⟨((State.MetersOnly.mapChannel s m _).trans (.mapChannel _ m _)).trans (.changed _ _ _), fun j => ?_⟩
    simp only [State.changed_channel, State.channel_mapChannel, if_true] at hdue ⊢
    simp only [Channel.creepDue, Channel.stepForward, h, satAdd, Bool.and_eq_true, decide_eq_true_eq] at hdue
    split <;> simp_all [Channel.crept, Channel.stepForward, satAdd]
  · rw [if_neg hdue]
    refine ⟨.mapChannel s m _, fun j => ?_⟩
    simp only [State.channel_mapChannel, if_true] at hdue ⊢
    simp only [Channel.creepDue, Channel.stepForward, h, satAdd] at hdue
    split
    · cases hc : (s.channel m).creep <;> simp_all [Channel.crept, Channel.stepForward, satAdd]
    · rfl

/-- A backward step of an unheld meter takes 1 from its counter (R1). -/
theorem State.backwardStep_unheld {s : State} {m : Meter} (h : (s.channel m).holder = none) :
    s.backwardStep m = s.mapChannel m fun c => { c with counter := c.counter - 1 } := by
  have hstep : (s.channel m).stepBackward = { s.channel m with counter := (s.channel m).counter - 1 } := by
    simp [Channel.stepBackward, h]
  have hholder : ((s.mapChannel m (·.stepBackward)).channel m).holder = none := by
    rw [State.channel_mapChannel, if_pos rfl, hstep]
    exact h
  unfold State.backwardStep
  simp only [hholder]
  exact congrArg (fun c => { s with miu := s.miu.set m c }) hstep

/-- A sample whose effect moves nothing but the meters and the host link port is the whole of its event. -/
theorem exec_pulserSample_meters {s t : State} {m : Meter} {x : Bool × Bool} (hr : s.runs = true)
    (hs : s.sample m x = some t) (h : s.MetersOnly t) : exec (.pulserSample m x.1 x.2) s = .next t := by
  rw [exec_pulserSample, hs, State.event_some (State.powered_of_runs hr), State.settle_meters hr h]

/-- A sample that is no step of a decoding channel has no effect (R1, R2). -/
theorem State.sample_eq_none {s : State} {m : Meter} {x : Bool × Bool}
    (h : s.decoding m = false ∨ (s.channel m).reference = some x) : s.sample m x = none := by
  cases hd : s.decoding m with
  | false => simp [State.sample, hd]
  | true =>
    exact State.sample_same hd (h.resolve_left (by simp [hd])) ((classify_eq_same_iff x x).2 rfl)

/-- Settles O8: each class of R1 moves the sampled channel alone. -/
theorem sampleOfUnheldMeter : Obligations.SampleOfUnheldMeter := by
  refine ⟨fun s m x y hr => ⟨fun h => ?_, fun hd href => ?_⟩, fun s m r x hr hd href hholder hne => ?_⟩
  · rw [exec_pulserSample, State.sample_eq_none h, State.event_none]
  · exact exec_pulserSample_meters (x := (x, y)) hr (State.sample_of_no_reference hd href _)
      (.mapChannel s m fun c => { c with reference := some (x, y) })
  · have htaken : s.MetersOnly (s.referred m x) := .mapChannel s m _
    have hchan (j : Meter) : (s.referred m x).channel j =
        if j = m then { s.channel m with reference := some x } else s.channel j := s.channel_mapChannel m j _
    have hholder' : ((s.referred m x).channel m).holder = none := by
      rw [hchan, if_pos rfl]
      exact hholder
    cases hclass : classify r x with
    | same => exact absurd ((classify_eq_same_iff r x).1 hclass) hne
    | forward =>
      obtain ⟨hframe, hstep⟩ := State.forwardStep_unheld hholder'
      refine ⟨_, exec_pulserSample_meters hr (State.sample_forward hd href hclass) (htaken.trans hframe),
        htaken.trans hframe, fun j hj => ?_, ?_⟩
      · rw [hstep, if_neg hj, hchan, if_neg hj]
      · rw [hstep, if_pos rfl, hchan, if_pos rfl, if_pos ((classify_eq_forward_iff r x).1 hclass)]
        rfl
    | backward =>
      have hforward : classify r x ≠ .forward := by simp [hclass]
      have hsample := State.sample_backward hd href hclass
      rw [State.backwardStep_unheld hholder'] at hsample
      have hframe := htaken.trans (.mapChannel _ m fun c => { c with counter := c.counter - 1 })
      refine ⟨_, exec_pulserSample_meters hr hsample hframe, hframe, fun j hj => ?_, ?_⟩
      · rw [State.channel_mapChannel, if_neg hj, hchan, if_neg hj]
      · rw [State.channel_mapChannel, if_pos rfl, hchan, if_pos rfl,
          if_neg (mt (classify_eq_forward_iff r x).2 hforward), if_pos ((classify_eq_backward_iff r x).1 hclass)]
    | error =>
      have hforward : classify r x ≠ .forward := by simp [hclass]
      have hbackward : classify r x ≠ .backward := by simp [hclass]
      have hframe := htaken.trans (.mapChannel _ m (·.phaseError))
      refine ⟨_, exec_pulserSample_meters hr (State.sample_error hd href hclass) hframe, hframe, fun j hj => ?_, ?_⟩
      · rw [State.channel_mapChannel, if_neg hj, hchan, if_neg hj]
      · rw [State.channel_mapChannel, if_pos rfl, hchan, if_pos rfl,
          if_neg (mt (classify_eq_forward_iff r x).2 hforward),
          if_neg (mt (classify_eq_backward_iff r x).2 hbackward)]
        rfl

end Sys2Proof.Machine
end

section
/-! PROOFS. What the motor start queue and the stop of a holder do to the rest of the part: one relation for all that the
tests of the queue may move, and one for an event that stops holders (R62 to R68, R176, R177). -/

namespace Sys2Proof.Machine

/-! ## Valve commands -/

/-- Nothing of a channel moved but its valve commands and its mismatch timer (R11, R12). -/
def Channel.ValvesOnly (c d : Channel) : Prop :=
  d = { c with mainOpen := d.mainOpen, slowOpen := d.slowOpen, mismatchSince := d.mismatchSince }

theorem Channel.ValvesOnly.refl (c : Channel) : c.ValvesOnly c := rfl

theorem Channel.ValvesOnly.trans {c d e : Channel} (h : c.ValvesOnly d) (k : d.ValvesOnly e) : c.ValvesOnly e := by
  cases c; cases d; cases e
  simp_all [Channel.ValvesOnly]

/-- The counts, the latches, the hold and the compares that valve commands leave as they were. -/
theorem Channel.ValvesOnly.counts {c d : Channel} (h : c.ValvesOnly d) :
    d.counter = c.counter ∧ d.reference = c.reference ∧ d.snapshot = c.snapshot ∧ d.holder = c.holder
      ∧ d.creepCount = c.creepCount ∧ d.windowCount = c.windowCount ∧ d.reverse = c.reverse ∧ d.slow = c.slow
      ∧ d.stop = c.stop := by
  cases c; cases d
  simp_all [Channel.ValvesOnly]

/-- The windows, the latches and the record that valve commands leave as they were. -/
theorem Channel.ValvesOnly.latches {c d : Channel} (h : c.ValvesOnly d) :
    d.record = c.record ∧ d.lastWindow = c.lastWindow ∧ d.windowDue = c.windowDue ∧ d.errorTotal = c.errorTotal
      ∧ d.fault = c.fault ∧ d.valveFault = c.valveFault := by
  cases c; cases d
  simp_all [Channel.ValvesOnly]

theorem State.commandValves_valves (s : State) (m j : Meter) (x y : Bool) :
    (s.channel j).ValvesOnly ((s.commandValves m x y).channel j) := by
  obtain ⟨hother, since, hm⟩ := s.commandValves_channel m j x y
  by_cases hj : j = m
  · subst hj
    rw [hm]
    rfl
  · rw [hother hj]
    exact .refl _

/-- The two commands a meter's valves have taken (R11). -/
theorem State.commandValves_commands (s : State) (m : Meter) (x y : Bool) :
    ((s.commandValves m x y).channel m).mainOpen = x ∧ ((s.commandValves m x y).channel m).slowOpen = y := by
  obtain ⟨-, since, hm⟩ := s.commandValves_channel m m x y
  rw [hm]
  exact ⟨rfl, rfl⟩

/-! ## Holders -/

theorem State.heldBy_congr {s t : State} (h : t.dle.holders = s.dle.holders) (p : Point) : t.heldBy p = s.heldBy p := by
  rw [State.heldBy, h]
  rfl

/-- The point's valves may open in this event: it holds its meter in STARTING with its zero check passed (R63). -/
def State.mayOpen (s : State) (p : Point) : Prop :=
  (s.point p).st = .starting ∧ (s.point p).zeroPassed = true ∧ (s.heldBy p).isSome = true

theorem State.mayOpen_congr {s t : State} {p : Point} (hd : t.dle.holders = s.dle.holders)
    (hp : t.point p = s.point p) : t.mayOpen p ↔ s.mayOpen p := by
  rw [State.mayOpen, State.mayOpen, hp, State.heldBy_congr hd]

/-! ## The tests of the motor start queue -/

/-- All that the tests of the motor start queue may move: motors, the queue and the time of the last grant; and at a point
whose valves may open, its state, its pulse output and the valves of a meter it holds. -/
structure State.Grants (s t : State) : Prop where
  dle : t.dle = { s.dle with motors := t.dle.motors }
  psc : t.psc = { s.psc with startQueue := t.psc.startQueue, lastGrant := t.psc.lastGrant }
  valves : ∀ m, (s.channel m).ValvesOnly (t.channel m)
  point : ∀ p, ¬ s.mayOpen p → t.point p = s.point p
  pou : ∀ p, ¬ s.mayOpen p → t.pou.get p = s.pou.get p
  channel : ∀ p m, ¬ s.mayOpen p → s.dle.holders.get m = some p → t.channel m = s.channel m
  selling : ∀ p, (s.point p).st.selling = true → (t.point p).st.selling = true
  hlp : (∀ p, ¬ s.mayOpen p) → t.hlp = s.hlp

namespace State.Grants

variable {s t u : State}

theorem holders (h : s.Grants t) : t.dle.holders = s.dle.holders := by rw [h.dle]

theorem waiters (h : s.Grants t) : t.dle.waiters = s.dle.waiters := by rw [h.dle]

theorem mayOpen (h : s.Grants t) {p : Point} (hp : ¬ s.mayOpen p) : ¬ t.mayOpen p :=
  mt (State.mayOpen_congr h.holders (h.point p hp)).1 hp

theorem refl (s : State) : s.Grants s where
  dle := rfl
  psc := rfl
  valves _ := .refl _
  point _ _ := rfl
  pou _ _ := rfl
  channel _ _ _ _ := rfl
  selling _ h := h
  hlp _ := rfl

theorem trans (h : s.Grants t) (k : t.Grants u) : s.Grants u where
  dle := by rw [k.dle, h.dle]
  psc := by rw [k.psc, h.psc]
  valves m := (h.valves m).trans (k.valves m)
  point p hp := (k.point p (h.mayOpen hp)).trans (h.point p hp)
  pou p hp := (k.pou p (h.mayOpen hp)).trans (h.pou p hp)
  channel p m hp hm := (k.channel p m (h.mayOpen hp) (by rw [h.holders, hm])).trans (h.channel p m hp hm)
  selling p hp := k.selling p (h.selling p hp)
  hlp hp := (k.hlp fun p => h.mayOpen (hp p)).trans (h.hlp hp)

theorem setMotor (s : State) (m : Meter) (x : Motor) : s.Grants (s.setMotor m x) :=
  { State.Grants.refl s with dle := rfl }

theorem queue (s : State) (l : List Meter) (g : Nat) :
    s.Grants (s.mapPsc fun c => { c with startQueue := l, lastGrant := g }) :=
  { State.Grants.refl s with psc := rfl }

/-- The valves of a holder that may open do open: nothing of any other point or of its meter moves (R63). -/
theorem openValves {s : State} {p : Point} {m : Meter} (hopen : s.mayOpen p) (hm : s.dle.holders.get m = some p)
    (r : DeliveryRecord) : s.Grants (s.openValves p m r) := by
  have hother {q : Point} (hq : ¬ s.mayOpen q) : q ≠ p := by
    rintro rfl
    exact hq hopen
  unfold State.openValves
  dsimp only
  refine ⟨by simp, by simp, fun j => ?_, fun q hq => ?_, fun q hq => ?_, fun q j hq hj => ?_, fun q hq => ?_,
    fun h => absurd hopen (h p)⟩
  · exact s.commandValves_valves m j _ true
  · simp [State.point, hother hq]
  · simp [hother hq]
  · have hjm : j ≠ m := by
      rintro rfl
      exact hother hq (Option.some.inj (hj.symm.trans hm))
    exact (s.commandValves_channel m j _ true).1 hjm
  · by_cases hqp : q = p
    · subst hqp
      simp only [State.point, State.post_points, State.touchDeliveries_points, State.mapPou_points,
        State.mapPoint_points, Pair.get_set, if_true]
      split <;> rfl
    · simpa [State.point, hqp] using hq

theorem tryOpen (s : State) (p : Point) : s.Grants (s.tryOpen p) := by
  unfold State.tryOpen
  dsimp only
  split
  · rename_i m r hm hr
    split
    · rename_i h
      exact .openValves ⟨h.1, h.2.1, by simp [hm]⟩ (State.holder_of_heldBy s hm) r
    · exact .refl s
  · exact .refl s

theorem tryOpenHolder (s : State) (m : Meter) : s.Grants (s.tryOpenHolder m) := by
  unfold State.tryOpenHolder
  split
  · exact .tryOpen s _
  · exact .refl s

theorem grant (s : State) (m : Meter) (rest : List Meter) : s.Grants (s.grant m rest) :=
  ((State.Grants.queue s rest s.now).trans (.setMotor _ m _)).trans (.tryOpenHolder _ m)

theorem testHead (s : State) (fuel : Nat) : s.Grants (s.testHead fuel) := by
  induction fuel generalizing s with
  | zero => exact .refl s
  | succ n ih =>
    unfold State.testHead
    split
    · exact .refl s
    · split
      · exact (State.Grants.grant s _ _).trans (ih _)
      · exact .refl s

theorem requestStart (s : State) (m : Meter) : s.Grants (s.requestStart m) :=
  (State.Grants.queue s _ _).trans (.testHead _ _)

theorem withdrawStart (s : State) (m : Meter) : s.Grants (s.withdrawStart m) := by
  unfold State.withdrawStart
  dsimp only
  split
  · exact (State.Grants.queue s _ _).trans (.testHead _ _)
  · exact .queue s _ _

theorem demandMotor (s : State) (m : Meter) : s.Grants (s.demandMotor m) := by
  unfold State.demandMotor
  dsimp only
  split
  · exact (State.Grants.setMotor s m _).trans (.requestStart _ m)
  · exact .setMotor s m _
  · exact .refl s
  · exact .refl s

theorem dropMotor (s : State) (m : Meter) : s.Grants (s.dropMotor m) := by
  unfold State.dropMotor
  dsimp only
  split
  · exact (State.Grants.setMotor s m _).trans (.withdrawStart _ m)
  · exact .setMotor s m _
  · exact .refl s
  · exact .refl s

end State.Grants

end Sys2Proof.Machine
end

section
/-! PROOFS. The stop of a holder and the fault of a meter (R59, R62, R64, R66, R68), and the two commands that bring a
fault: the end of a phase-error window and a mismatch that lasts (R3, R4, R12). -/

namespace Sys2Proof.Machine

/-! ## What the stop of a holder moves -/

/-- What a stop of a holder shares with every event of the meters: of the channels it moves valves alone, of the power
controller the start queue alone, and no point leaves the sale it is in. -/
structure State.Moves (s t : State) : Prop where
  psc : t.psc = { s.psc with startQueue := t.psc.startQueue, lastGrant := t.psc.lastGrant }
  valves : ∀ m, (s.channel m).ValvesOnly (t.channel m)
  selling : ∀ p, (s.point p).st.selling = true → (t.point p).st.selling = true

namespace State.Moves

variable {s t u : State}

theorem refl (s : State) : s.Moves s := ⟨rfl, fun _ => .refl _, fun _ h => h⟩

theorem trans (h : s.Moves t) (k : t.Moves u) : s.Moves u where
  psc := by rw [k.psc, h.psc]
  valves m := (h.valves m).trans (k.valves m)
  selling p hp := k.selling p (h.selling p hp)

theorem commandValves (s : State) (m : Meter) (x y : Bool) : s.Moves (s.commandValves m x y) where
  psc := by simp
  valves j := s.commandValves_valves m j x y
  selling p hp := by simpa [State.point] using hp

/-- A point that stays selling moves. -/
theorem mapPoint (s : State) (p : Point) (f : PointData → PointData)
    (h : (s.point p).st.selling = true → (f (s.point p)).st.selling = true) : s.Moves (s.mapPoint p f) where
  psc := rfl
  valves _ := .refl _
  selling q hq := by
    rw [State.point_mapPoint]
    split
    · rename_i hqp
      exact h (hqp ▸ hq)
    · exact hq

end State.Moves

theorem State.Grants.moves {s t : State} (h : s.Grants t) : s.Moves t := ⟨h.psc, h.valves, h.selling⟩

/-! ## Entry to STOPPING -/

/-- A point that has just entered STOPPING with a cause (R68). -/
def PointData.stopped (d : PointData) (cause : StopCause) (now : Nat) : PointData :=
  { d with st := .stopping, current := d.current.map fun r => { r with cause := some cause }, zeroPassed := false
           noFlowDue := none, quietDue := some (now + (d.current.map (·.quiet)).getD 0) }

section
variable (s : State) (p : Point) (m : Meter) (c : StopCause)

/-- The state in which a point is in STOPPING and its meter's valves are commanded closed, its motor still as it was. -/
def State.shut : State := (s.mapPoint p fun d => d.stopped c s.now).commandValves m false false

theorem State.enterStopping_eq : s.enterStopping p m c =
    ((((s.shut p m c).dropMotor m).withdrawZero p).touchDeliveries).post (.point p)
      (.deliveryStopping (((s.point p).current.map (·.seq)).getD 0) c) := rfl

theorem State.shut_moves : s.Moves (s.shut p m c) :=
  (State.Moves.mapPoint s p _ fun _ => rfl).trans (.commandValves _ m false false)

theorem State.shut_point (q : Point) :
    (s.shut p m c).point q = if q = p then (s.point p).stopped c s.now else s.point q := by
  simp [State.shut, State.point]

theorem State.shut_dle : (s.shut p m c).dle = s.dle := by simp [State.shut]

/-- A point in STOPPING opens no valve. -/
theorem State.shut_not_mayOpen : ¬ (s.shut p m c).mayOpen p := by
  rintro ⟨hst, -⟩
  rw [State.shut_point, if_pos rfl] at hst
  cases hst

theorem State.enterStopping_moves : s.Moves (s.enterStopping p m c) := by
  have h := (s.shut_moves p m c).trans (State.Grants.dropMotor (s.shut p m c) m).moves
  rw [State.enterStopping_eq]
  exact ⟨by simpa using h.psc, fun j => by simpa [State.channel] using h.valves j,
    fun q hq => by simpa [State.point] using h.selling q hq⟩

/-- The meter hold table stands (R58). -/
theorem State.enterStopping_table : (s.enterStopping p m c).dle.holders = s.dle.holders
    ∧ (s.enterStopping p m c).dle.waiters = s.dle.waiters := by
  have h := State.Grants.dropMotor (s.shut p m c) m
  rw [State.enterStopping_eq, ← State.shut_dle s p m c]
  exact ⟨h.holders, h.waiters⟩

theorem State.enterStopping_point : (s.enterStopping p m c).point p = (s.point p).stopped c s.now := by
  have h := (State.Grants.dropMotor (s.shut p m c) m).point p (s.shut_not_mayOpen p m c)
  rw [State.shut_point, if_pos rfl] at h
  rw [State.enterStopping_eq]
  simpa [State.point] using h

/-- A point that holds no meter is not moved by the other's stop. -/
theorem State.enterStopping_other {q : Point} (hq : q ≠ p) (hheld : s.heldBy q = none) :
    (s.enterStopping p m c).point q = s.point q := by
  have hno : ¬ (s.shut p m c).mayOpen q := by
    rw [State.mayOpen, State.heldBy_congr (congrArg Dle.holders (s.shut_dle p m c)), hheld]
    simp
  have h := (State.Grants.dropMotor (s.shut p m c) m).point q hno
  rw [State.shut_point, if_neg hq] at h
  rw [State.enterStopping_eq]
  simpa [State.point] using h

/-- The valves of the stopped holder's meter are closed, whatever the start queue grants then (R68, R177). -/
theorem State.enterStopping_valves (hm : s.dle.holders.get m = some p) :
    ((s.enterStopping p m c).channel m).mainOpen = false ∧ ((s.enterStopping p m c).channel m).slowOpen = false := by
  have h := (State.Grants.dropMotor (s.shut p m c) m).channel p m (s.shut_not_mayOpen p m c) (by rw [State.shut_dle, hm])
  have hchan : (s.enterStopping p m c).channel m = (s.shut p m c).channel m := by
    rw [← h, State.enterStopping_eq]
    simp [State.channel]
  rw [hchan]
  exact State.commandValves_commands _ m false false

end

/-! ## The stop of a holder -/

section
variable {s : State} {p : Point} {m : Meter}

/-- A holder in STARTING, FUELLING or SLOWING enters STOPPING (R64, R66). -/
theorem State.stopHolder_eq (hm : s.heldBy p = some m)
    (hst : (s.point p).st = .starting ∨ (s.point p).st.flowing = true) (c : StopCause) :
    s.stopHolder p c = s.enterStopping p m c := by
  simp only [State.stopHolder, hm, if_pos hst]

/-- A point in any other state stays as it is (R66, R69). -/
theorem State.stopHolder_of_not (hst : ¬ ((s.point p).st = .starting ∨ (s.point p).st.flowing = true)) (c : StopCause) :
    s.stopHolder p c = s := by
  unfold State.stopHolder
  split
  · rw [if_neg hst]
  · rfl

theorem State.stopHolder_cases (s : State) (p : Point) (c : StopCause) :
    s.stopHolder p c = s ∨ ∃ m, s.heldBy p = some m ∧ s.stopHolder p c = s.enterStopping p m c := by
  cases hm : s.heldBy p with
  | none => exact .inl (by simp [State.stopHolder, hm])
  | some m =>
    by_cases hst : (s.point p).st = .starting ∨ (s.point p).st.flowing = true
    · exact .inr ⟨m, rfl, State.stopHolder_eq hm hst c⟩
    · exact .inl (State.stopHolder_of_not hst c)

theorem State.stopHolder_moves (s : State) (p : Point) (c : StopCause) : s.Moves (s.stopHolder p c) := by
  obtain h | ⟨m, -, h⟩ := s.stopHolder_cases p c <;> rw [h]
  · exact .refl s
  · exact s.enterStopping_moves p m c

theorem State.stopHolder_table (s : State) (p : Point) (c : StopCause) :
    (s.stopHolder p c).dle.holders = s.dle.holders ∧ (s.stopHolder p c).dle.waiters = s.dle.waiters := by
  obtain h | ⟨m, -, h⟩ := s.stopHolder_cases p c <;> rw [h]
  · exact ⟨rfl, rfl⟩
  · exact s.enterStopping_table p m c

/-- A point that holds no meter is not moved by a stop. -/
theorem State.stopHolder_other (hheld : s.heldBy p = none) (q : Point) (c : StopCause) :
    (s.stopHolder q c).point p = s.point p := by
  obtain h | ⟨m, hm, h⟩ := s.stopHolder_cases q c <;> rw [h]
  refine s.enterStopping_other q m c ?_ hheld
  rintro rfl
  simp [hheld] at hm

end

/-! ## The refusal of a waiter (R59) -/

/-- A point that has returned from STARTING to AUTHORIZED, its begun record discarded (R59, R64). -/
def PointData.returned (d : PointData) (now : Nat) : PointData :=
  { d with st := .authorized, position := none, current := none, saleTable := none, figuresAt := none
           lastSeq := (d.lastSeq + 65535) % 65536
           authDue := if d.authTimeout = 0 then none else some (now + 1000 * d.authTimeout) }

section
variable (s : State) (w : Point) (r : LiftRefusal)

theorem State.refuseWaiter_point (q : Point) :
    (s.refuseWaiter w r).point q = if q = w then (s.point w).returned s.now else s.point q := by
  cases q <;> cases w <;> rfl

theorem State.refuseWaiter_dle : (s.refuseWaiter w r).dle =
    { s.dle with waiters := s.dle.waiters.map fun x => if x = some w then none else x } := rfl

theorem State.refuseWaiter_moves : s.Moves (s.refuseWaiter w r) where
  psc := by simp
  valves m := by
    have h : (s.refuseWaiter w r).channel m = s.channel m := by simp [State.channel]
    rw [h]
    exact .refl _
  selling q hq := by
    rw [State.refuseWaiter_point]
    split
    · rfl
    · exact hq

end

/-! ## The fault of a meter at its points -/

/-- The holder of a meter, if it has one, is stopped. -/
def State.stopHolderOf (s : State) (m : Meter) (c : StopCause) : State :=
  match s.dle.holders.get m with
  | some p => s.stopHolder p c
  | none => s

/-- A waiter, if there is one, is refused. -/
def State.refuseWaiterOf (s : State) : Option Point → State
  | some w => s.refuseWaiter w .meterFault
  | none => s

theorem State.meterEvent_eq (s : State) (m : Meter) (c : StopCause) :
    s.meterEvent m c = (s.stopHolderOf m c).refuseWaiterOf (s.dle.waiters.get m) := rfl

theorem State.meterEvent_moves (s : State) (m : Meter) (c : StopCause) : s.Moves (s.meterEvent m c) := by
  have hstop : s.Moves (s.stopHolderOf m c) := by
    unfold State.stopHolderOf
    split
    · exact s.stopHolder_moves _ c
    · exact .refl s
  rw [State.meterEvent_eq]
  cases s.dle.waiters.get m with
  | none => exact hstop
  | some w => exact hstop.trans (State.refuseWaiter_moves _ w .meterFault)

section
variable {s : State} {m : Meter}

/-- With no holder, the fault moves no valve. -/
theorem State.meterEvent_unheld (h : s.dle.holders.get m = none) (c : StopCause) (j : Meter) :
    (s.meterEvent m c).channel j = s.channel j := by
  have hstop : s.stopHolderOf m c = s := by simp [State.stopHolderOf, h]
  rw [State.meterEvent_eq, hstop]
  cases s.dle.waiters.get m with
  | none => rfl
  | some w => simp [State.refuseWaiterOf, State.channel]

/-- The holder in STARTING, FUELLING or SLOWING stops with the cause, its valves closed (R59, R64, R66, R68). -/
theorem State.meterEvent_holder {p : Point} {r : DeliveryRecord} (hheld : s.heldBy p = some m)
    (hcur : (s.point p).current = some r) (hw : s.dle.waiters.get m ≠ some p)
    (hst : (s.point p).st = .starting ∨ (s.point p).st = .fuelling ∨ (s.point p).st = .slowing) (c : StopCause) :
    ((s.meterEvent m c).point p).st = .stopping
      ∧ ((s.meterEvent m c).point p).current = some { r with cause := some c }
      ∧ ((s.meterEvent m c).channel m).mainOpen = false ∧ ((s.meterEvent m c).channel m).slowOpen = false := by
  have hm := State.holder_of_heldBy s hheld
  have hst' : (s.point p).st = .starting ∨ (s.point p).st.flowing = true := by
    rcases hst with h | h | h <;> simp [h, PointSt.flowing]
  have hstop : s.stopHolderOf m c = s.enterStopping p m c := by
    simp only [State.stopHolderOf, hm]
    exact State.stopHolder_eq hheld hst' c
  have hpoint := s.enterStopping_point p m c
  have hvalves := s.enterStopping_valves p m c hm
  have hkept : (s.meterEvent m c).point p = (s.point p).stopped c s.now
      ∧ (s.meterEvent m c).channel m = (s.enterStopping p m c).channel m := by
    rw [State.meterEvent_eq, hstop, ← hpoint]
    cases hwm : s.dle.waiters.get m with
    | none => exact ⟨rfl, rfl⟩
    | some w =>
      have hpw : p ≠ w := by
        rintro rfl
        exact hw hwm
      simp [State.refuseWaiterOf, State.refuseWaiter_point, hpw, State.channel]
  rw [hkept.1, hkept.2]
  exact ⟨rfl, by simp [PointData.stopped, hcur], hvalves⟩

/-- The waiter is AUTHORIZED again and waits no more, and the holder keeps its meter (R59). -/
theorem State.meterEvent_waiter {w : Point} (hw : s.dle.waiters.get m = some w)
    (hholder : s.dle.holders.get m = some w.other) (hheld : s.heldBy w = none) (c : StopCause) :
    (s.meterEvent m c).point w = (s.point w).returned s.now
      ∧ (∀ j : Meter, (s.meterEvent m c).dle.waiters.get j ≠ some w)
      ∧ (s.meterEvent m c).dle.waiters.get m = none ∧ (s.meterEvent m c).dle.holders.get m = some w.other := by
  have hstop : s.stopHolderOf m c = s.stopHolder w.other c := by simp [State.stopHolderOf, hholder]
  obtain ⟨hholders, hwaiters⟩ := s.stopHolder_table w.other c
  rw [State.meterEvent_eq, hstop, hw]
  refine ⟨?_, fun j => ?_, ?_, ?_⟩
  · simp only [State.refuseWaiterOf, State.refuseWaiter_point, if_true, State.stopHolder_other hheld]
    rw [(s.stopHolder_frame w.other c).1]
  · simp only [State.refuseWaiterOf, State.refuseWaiter_dle, Quad.get_map]
    split
    · simp
    · assumption
  · simp only [State.refuseWaiterOf, State.refuseWaiter_dle, Quad.get_map, hwaiters, hw, if_true]
  · simp only [State.refuseWaiterOf, State.refuseWaiter_dle, hholders, hholder]

end

/-! ## The end of an event of the meters -/

/-- An event that moves of the power controller the start queue alone, leaves the gate as it is and ends no sale has
nothing at its end but the hand-over of its changes (R97, R161, R169). -/
theorem State.settle_eq_commit {s t : State} (hr : s.runs = true) (hcrg : t.crg = s.crg)
    (hpsc : t.psc = { s.psc with startQueue := t.psc.startQueue, lastGrant := t.psc.lastGrant })
    (hsell : ∀ p, (s.point p).st.selling = true → (t.point p).st.selling = true) : t.settle s = t.commit := by
  obtain ⟨-, -, -, hn⟩ := State.runs_iff.1 hr
  have hchecking : t.psc.checking .readerOpen = s.psc.checking .readerOpen := by rw [hpsc]; rfl
  have hpower : t.psc.power = s.psc.power := by rw [hpsc]
  have hany : s.anySelling = true → t.anySelling = true := by
    simp only [State.anySelling, List.any_eq_true]
    rintro ⟨p, hp, hst⟩
    exact ⟨p, hp, hsell p hst⟩
  rw [State.settle, State.gateNotice_of_noStepDue (State.noStepDue_congr (by rw [hcrg]) hchecking hn)]
  have hdrain : t.drainTest s = t := by
    unfold State.drainTest
    rw [if_neg]
    rintro ⟨hd, ht, hs | hs⟩
    · exact hs (hpower ▸ hd)
    · simp [hany hs] at ht
  rw [hdrain]

end Sys2Proof.Machine
end

section
/-! PROOFS. The two commands that can set a fault of a meter: the end of a phase-error window and a mismatch that lasts
(R3, R4, R12). -/

namespace Sys2Proof.Machine

/-! ## A fault set in an event -/

/-- The state between the setting of a fault and what the DLE does with it: the clock, the channels and the reports may
have moved. -/
structure State.FaultSet (s u : State) : Prop where
  pins : u.pins = s.pins
  dle : u.dle = s.dle
  points : u.points = s.points
  ptu : u.ptu = s.ptu
  display : u.display = s.display
  crg : u.crg = s.crg
  psc : u.psc = s.psc

namespace State.FaultSet

variable {s u : State} (h : s.FaultSet u)
include h

theorem point (p : Point) : u.point p = s.point p := by rw [State.point, h.points]; rfl

theorem heldBy (p : Point) : u.heldBy p = s.heldBy p := State.heldBy_congr (by rw [h.dle]) p

theorem settle (hr : s.runs = true) (m : Meter) (c : StopCause) :
    (u.meterEvent m c).settle s = (u.meterEvent m c).commit := by
  have hmoves := u.meterEvent_moves m c
  refine State.settle_eq_commit hr (by simp [h.crg]) ?_ fun p hp => hmoves.selling p (by rw [h.point, hp])
  have hpsc := hmoves.psc
  rwa [h.psc] at hpsc

theorem holder {p : Point} {m : Meter} {r : DeliveryRecord} (hheld : s.heldBy p = some m)
    (hcur : (s.point p).current = some r) (hw : s.dle.waiters.get m ≠ some p)
    (hst : (s.point p).st = .starting ∨ (s.point p).st = .fuelling ∨ (s.point p).st = .slowing) (c : StopCause) :
    ((u.meterEvent m c).commit.point p).st = .stopping
      ∧ ((u.meterEvent m c).commit.point p).current = some { r with cause := some c }
      ∧ ((u.meterEvent m c).commit.channel m).mainOpen = false
      ∧ ((u.meterEvent m c).commit.channel m).slowOpen = false := by
  have hstop := State.meterEvent_holder (s := u) (m := m) (by rw [h.heldBy, hheld]) (by rw [h.point, hcur])
    (by rw [h.dle]; exact hw) (by rw [h.point]; exact hst) c
  simpa [State.point, State.channel] using hstop

theorem waiter {w : Point} {m : Meter} (hw : s.dle.waiters.get m = some w)
    (hholder : s.dle.holders.get m = some w.other) (hheld : s.heldBy w = none) (c : StopCause) :
    s.waiterReturned (u.meterEvent m c).commit w ∧ (u.meterEvent m c).commit.dle.waiters.get m = none
      ∧ (u.meterEvent m c).commit.dle.holders.get m = some w.other := by
  obtain ⟨hpoint, hwaits, hwaiters, hholders⟩ := State.meterEvent_waiter (s := u) (by rw [h.dle, hw])
    (by rw [h.dle, hholder]) (by rw [h.heldBy, hheld]) c
  have hnow : (u.meterEvent m c).commit.now = u.now := by simp
  have hdle : (u.meterEvent m c).commit.dle = (u.meterEvent m c).dle := by simp
  have hcommit : (u.meterEvent m c).commit.point w = (u.meterEvent m c).point w := by simp [State.point]
  rw [hdle]
  refine ⟨⟨?_, fun j => by rw [hdle]; exact hwaits j⟩, hwaiters, hholders⟩
  rw [hcommit, hpoint, h.point, hnow]
  rfl

/-- What the event of a fault leaves of the blocks it does not name. -/
theorem frame (m : Meter) (c : StopCause) :
    (u.meterEvent m c).commit.now = u.now ∧ (u.meterEvent m c).commit.pins = s.pins
      ∧ (u.meterEvent m c).commit.ptu = s.ptu ∧ (u.meterEvent m c).commit.crg = s.crg
      ∧ (u.meterEvent m c).commit.display = s.display := by
  simp [h.pins, h.ptu, h.crg, h.display]

end State.FaultSet

/-- The channels after a fault's event, its valve commands apart. -/
theorem State.meterEvent_commit_valves (u : State) (m j : Meter) (c : StopCause) :
    (u.channel j).ValvesOnly ((u.meterEvent m c).commit.channel j) := by
  simpa [State.channel] using (u.meterEvent_moves m c).valves j

/-! ## The end of a phase-error window -/

theorem exec_phaseWindowEnd (m : Meter) (s : State) :
    exec (.phaseWindowEnd m) s = s.event (some (s.endWindow m)) := rfl

/-- The state in which the window has moved and the next one runs (R3). -/
def State.windowMoved (s : State) (m : Meter) : State := (s.reach (s.channel m).windowDue).mapChannel m (·.windowMove)

theorem State.windowMoved_channel (s : State) (m j : Meter) :
    (s.windowMoved m).channel j = if j = m then (s.channel m).windowMove else s.channel j :=
  State.channel_mapChannel (s.reach _) m j _

/-- The state in which the window has moved and the meter fault is set and reported (R3, R4). -/
def State.windowFaulted (s : State) (m : Meter) : State :=
  ((s.windowMoved m).mapChannel m fun c => { c with fault := true }).changed (.meterFault m) true

theorem State.windowFaulted_channel (s : State) (m j : Meter) : (s.windowFaulted m).channel j =
    if j = m then { (s.channel m).windowMove with fault := true } else s.channel j := by
  simp only [State.windowFaulted, State.changed_channel, State.channel_mapChannel, State.windowMoved_channel, if_true]
  split <;> rfl

theorem State.windowFaulted_faultSet (s : State) (m : Meter) : s.FaultSet (s.windowFaulted m) := by
  constructor <;> simp [State.windowFaulted, State.windowMoved]

/-- A window below the threshold, or of a meter that has its fault, only moves (R3, R4). -/
theorem State.endWindow_of_below {s : State} {m : Meter}
    (h : ¬ ((s.channel m).record.phaseThreshold ≤ (s.channel m).windowCount ∧ (s.channel m).fault = false)) :
    s.endWindow m = s.windowMoved m := by
  have hchan := s.windowMoved_channel m m
  rw [if_pos rfl] at hchan
  have heq : s.endWindow m = if ((s.windowMoved m).channel m).record.phaseThreshold ≤
      ((s.windowMoved m).channel m).lastWindow ∧ ((s.windowMoved m).channel m).fault = false then
      (s.windowMoved m).setMeterFault m else s.windowMoved m := rfl
  rw [heq, hchan]
  exact if_neg h

/-- A window at or above the threshold sets the fault (R3, R4). -/
theorem State.endWindow_of_reached {s : State} {m : Meter}
    (h : (s.channel m).record.phaseThreshold ≤ (s.channel m).windowCount) (hf : (s.channel m).fault = false) :
    s.endWindow m = (s.windowFaulted m).meterEvent m .meterFault := by
  have hchan := s.windowMoved_channel m m
  rw [if_pos rfl] at hchan
  have heq : s.endWindow m = if ((s.windowMoved m).channel m).record.phaseThreshold ≤
      ((s.windowMoved m).channel m).lastWindow ∧ ((s.windowMoved m).channel m).fault = false then
      (s.windowMoved m).setMeterFault m else s.windowMoved m := rfl
  rw [heq, hchan]
  exact if_pos ⟨h, hf⟩

/-- Settles O10: below the threshold the window moves and that is all; at the threshold the fault's event follows, which
moves of the channels valves alone, stops the holder and refuses the waiter. -/
theorem phaseWindowEnds : Obligations.PhaseWindowEnds := by
  intro s m hr
  dsimp only
  rw [exec_phaseWindowEnd, State.event_some (State.powered_of_runs hr)]
  by_cases h : (s.channel m).record.phaseThreshold ≤ (s.channel m).windowCount ∧ (s.channel m).fault = false
  · obtain ⟨hcount, hfault⟩ := h
    have hset := s.windowFaulted_faultSet m
    obtain ⟨-, hpins, hptu, hcrg, hdisplay⟩ := hset.frame m .meterFault
    have hvalves (j : Meter) := (s.windowFaulted m).meterEvent_commit_valves m j .meterFault
    rw [State.endWindow_of_reached hcount hfault, hset.settle hr]
    have hm := hvalves m
    rw [State.windowFaulted_channel, if_pos rfl] at hm
    obtain ⟨hcounter, -, -, -, -, hwindow, -⟩ := hm.counts
    obtain ⟨-, hlast, hdue, herrors, hfaulted, -⟩ := hm.latches
    refine ⟨_, rfl, hlast, hwindow, hdue, hcounter, herrors, ?_, hpins, hptu, hcrg, hdisplay, fun j hj => ?_,
      fun p r _ _ hheld _ hcur hw hst => ?_, fun w _ _ hw hholder _ hheld => hset.waiter hw hholder hheld _⟩
    · rw [hfaulted, decide_eq_true hcount, Bool.or_true]
    · have hvalves := hvalves j
      rw [State.windowFaulted_channel, if_neg hj] at hvalves
      obtain ⟨hcounter, -, -, -, -, hwindow, -⟩ := hvalves.counts
      obtain ⟨-, -, -, -, hfault, -⟩ := hvalves.latches
      exact ⟨hcounter, hwindow, hfault⟩
    · obtain ⟨hstopping, hcause, -⟩ := hset.holder hheld hcur hw hst .meterFault
      exact ⟨hstopping, hcause⟩
  · have hchan := s.windowMoved_channel m
    have hm := hchan m
    rw [if_pos rfl] at hm
    obtain ⟨-, hc, hd, hn⟩ := State.runs_iff.1 hr
    rw [State.endWindow_of_below h, State.settle_plain (s := s) (t := s.windowMoved m) hn rfl rfl hc hd]
    refine ⟨_, rfl, ?_⟩
    rw [hm]
    refine ⟨rfl, rfl, rfl, rfl, rfl, ?_, rfl, rfl, rfl, rfl, fun j hj => ?_, fun p r hf hcount => absurd ⟨hcount, hf⟩ h,
      fun w hf hcount => absurd ⟨hcount, hf⟩ h⟩
    · show (s.channel m).fault = _
      cases hf : (s.channel m).fault with
      | true => rfl
      | false => rw [decide_eq_false fun hcount => h ⟨hcount, hf⟩]; rfl
    · rw [hchan, if_neg hj]
      exact ⟨rfl, rfl, rfl⟩

/-! ## The valve senses -/

theorem exec_valveSenseChange (m : Meter) (v : Valve) (isOpen : Bool) (s : State) : exec (.valveSenseChange m v isOpen) s =
    s.inputEvent (s.moveSense m v isOpen) fun t => t.retime m := rfl

theorem exec_valveMismatchTimeout (m : Meter) (s : State) :
    exec (.valveMismatchTimeout m) s = s.event (s.mismatchLasted m) := rfl

/-- The end of the event of a sense is the mismatch timer's move (R12). -/
theorem State.retime_settle {s : State} (hr : s.runs = true) (m : Meter) (v : Valve) (isOpen : Bool) :
    ((s.moveSense m v isOpen).retime m).settle s = (s.moveSense m v isOpen).retime m := by
  obtain ⟨-, hc, hd, hn⟩ := State.runs_iff.1 hr
  cases v <;> exact State.settle_plain hn rfl rfl hc hd

/-- The state in which a mismatch has lasted its time and the valve fault is set and reported (R12). -/
def State.valveFaulted (s : State) (m : Meter) (since : Nat) : State :=
  ((s.reach (since + mismatchTime)).mapChannel m fun c => { c with valveFault := true }).changed (.valveFault m) true

theorem State.valveFaulted_channel (s : State) (m j : Meter) (since : Nat) : (s.valveFaulted m since).channel j =
    if j = m then { s.channel m with valveFault := true } else s.channel j := by
  simp only [State.valveFaulted, State.changed_channel, State.channel_mapChannel]
  rfl

theorem State.valveFaulted_faultSet (s : State) (m : Meter) (since : Nat) : s.FaultSet (s.valveFaulted m since) := by
  constructor <;> simp [State.valveFaulted]

theorem State.mismatchLasted_eq {s : State} {m : Meter} {since : Nat} (h : (s.channel m).mismatchSince = some since)
    (hf : (s.channel m).valveFault = false) :
    s.mismatchLasted m = some ((s.valveFaulted m since).meterEvent m .valveFault) := by
  simp [State.mismatchLasted, h, hf, State.setValveFault, State.valveFaulted]

/-- Settles O11: a sense moves the mismatch timer alone; a mismatch that has lasted sets the fault, and the fault's event
follows. -/
theorem valveSensing : Obligations.ValveSensing := by
  refine ⟨fun s m v isOpen hr => ?_, fun s m since hr hsince hfault => ?_⟩
  · dsimp only
    rw [exec_valveSenseChange, State.inputEvent_powered (State.powered_of_runs hr), State.retime_settle hr,
      State.retime_eq]
    cases v <;> cases m <;> rfl
  · have hset := s.valveFaulted_faultSet m since
    have hchan (j : Meter) := s.valveFaulted_channel m j since
    have hvalves (j : Meter) := (s.valveFaulted m since).meterEvent_commit_valves m j .valveFault
    obtain ⟨hnow, hpins, hptu, hcrg, hdisplay⟩ := hset.frame m .valveFault
    rw [exec_valveMismatchTimeout, State.mismatchLasted_eq hsince hfault,
      State.event_some (State.powered_of_runs hr), hset.settle hr]
    refine ⟨_, rfl, ?_, ?_, hpins, hptu, hcrg, hdisplay, fun j => ⟨?_, fun hj => ?_⟩, fun hno => ?_,
      fun p r hheld _ hcur hw hst => hset.holder hheld hcur hw hst _, fun w hw hholder _ hheld =>
      hset.waiter hw hholder hheld _⟩
    · obtain ⟨-, -, -, -, -, hset⟩ := (hvalves m).latches
      rw [hset, hchan, if_pos rfl]
    · rw [hnow]
      simp [State.valveFaulted, mismatchTime]
    · obtain ⟨hcounter, -⟩ := (hvalves j).counts
      rw [hcounter, hchan]
      split
      · rename_i hj
        rw [hj]
      · rfl
    · obtain ⟨-, -, -, -, -, hset⟩ := (hvalves j).latches
      rw [hset, hchan, if_neg hj]
    · have hkept := State.meterEvent_unheld (s := s.valveFaulted m since) (by rw [hset.dle, hno]) .valveFault m
      have hcommit : ((s.valveFaulted m since).meterEvent m .valveFault).commit.channel m =
          ((s.valveFaulted m since).meterEvent m .valveFault).channel m := by simp [State.channel]
      rw [hcommit, hkept, hchan, if_pos rfl]
      exact ⟨rfl, rfl⟩

end Sys2Proof.Machine
end

section
/-! PROOFS. A step of a held meter (R1, R6 to R9, R64 to R69): the notice to the point and its pulse output, the compares,
and the reverse limit. -/

namespace Sys2Proof.Machine

@[simp] theorem State.commit_point (s : State) (p : Point) : s.commit.point p = s.point p := by simp [State.point]

@[simp] theorem State.commit_channel (s : State) (m : Meter) : s.commit.channel m = s.channel m := by
  simp [State.channel]

/-! ## Compares -/

/-- A compare fires when it is armed, has not fired, and its point is reached (R9). -/
theorem compareFires_eq_any (a : Option Armed) (net : Int) :
    compareFires a net = a.any fun k => !k.fired && decide ((k.point : Int) ≤ net) := by
  cases a <;> rfl

/-- A compare after a forward step to a net count: fired when it was, or when its point is reached (R9). -/
def firedAt (a : Option Armed) (net : Int) : Option Armed :=
  a.map fun k => { k with fired := k.fired || decide ((k.point : Int) ≤ net) }

theorem markFired_of_fires (a : Option Armed) (net : Int) :
    (if compareFires a net = true then markFired a else a) = firedAt a net := by
  cases a with
  | none => rfl
  | some k =>
    obtain ⟨point, fired⟩ := k
    cases fired <;> by_cases h : (point : Int) ≤ net <;> simp [compareFires, markFired, firedAt, h]

/-- The state in which the compares that a net count meets are marked fired (R9). -/
def State.marked (s : State) (m : Meter) (net : Int) : State :=
  s.mapChannel m fun c => { c with
    slow := if compareFires (s.channel m).slow net = true then markFired c.slow else c.slow
    stop := if compareFires (s.channel m).stop net = true then markFired c.stop else c.stop }

theorem State.marked_channel (s : State) (m j : Meter) (net : Int) : (s.marked m net).channel j =
    if j = m then { s.channel m with slow := firedAt (s.channel m).slow net, stop := firedAt (s.channel m).stop net }
    else s.channel j := by
  rw [State.marked, State.channel_mapChannel, ← markFired_of_fires, ← markFired_of_fires]

/-- The state after the SLOW compare's event, where it fires (R9, R65). -/
def State.slowed (s : State) (p : Point) (m : Meter) (net : Int) : State :=
  if compareFires (s.channel m).slow net = true then (s.marked m net).slowEvent p m else s.marked m net

theorem State.fireCompares_eq (s : State) (p : Point) (m : Meter) (net : Int) : s.fireCompares p m net =
    if compareFires (s.channel m).stop net = true then (s.slowed p m net).stopEvent p else s.slowed p m net := rfl

/-! ## The SLOW compare at its point (R65) -/

section
variable (s : State) (p : Point) (m : Meter)

theorem State.slowEvent_eq (h : (s.point p).st = .fuelling) : s.slowEvent p m =
    ((s.commandValves m false true).mapPoint p fun d => { d with st := .slowing }).touchDeliveries := by
  simp only [State.slowEvent, if_pos h]

theorem State.slowEvent_of_not (h : (s.point p).st ≠ .fuelling) : s.slowEvent p m = s := by
  simp only [State.slowEvent, if_neg h]

theorem State.slowEvent_moves : s.Moves (s.slowEvent p m) := by
  by_cases h : (s.point p).st = .fuelling
  · rw [State.slowEvent_eq s p m h]
    have hmoves := (State.Moves.commandValves s m false true).trans
      (.mapPoint _ p (fun d => { d with st := .slowing }) fun _ => rfl)
    exact ⟨hmoves.psc, hmoves.valves, hmoves.selling⟩
  · rw [State.slowEvent_of_not s p m h]
    exact .refl s

/-- From FUELLING the point is SLOWING with MAIN closed (R65). -/
theorem State.slowEvent_fuelling (h : (s.point p).st = .fuelling) :
    (s.slowEvent p m).point p = { s.point p with st := .slowing }
      ∧ ((s.slowEvent p m).channel m).mainOpen = false ∧ ((s.slowEvent p m).channel m).slowOpen = true := by
  rw [State.slowEvent_eq s p m h]
  exact ⟨by simp [State.point], s.commandValves_commands m false true⟩

end

/-! ## The STOP compare at its point (R66) -/

theorem State.stopEvent_eq {s : State} {p : Point} {r : DeliveryRecord} (h : (s.point p).current = some r) :
    s.stopEvent p = s.stopHolder p r.source.cause := by
  simp only [State.stopEvent, h]

theorem State.stopEvent_moves (s : State) (p : Point) : s.Moves (s.stopEvent p) := by
  unfold State.stopEvent
  split
  · exact s.stopHolder_moves p _
  · exact .refl s

/-- A point in STOPPING takes no STOP (R69). -/
theorem State.stopEvent_stopping {s : State} {p : Point} (h : (s.point p).st = .stopping) : s.stopEvent p = s := by
  unfold State.stopEvent
  split
  · exact State.stopHolder_of_not (by simp [h, PointSt.flowing]) _
  · rfl

/-! ## The compares of a forward step -/

theorem State.slowed_moves (s : State) (p : Point) (m : Meter) (net : Int) :
    (s.marked m net).Moves (s.slowed p m net) := by
  unfold State.slowed
  split
  · exact State.slowEvent_moves _ p m
  · exact .refl _

theorem State.fireCompares_moves (s : State) (p : Point) (m : Meter) (net : Int) :
    (s.marked m net).Moves (s.fireCompares p m net) := by
  rw [State.fireCompares_eq]
  split
  · exact (s.slowed_moves p m net).trans (State.stopEvent_moves _ p)
  · exact s.slowed_moves p m net

section
variable {s : State} {p : Point} {m : Meter} {net : Int}

/-- Where the SLOW compare does not act, it leaves the marks alone. -/
theorem State.slowed_of_not
    (h : compareFires (s.channel m).slow net = false ∨ (s.point p).st ≠ .fuelling) : s.slowed p m net = s.marked m net := by
  unfold State.slowed
  split
  · rename_i hfires
    exact State.slowEvent_of_not _ p m (h.resolve_left (by simp [hfires]))
  · rfl

/-- A SLOW compare leaves the record and the timers of its point, and a flowing point flowing (R65). -/
theorem State.slowed_point (s : State) (p : Point) (m : Meter) (net : Int) :
    (s.slowed p m net).point p = { s.point p with st := ((s.slowed p m net).point p).st }
      ∧ (((s.slowed p m net).point p).st = (s.point p).st
        ∨ (s.point p).st = .fuelling ∧ ((s.slowed p m net).point p).st = .slowing) := by
  by_cases hslow : compareFires (s.channel m).slow net = true ∧ (s.point p).st = .fuelling
  · obtain ⟨hfires, hst⟩ := hslow
    have heq : s.slowed p m net = (s.marked m net).slowEvent p m := by simp only [State.slowed, if_pos hfires]
    obtain ⟨hpoint, -⟩ := (s.marked m net).slowEvent_fuelling p m hst
    rw [heq, hpoint]
    exact ⟨rfl, .inr ⟨hst, rfl⟩⟩
  · have heq : s.slowed p m net = s.marked m net := State.slowed_of_not (by
      rw [not_and_or] at hslow
      exact hslow.imp (by simp) id)
    rw [heq]
    exact ⟨rfl, .inl rfl⟩

/-- A STOP compare takes its holder from STARTING, FUELLING or SLOWING to STOPPING, its valves closed (R64, R66, R68). -/
theorem State.fireCompares_stop {r : DeliveryRecord} (hheld : s.heldBy p = some m)
    (hcur : (s.point p).current = some r) (hst : (s.point p).st = .starting ∨ (s.point p).st.flowing = true)
    (hstop : compareFires (s.channel m).stop net = true) :
    (s.fireCompares p m net).point p =
        (s.point p).stopped r.source.cause s.now
      ∧ ((s.fireCompares p m net).channel m).mainOpen = false
      ∧ ((s.fireCompares p m net).channel m).slowOpen = false := by
  have hdle : (s.slowed p m net).dle = s.dle := by
    unfold State.slowed State.marked
    split <;> simp
  have hnow : (s.slowed p m net).now = s.now := by
    unfold State.slowed State.marked
    split <;> simp
  obtain ⟨hpoint, hsame⟩ := s.slowed_point p m net
  have hcur' : ((s.slowed p m net).point p).current = some r := by rw [hpoint, hcur]
  have hheld' : (s.slowed p m net).heldBy p = some m := by rw [State.heldBy_congr (s := s) (by rw [hdle]), hheld]
  have hst' : ((s.slowed p m net).point p).st = .starting ∨ ((s.slowed p m net).point p).st.flowing = true := by
    rcases hsame with h | ⟨-, h⟩
    · rw [h]
      exact hst
    · exact .inr (by rw [h]; rfl)
  rw [State.fireCompares_eq, if_pos hstop, State.stopEvent_eq hcur', State.stopHolder_eq hheld' hst',
    State.enterStopping_point, hnow]
  refine ⟨?_, State.enterStopping_valves _ p m _ (State.holder_of_heldBy _ hheld')⟩
  rw [hpoint]
  rfl

/-- A SLOW compare alone takes its holder from FUELLING to SLOWING (R65). -/
theorem State.fireCompares_slow (hst : (s.point p).st = .fuelling)
    (hslow : compareFires (s.channel m).slow net = true) (hstop : compareFires (s.channel m).stop net = false) :
    (s.fireCompares p m net).point p = { s.point p with st := .slowing }
      ∧ ((s.fireCompares p m net).channel m).mainOpen = false
      ∧ ((s.fireCompares p m net).channel m).slowOpen = true := by
  rw [State.fireCompares_eq, if_neg (by simp [hstop])]
  simp only [State.slowed, if_pos hslow]
  exact (s.marked m net).slowEvent_fuelling p m hst

/-- Compares that do not act only take their marks. -/
theorem State.fireCompares_none (hslow : compareFires (s.channel m).slow net = false ∨ (s.point p).st ≠ .fuelling)
    (hstop : compareFires (s.channel m).stop net = false) : s.fireCompares p m net = s.marked m net := by
  rw [State.fireCompares_eq, if_neg (by simp [hstop]), State.slowed_of_not hslow]

/-- A point in STOPPING is moved by no compare (R69). -/
theorem State.fireCompares_stopping (hst : (s.point p).st = .stopping) : s.fireCompares p m net = s.marked m net := by
  have hslowed : s.slowed p m net = s.marked m net := State.slowed_of_not (.inr (by simp [hst]))
  rw [State.fireCompares_eq, hslowed, State.stopEvent_stopping (s := s.marked m net) hst, ite_self]

end

/-! ## The notices of a step -/

/-- Nothing of a point moved but the pulses its records count, and the flag of dropped ones (R88, R90). -/
structure PointData.PulsesOnly (d e : PointData) : Prop where
  rest : e = { d with current := e.current, previous := e.previous }
  sale : ∀ q, d.current = some q → ∃ r, e.current = some r ∧ r.source = q.source ∧ r.cause = q.cause
    ∧ r.quiet = q.quiet

namespace PointData.PulsesOnly

theorem refl (d : PointData) : d.PulsesOnly d := ⟨rfl, fun q hq => ⟨q, hq, rfl, rfl, rfl⟩⟩

theorem trans {d e f : PointData} (h : d.PulsesOnly e) (k : e.PulsesOnly f) : d.PulsesOnly f where
  rest := by
    have := k.rest
    rw [h.rest] at this
    exact this
  sale q hq := by
    obtain ⟨r, hr, hsource, hcause, hquiet⟩ := h.sale q hq
    obtain ⟨r', hr', hsource', hcause', hquiet'⟩ := k.sale r hr
    exact ⟨r', hr', hsource'.trans hsource, hcause'.trans hcause, hquiet'.trans hquiet⟩

theorem map (d : PointData) (f : DeliveryRecord → DeliveryRecord)
    (hf : ∀ r, (f r).source = r.source ∧ (f r).cause = r.cause ∧ (f r).quiet = r.quiet) :
    d.PulsesOnly { d with current := d.current.map f } :=
  ⟨rfl, fun q hq => ⟨f q, by simp [hq], hf q⟩⟩

theorem credit (d : PointData) (tag : Nat) : d.PulsesOnly (d.credit tag) := by
  unfold PointData.credit
  dsimp only
  split
  · exact .map d _ fun r => ⟨rfl, rfl, rfl⟩
  · split
    · exact ⟨rfl, fun q hq => ⟨q, hq, rfl, rfl, rfl⟩⟩
    · exact .refl d

end PointData.PulsesOnly

section
variable (s : State) (p q : Point)

theorem State.emit_point : (s.point q).PulsesOnly ((s.emit p).point q) := by
  unfold State.emit
  split
  · exact .refl _
  · rename_i tag rest _
    have h : (s.point q).PulsesOnly
        (((s.mapPou p fun u => { u with queue := rest, phase := .high, phaseSince := s.now }).mapPoint p
          (·.credit tag)).point q) := by
      rw [State.point_mapPoint]
      split
      · rename_i hqp
        subst hqp
        exact .credit _ tag
      · exact .refl _
    dsimp only
    split
    · exact h
    · exact h

theorem State.makePulse_point (tag : Nat) : (s.point q).PulsesOnly ((s.makePulse p tag).point q) := by
  unfold State.makePulse
  dsimp only
  split
  · split
    · exact State.emit_point (s.mapPou p _) p q
    · exact .refl _
  · rw [State.mapCurrent, State.point_mapPoint]
    split
    · rename_i hqp
      subst hqp
      exact .map _ _ fun r => ⟨rfl, rfl, rfl⟩
    · exact .refl _

theorem State.advance_point (m : Meter) (net : Int) : (s.point q).PulsesOnly ((s.advance p m net).point q) := by
  unfold State.advance
  dsimp only
  split
  · exact .refl _
  · split
    · split
      · split
        · exact .refl _
        · exact State.makePulse_point ((s.mapPou p _).mapPou p _) p q _
      · exact .refl _
    · exact .refl _

end

/-- A point's timers after a step notice (R67, R69). -/
def PointData.noticed (d : PointData) (now : Nat) (isForward : Bool) : PointData :=
  let quiet := (d.current.map (·.quiet)).getD 0
  let noFlow := (d.current.map (·.noFlow)).getD 0
  { d with quietDue := if d.st = .stopping then some (now + quiet) else d.quietDue
           noFlowDue := if isForward && d.st.flowing && decide (noFlow ≠ 0) then some (now + 1000 * noFlow)
             else d.noFlowDue }

theorem State.stepNotice_point (s : State) (p q : Point) (b : Bool) :
    (s.stepNotice p b).point q = if q = p then (s.point p).noticed s.now b else s.point q :=
  s.point_mapPoint p q _

/-- The state in which the counter, the point's timers and the pulse output have taken a forward step (R1, R67, R87). -/
def State.advanced (s : State) (m : Meter) (p : Point) : State :=
  ((s.mapChannel m (·.stepForward)).stepNotice p true).advance p m (s.channel m).stepForward.net

theorem State.forwardStep_held {s : State} {m : Meter} {p : Point} (h : (s.channel m).holder = some p) :
    s.forwardStep m = (s.advanced m p).fireCompares p m (s.channel m).stepForward.net := by
  have hchan : (s.mapChannel m (·.stepForward)).channel m = (s.channel m).stepForward := by
    rw [State.channel_mapChannel, if_pos rfl]
  have hholder : ((s.mapChannel m (·.stepForward)).channel m).holder = some p := by
    rw [hchan]
    exact h
  unfold State.forwardStep
  simp only [hholder]
  rw [hchan]
  rfl

theorem State.advanced_channel (s : State) (m j : Meter) (p : Point) :
    (s.advanced m p).channel j = if j = m then (s.channel m).stepForward else s.channel j := by
  rw [← State.channel_mapChannel]
  simp [State.advanced, State.channel]

theorem State.advanced_point (s : State) (m : Meter) (p : Point) :
    ((s.point p).noticed s.now true).PulsesOnly ((s.advanced m p).point p) := by
  have h := State.advance_point ((s.mapChannel m (·.stepForward)).stepNotice p true) p p m (s.channel m).stepForward.net
  rwa [State.stepNotice_point, if_pos rfl] at h

/-- The state in which the counter, the reverse count and the point's timers have taken a backward step (R1, R7). -/
def State.receded (s : State) (m : Meter) (p : Point) : State :=
  (s.mapChannel m (·.stepBackward)).stepNotice p false

theorem State.receded_channel (s : State) (m j : Meter) (p : Point) :
    (s.receded m p).channel j = if j = m then (s.channel m).stepBackward else s.channel j := by
  rw [← State.channel_mapChannel]
  simp [State.receded, State.channel]

theorem State.receded_point (s : State) (m : Meter) (p : Point) :
    (s.receded m p).point p = (s.point p).noticed s.now false := by
  rw [State.receded, State.stepNotice_point, if_pos rfl]
  rfl

theorem State.backwardStep_held {s : State} {m : Meter} {p : Point} (h : (s.channel m).holder = some p) :
    s.backwardStep m =
      if (s.channel m).stepBackward.reverseDue = true then (s.receded m p).reverseEvent p m else s.receded m p := by
  have hchan : (s.mapChannel m (·.stepBackward)).channel m = (s.channel m).stepBackward := by
    rw [State.channel_mapChannel, if_pos rfl]
  have hholder : ((s.mapChannel m (·.stepBackward)).channel m).holder = some p := by
    rw [hchan]
    exact h
  unfold State.backwardStep
  simp only [hholder]
  rw [hchan]
  rfl

/-! ## The reverse limit (R7, R66) -/

/-- The state in which the reverse-limit event of a hold has been taken (R7). -/
def State.reversed (s : State) (m : Meter) : State := s.mapChannel m fun c => { c with reversePassed := true }

section
variable {s : State} {p : Point} {m : Meter}

theorem State.reverseEvent_flowing (hheld : s.heldBy p = some m) (hst : (s.point p).st.flowing = true) :
    s.reverseEvent p m = (s.reversed m).enterStopping p m .reverseFlow := by
  have h : s.reverseEvent p m = if (s.point p).st.flowing = true then (s.reversed m).stopHolder p .reverseFlow
    else s.reversed m := rfl
  rw [h, if_pos hst]
  exact State.stopHolder_eq (s := s.reversed m) hheld (.inr hst) _

theorem State.reverseEvent_of_not (hst : (s.point p).st.flowing = false) : s.reverseEvent p m = s.reversed m := by
  have h : s.reverseEvent p m = if (s.point p).st.flowing = true then (s.reversed m).stopHolder p .reverseFlow
    else s.reversed m := rfl
  rw [h, if_neg (by simp [hst])]

theorem State.reverseEvent_moves (s : State) (p : Point) (m : Meter) : (s.reversed m).Moves (s.reverseEvent p m) := by
  have h : s.reverseEvent p m = if (s.point p).st.flowing = true then (s.reversed m).stopHolder p .reverseFlow
    else s.reversed m := rfl
  rw [h]
  split
  · exact State.stopHolder_moves _ p _
  · exact .refl _

end

@[simp] theorem State.fireCompares_frame (s : State) (p : Point) (m : Meter) (net : Int) :
    (s.fireCompares p m net).now = s.now ∧ (s.fireCompares p m net).pins = s.pins
      ∧ (s.fireCompares p m net).ptu = s.ptu ∧ (s.fireCompares p m net).crg = s.crg
      ∧ (s.fireCompares p m net).display = s.display := by
  rw [State.fireCompares_eq]
  unfold State.slowed State.marked
  (repeat' split) <;> simp

@[simp] theorem State.reverseEvent_frame (s : State) (p : Point) (m : Meter) :
    (s.reverseEvent p m).now = s.now ∧ (s.reverseEvent p m).pins = s.pins ∧ (s.reverseEvent p m).ptu = s.ptu
      ∧ (s.reverseEvent p m).crg = s.crg ∧ (s.reverseEvent p m).display = s.display := by
  unfold State.reverseEvent
  dsimp only
  split <;> simp

/-! ## A step of a held meter as an event -/

/-- The held channel that a step leaves, its valve commands apart: the reference, the counter, the reverse count and the
compares (R1, R7, R9). -/
def Channel.heldStep (c : Channel) (x : Bool × Bool) (isForward : Bool) (net : Int) : Channel :=
  if isForward then
    { c with reference := some x, counter := c.counter + 1, slow := firedAt c.slow net, stop := firedAt c.stop net }
  else { c with reference := some x, counter := c.counter - 1, reverse := min 65535 (c.reverse + 1) }

/-- The net count that a step leads to (R6, R18). -/
def Channel.netAfter (c : Channel) (isForward : Bool) : Int :=
  ((if isForward then c.counter + 1 else c.counter - 1) - c.snapshot).toInt

/-- What a step of a held meter leaves, its holder apart: the state `u` stands before the hand-over of its changes. -/
structure State.Stepped (s u : State) (m : Meter) (x : Bool × Bool) (isForward : Bool) : Prop where
  now : u.now = s.now
  pins : u.pins = s.pins
  ptu : u.ptu = s.ptu
  crg : u.crg = s.crg
  display : u.display = s.display
  psc : u.psc = { s.psc with startQueue := u.psc.startQueue, lastGrant := u.psc.lastGrant }
  counts : ∃ passed, ({ (s.channel m).heldStep x isForward ((s.channel m).netAfter isForward) with
    reversePassed := passed }).ValvesOnly (u.channel m)
  others : ∀ j, j ≠ m → (s.channel j).ValvesOnly (u.channel j)
  selling : ∀ p, (s.point p).st.selling = true → (u.point p).st.selling = true

section
variable {s : State} {m : Meter} {p : Point} (x : Bool × Bool)

theorem State.referred_channel (s : State) (m j : Meter) (x : Bool × Bool) : (s.referred m x).channel j =
    if j = m then { s.channel m with reference := some x } else s.channel j := s.channel_mapChannel m j _

theorem State.advanced_st (s : State) (m : Meter) (p q : Point) : ((s.advanced m p).point q).st = (s.point q).st := by
  have h := State.advance_point ((s.mapChannel m (·.stepForward)).stepNotice p true) p q m
    (s.channel m).stepForward.net
  have hst : ((s.advanced m p).point q).st =
      (((s.mapChannel m (·.stepForward)).stepNotice p true).point q).st := by
    rw [State.advanced, h.rest]
  rw [hst, State.stepNotice_point]
  split
  · rename_i hq
    subst hq
    rfl
  · rfl

theorem State.receded_st (s : State) (m : Meter) (p q : Point) : ((s.receded m p).point q).st = (s.point q).st := by
  rw [State.receded, State.stepNotice_point]
  split
  · rename_i hq
    subst hq
    rfl
  · rfl

/-- A forward step of a held meter (R1, R6, R9). -/
theorem State.forwardStep_stepped (h : (s.channel m).holder = some p) :
    s.Stepped ((s.referred m x).forwardStep m) m x true := by
  have hm := s.referred_channel m m x
  rw [if_pos rfl] at hm
  have hholder : ((s.referred m x).channel m).holder = some p := by rw [hm, h]
  have hnet : ((s.referred m x).channel m).stepForward.net = (s.channel m).netAfter true := by
    rw [hm]
    rfl
  have hmoves := ((s.referred m x).advanced m p).fireCompares_moves p m ((s.channel m).netAfter true)
  have hmarked : (((s.referred m x).advanced m p).marked m ((s.channel m).netAfter true)).channel m =
      (s.channel m).heldStep x true ((s.channel m).netAfter true) := by
    rw [State.marked_channel, if_pos rfl, State.advanced_channel, if_pos rfl, hm]
    simp [Channel.stepForward, h, Channel.heldStep]
  rw [State.forwardStep_held hholder, hnet]
  refine ⟨?_, ?_, ?_, ?_, ?_, ?_, ⟨(s.channel m).reversePassed, ?_⟩, fun j hj => ?_, fun q hq => hmoves.selling q ?_⟩
  · simp [State.advanced, State.referred]
  · simp [State.advanced, State.referred]
  · simp [State.advanced, State.referred]
  · simp [State.advanced, State.referred]
  · simp [State.advanced, State.referred]
  · have hpsc := hmoves.psc
    simpa [State.marked, State.advanced, State.referred] using hpsc
  · have hvalves := hmoves.valves m
    rwa [hmarked] at hvalves
  · have hvalves := hmoves.valves j
    rwa [State.marked_channel, if_neg hj, State.advanced_channel, if_neg hj, State.referred_channel, if_neg hj]
      at hvalves
  · exact (congrArg PointSt.selling (State.advanced_st (s.referred m x) m p q)).trans hq

/-- A backward step of a held meter (R1, R6, R7). -/
theorem State.backwardStep_stepped (h : (s.channel m).holder = some p) :
    s.Stepped ((s.referred m x).backwardStep m) m x false := by
  have hm := s.referred_channel m m x
  rw [if_pos rfl] at hm
  have hholder : ((s.referred m x).channel m).holder = some p := by rw [hm, h]
  have hstep : (({ s.channel m with reference := some x } : Channel)).stepBackward =
      (s.channel m).heldStep x false ((s.channel m).netAfter false) := by
    simp [Channel.stepBackward, Channel.heldStep, h, satAdd]
  have hselling (q : Point) : (s.point q).st.selling = true → (((s.referred m x).receded m p).point q).st.selling = true :=
    fun hq => (congrArg PointSt.selling (State.receded_st (s.referred m x) m p q)).trans hq
  rw [State.backwardStep_held hholder]
  split
  · have hmoves := ((s.referred m x).receded m p).reverseEvent_moves p m
    refine ⟨?_, ?_, ?_, ?_, ?_, ?_, ⟨true, ?_⟩, fun j hj => ?_, fun q hq => hmoves.selling q (hselling q hq)⟩
    · simp [State.receded, State.referred]
    · simp [State.receded, State.referred]
    · simp [State.receded, State.referred]
    · simp [State.receded, State.referred]
    · simp [State.receded, State.referred]
    · have hpsc := hmoves.psc
      simpa [State.reversed, State.receded, State.referred] using hpsc
    · have hvalves := hmoves.valves m
      rwa [State.reversed, State.channel_mapChannel, if_pos rfl, State.receded_channel, if_pos rfl, hm, hstep] at hvalves
    · have hvalves := hmoves.valves j
      rwa [State.reversed, State.channel_mapChannel, if_neg hj, State.receded_channel, if_neg hj,
        State.referred_channel, if_neg hj] at hvalves
  · refine ⟨?_, ?_, ?_, ?_, ?_, ?_, ⟨(s.channel m).reversePassed, ?_⟩, fun j hj => ?_, hselling⟩
    · simp [State.receded, State.referred]
    · simp [State.receded, State.referred]
    · simp [State.receded, State.referred]
    · simp [State.receded, State.referred]
    · simp [State.receded, State.referred]
    · simp [State.receded, State.referred]
    · rw [State.receded_channel, if_pos rfl, hm, hstep]
      exact .refl _
    · rw [State.receded_channel, if_neg hj, State.referred_channel, if_neg hj]
      exact .refl _

/-- A point has stopped with a cause at a moment, its meter's valves closed (R68). -/
def State.StoppedAt (u : State) (p : Point) (m : Meter) (q : DeliveryRecord) (now : Nat) (cause : StopCause) : Prop :=
  (u.point p).st = .stopping ∧ (u.point p).current.bind (·.cause) = some cause
    ∧ (u.point p).quietDue = some (now + q.quiet) ∧ (u.point p).noFlowDue = none ∧ (u.channel m).mainOpen = false
    ∧ (u.channel m).slowOpen = false

/-- The holder between a forward step's notices and its compares (R67, R69, R88). -/
theorem State.advanced_holder {q : DeliveryRecord} (hcur : (s.point p).current = some q) :
    ∃ r, (((s.referred m x).advanced m p).point p).current = some r ∧ r.source = q.source ∧ r.cause = q.cause
      ∧ r.quiet = q.quiet
      ∧ (((s.referred m x).advanced m p).point p).quietDue = ((s.point p).noticed s.now true).quietDue
      ∧ (((s.referred m x).advanced m p).point p).noFlowDue = ((s.point p).noticed s.now true).noFlowDue := by
  have h : ((s.point p).noticed s.now true).PulsesOnly (((s.referred m x).advanced m p).point p) :=
    (s.referred m x).advanced_point m p
  obtain ⟨r, hr, hsource, hcause, hquiet⟩ := h.sale q hcur
  refine ⟨r, hr, hsource, hcause, hquiet, ?_, ?_⟩ <;> rw [h.rest]

/-- What a forward step does to the holder of its meter (R9, R64 to R67, R69). -/
theorem State.forwardStep_holder {q : DeliveryRecord} (h : (s.channel m).holder = some p) (hheld : s.heldBy p = some m)
    (hcur : (s.point p).current = some q) :
    (compareFires (s.channel m).stop ((s.channel m).netAfter true) = true →
      (s.point p).st = .starting ∨ (s.point p).st.flowing = true →
      ((s.referred m x).forwardStep m).StoppedAt p m q s.now q.source.cause)
    ∧ (compareFires (s.channel m).slow ((s.channel m).netAfter true) = true →
      compareFires (s.channel m).stop ((s.channel m).netAfter true) = false → (s.point p).st = .fuelling →
      (((s.referred m x).forwardStep m).point p).st = .slowing
        ∧ (((s.referred m x).forwardStep m).channel m).mainOpen = false
        ∧ (((s.referred m x).forwardStep m).channel m).slowOpen = true)
    ∧ (compareFires (s.channel m).stop ((s.channel m).netAfter true) = false → (s.point p).st.flowing = true →
      (((s.referred m x).forwardStep m).point p).noFlowDue =
        if q.noFlow = 0 then (s.point p).noFlowDue else some (s.now + 1000 * q.noFlow))
    ∧ ((s.point p).st = .stopping → (((s.referred m x).forwardStep m).point p).st = .stopping
      ∧ (((s.referred m x).forwardStep m).point p).quietDue = some (s.now + q.quiet)
      ∧ (((s.referred m x).forwardStep m).point p).current.bind (·.cause) = q.cause)
    ∧ (compareFires (s.channel m).stop ((s.channel m).netAfter true) = false →
      compareFires (s.channel m).slow ((s.channel m).netAfter true) = false ∨ (s.point p).st ≠ .fuelling →
      (((s.referred m x).forwardStep m).point p).st = (s.point p).st
        ∧ (((s.referred m x).forwardStep m).channel m).mainOpen = (s.channel m).mainOpen
        ∧ (((s.referred m x).forwardStep m).channel m).slowOpen = (s.channel m).slowOpen) := by
  have hm := s.referred_channel m m x
  rw [if_pos rfl] at hm
  have hnet : ((s.referred m x).channel m).stepForward.net = (s.channel m).netAfter true := by
    rw [hm]
    rfl
  have heq := State.forwardStep_held (s := s.referred m x) (m := m) (p := p) (by rw [hm, h])
  rw [hnet] at heq
  rw [heq]
  obtain ⟨r, hr, hsource, hcause, hquiet, hquietDue, hnoFlowDue⟩ := s.advanced_holder x hcur
  have hst : (((s.referred m x).advanced m p).point p).st = (s.point p).st := (s.referred m x).advanced_st m p p
  have hchan : ((s.referred m x).advanced m p).channel m =
      ({ s.channel m with reference := some x } : Channel).stepForward := by
    rw [State.advanced_channel, if_pos rfl, hm]
  have hslow : (((s.referred m x).advanced m p).channel m).slow = (s.channel m).slow := by rw [hchan]; rfl
  have hstop : (((s.referred m x).advanced m p).channel m).stop = (s.channel m).stop := by rw [hchan]; rfl
  have hvalves : (((s.referred m x).advanced m p).channel m).mainOpen = (s.channel m).mainOpen
      ∧ (((s.referred m x).advanced m p).channel m).slowOpen = (s.channel m).slowOpen := by
    rw [hchan]
    exact ⟨rfl, rfl⟩
  have hnow : ((s.referred m x).advanced m p).now = s.now := by simp [State.advanced, State.referred]
  have hheld' : ((s.referred m x).advanced m p).heldBy p = some m := by
    rw [State.heldBy_congr (s := s) (by simp [State.advanced, State.referred]), hheld]
  generalize (s.referred m x).advanced m p = a at *
  generalize (s.channel m).netAfter true = net at *
  rw [← hslow, ← hstop, ← hvalves.1, ← hvalves.2, ← hst]
  have hmarked : (a.marked m net).point p = a.point p
      ∧ ((a.marked m net).channel m).mainOpen = (a.channel m).mainOpen
      ∧ ((a.marked m net).channel m).slowOpen = (a.channel m).slowOpen := by
    rw [State.marked_channel, if_pos rfl]
    exact ⟨rfl, rfl, rfl⟩
  refine ⟨fun hfires hflows => ?_, fun hfires hno hfuelling => ?_, fun hno hflows => ?_, fun hstopping => ?_,
    fun hno hidle => ?_⟩
  · obtain ⟨hpoint, hclosed⟩ := State.fireCompares_stop hheld' hr hflows hfires
    rw [State.StoppedAt, hpoint, PointData.stopped, hr, hnow, hsource, Option.map_some, Option.map_some, hquiet]
    exact ⟨rfl, rfl, rfl, rfl, hclosed⟩
  · obtain ⟨hpoint, hclosed⟩ := State.fireCompares_slow hfuelling hfires hno
    rw [hpoint]
    exact ⟨rfl, hclosed⟩
  · have hdue : ((a.fireCompares p m net).point p).noFlowDue = (a.point p).noFlowDue := by
      by_cases hslows : compareFires (a.channel m).slow net = true ∧ (a.point p).st = .fuelling
      · rw [(State.fireCompares_slow hslows.2 hslows.1 hno).1]
      · rw [State.fireCompares_none (by rw [not_and_or] at hslows; exact hslows.imp (by simp) id) hno, hmarked.1]
    rw [hdue, hnoFlowDue]
    rw [hst] at hflows
    by_cases hzero : q.noFlow = 0 <;> simp [PointData.noticed, hcur, hflows, hzero]
  · rw [State.fireCompares_stopping hstopping, hmarked.1, hquietDue, hr, hstopping]
    rw [hst] at hstopping
    exact ⟨rfl, by simp [PointData.noticed, hstopping, hcur], hcause⟩
  · rw [State.fireCompares_none hidle hno, hmarked.1]
    exact ⟨rfl, hmarked.2⟩

/-- The reverse count passes the limit of the meter's record for the first time in its hold (R7). -/
def Channel.reverses (c : Channel) : Bool :=
  !c.reversePassed && decide (c.record.reverseLimit ≠ 0) && decide (c.record.reverseLimit < c.reverse + 1)
    && decide (c.record.reverseLimit < 65535)

theorem Channel.reverseDue_stepBackward {c : Channel} (h : c.holder = some p) :
    ({ c with reference := some x } : Channel).stepBackward.reverseDue = c.reverses := by
  have hlimit : c.record.reverseLimit < min 65535 (c.reverse + 1) ↔
      c.record.reverseLimit < c.reverse + 1 ∧ c.record.reverseLimit < 65535 := by omega
  simp only [Channel.reverseDue, Channel.stepBackward, Channel.reverses, satAdd, h, reduceCtorEq, if_false,
    Option.isSome_some, Bool.true_and, hlimit, Bool.decide_and, Bool.and_assoc]

/-- What a backward step does to the holder of its meter (R7, R64, R66, R69). -/
theorem State.backwardStep_holder {q : DeliveryRecord} (h : (s.channel m).holder = some p) (hheld : s.heldBy p = some m)
    (hcur : (s.point p).current = some q) :
    ((s.channel m).reverses = true → (s.point p).st.flowing = true →
      ((s.referred m x).backwardStep m).StoppedAt p m q s.now .reverseFlow)
    ∧ ((s.point p).st = .stopping → (((s.referred m x).backwardStep m).point p).st = .stopping
      ∧ (((s.referred m x).backwardStep m).point p).quietDue = some (s.now + q.quiet)
      ∧ (((s.referred m x).backwardStep m).point p).current.bind (·.cause) = q.cause)
    ∧ ((s.channel m).reverses = false ∨ (s.point p).st.flowing = false →
      (((s.referred m x).backwardStep m).point p).st = (s.point p).st
        ∧ (((s.referred m x).backwardStep m).channel m).mainOpen = (s.channel m).mainOpen
        ∧ (((s.referred m x).backwardStep m).channel m).slowOpen = (s.channel m).slowOpen) := by
  have hm := s.referred_channel m m x
  rw [if_pos rfl] at hm
  have heq := State.backwardStep_held (s := s.referred m x) (m := m) (p := p) (by rw [hm, h])
  rw [hm, Channel.reverseDue_stepBackward x h] at heq
  have hpoint : ((s.referred m x).receded m p).point p = (s.point p).noticed s.now false :=
    (s.referred m x).receded_point m p
  have hchan : ((s.referred m x).receded m p).channel m =
      ({ s.channel m with reference := some x } : Channel).stepBackward := by
    rw [State.receded_channel, if_pos rfl, hm]
  have hvalves : (((s.referred m x).receded m p).channel m).mainOpen = (s.channel m).mainOpen
      ∧ (((s.referred m x).receded m p).channel m).slowOpen = (s.channel m).slowOpen := by
    rw [hchan]
    exact ⟨rfl, rfl⟩
  have hnow : ((s.referred m x).receded m p).now = s.now := by simp [State.receded, State.referred]
  have hheld' : ((s.referred m x).receded m p).heldBy p = some m := by
    rw [State.heldBy_congr (s := s) (by simp [State.receded, State.referred]), hheld]
  rw [heq]
  generalize (s.referred m x).receded m p = a at *
  have hst : (a.point p).st = (s.point p).st := by rw [hpoint]; rfl
  have hreversed : (a.reversed m).point p = a.point p
      ∧ ((a.reversed m).channel m).mainOpen = (a.channel m).mainOpen
      ∧ ((a.reversed m).channel m).slowOpen = (a.channel m).slowOpen := by
    rw [State.reversed, State.channel_mapChannel, if_pos rfl]
    exact ⟨rfl, rfl, rfl⟩
  have hidle : (s.channel m).reverses = false ∨ (s.point p).st.flowing = false →
      (if (s.channel m).reverses = true then a.reverseEvent p m else a) = a
      ∨ (if (s.channel m).reverses = true then a.reverseEvent p m else a) = a.reversed m := by
    intro hno
    by_cases hrev : (s.channel m).reverses = true
    · rw [if_pos hrev]
      exact .inr (State.reverseEvent_of_not (by rw [hst]; exact hno.resolve_left (by simp [hrev])))
    · exact .inl (if_neg hrev)
  refine ⟨fun hrev hflows => ?_, fun hstopping => ?_, fun hno => ?_⟩
  · rw [if_pos hrev, State.reverseEvent_flowing hheld' (by rw [hst, hflows]), State.StoppedAt,
      State.enterStopping_point, hreversed.1, hpoint]
    have hclosed := (a.reversed m).enterStopping_valves p m .reverseFlow (State.holder_of_heldBy _ hheld')
    simp only [PointData.stopped, PointData.noticed, hcur, Option.map_some, Option.getD_some, Option.bind_some]
    exact ⟨trivial, trivial, by rw [← hnow]; rfl, trivial, hclosed⟩
  · have hkept : (if (s.channel m).reverses = true then a.reverseEvent p m else a).point p = a.point p := by
      rcases hidle (.inr (by simp [hstopping, PointSt.flowing])) with hu | hu <;> rw [hu]
      exact hreversed.1
    rw [hkept, hpoint]
    exact ⟨hstopping, by simp [PointData.noticed, hstopping, hcur], by simp [PointData.noticed, hcur]⟩
  · rw [← hst, ← hvalves.1, ← hvalves.2]
    rcases hidle hno with hu | hu <;> rw [hu]
    · exact ⟨rfl, rfl, rfl⟩
    · rw [hreversed.1]
      exact ⟨rfl, hreversed.2⟩

end

/-- A step of a held meter is an event that ends no sale: only its changes are handed over at its end. -/
theorem State.Stepped.exec_eq {s u : State} {m : Meter} {x : Bool × Bool} {b : Bool} (h : s.Stepped u m x b)
    (hr : s.runs = true) (hs : s.sample m x = some u) : exec (.pulserSample m x.1 x.2) s = .next u.commit := by
  rw [exec_pulserSample, hs, State.event_some (State.powered_of_runs hr),
    State.settle_eq_commit hr h.crg h.psc h.selling]

/-- The other channels keep their counters, references and holders. -/
theorem State.Stepped.other_counts {s u : State} {m : Meter} {x : Bool × Bool} {b : Bool} (h : s.Stepped u m x b)
    (j : Meter) (hj : j ≠ m) : (u.channel j).counter = (s.channel j).counter
      ∧ (u.channel j).reference = (s.channel j).reference ∧ (u.channel j).holder = (s.channel j).holder := by
  obtain ⟨hcounter, hreference, -, hholder, -⟩ := (h.others j hj).counts
  exact ⟨hcounter, hreference, hholder⟩

/-- Settles O9: a step moves the channel by `Channel.heldStep`; what follows moves valves alone, and the holder by the
compares of a forward step and the reverse limit of a backward one. -/
theorem stepOfHeldMeter : Obligations.StepOfHeldMeter := by
  intro s m r x p hr hd href hholder hsame herror
  cases hclass : classify r x with
  | same => exact absurd hclass hsame
  | error => exact absurd hclass herror
  | forward =>
    have hstep := State.forwardStep_stepped x hholder
    obtain ⟨passed, hcounts⟩ := hstep.counts
    obtain ⟨hcounter, hreference, hsnapshot, hholder', hcreep, hwindow, hreverse, hslow, hstop⟩ := hcounts.counts
    simp only [if_true, decide_true, Bool.true_and, Bool.not_true, Bool.false_and]
    refine ⟨_, hstep.exec_eq hr (State.sample_forward hd href hclass), ?_⟩
    simp only [State.commit_channel, State.commit_point, State.commit_frame]
    refine ⟨hcounter, hreference, hsnapshot, hholder'.trans hholder, hcreep, hwindow, hreverse, hslow, hstop, hstep.now,
      hstep.pins, hstep.ptu, hstep.crg, hstep.display, hstep.other_counts, fun q hheld hcur => ?_⟩
    obtain ⟨hstops, hslows, hnoFlow, hstopping, hidle⟩ := State.forwardStep_holder x hholder hheld hcur
    simp only [compareFires_eq_any] at hstops hslows hnoFlow hidle
    exact ⟨hstops, hslows, fun h => by simp at h, fun _ => hnoFlow, hstopping,
      fun hno h => hidle hno (h.imp (·.1) fun hst => by simp [hst])⟩
  | backward =>
    have hstep := State.backwardStep_stepped x hholder
    obtain ⟨passed, hcounts⟩ := hstep.counts
    obtain ⟨hcounter, hreference, hsnapshot, hholder', hcreep, hwindow, hreverse, hslow, hstop⟩ := hcounts.counts
    simp only [reduceCtorEq, if_false, decide_false, Bool.false_and, Bool.not_false, Bool.true_and, Bool.or_false]
    refine ⟨_, hstep.exec_eq hr (State.sample_backward hd href hclass), ?_⟩
    simp only [State.commit_channel, State.commit_point, State.commit_frame]
    refine ⟨hcounter, hreference, hsnapshot, hholder'.trans hholder, hcreep, hwindow, hreverse,
      hslow.trans Option.map_id'.symm, hstop.trans Option.map_id'.symm, hstep.now, hstep.pins, hstep.ptu, hstep.crg,
      hstep.display, hstep.other_counts, fun q hheld hcur => ?_⟩
    obtain ⟨hreverses, hstopping, hidle⟩ := State.backwardStep_holder x hholder hheld hcur
    exact ⟨fun h => by simp at h, fun h => by simp at h, hreverses, fun h => by simp at h, hstopping,
      fun _ h => hidle (h.imp (·.2) fun hst => by simp [hst, PointSt.flowing])⟩

end Sys2Proof.Machine
end

section
/-! PROOFS. An accepted lift (R6, R8, R23, R52, R54, R58, R60 to R62): the motor start queue at a demand, the new holder,
the waiter, and two lifts in one event. -/

namespace Sys2Proof.Machine

/-! ## The two points -/

theorem Point.other_ne (p : Point) : p.other ≠ p := by cases p <;> decide

theorem Point.other_other (p : Point) : p.other.other = p := by cases p <;> rfl

theorem Point.eq_other_of_ne {p q : Point} : q ≠ p → q = p.other := by cases p <;> cases q <;> decide

/-! ## The demand of a motor (R62, R176) -/

theorem State.testHead_of_not_due {s : State} (h : s.grantDue = false) (fuel : Nat) : s.testHead fuel = s := by
  cases fuel with
  | zero => rfl
  | succ n =>
    unfold State.testHead
    split
    · rfl
    · rw [if_neg (by simp [h])]

theorem State.testHead_nil {s : State} (h : s.psc.startQueue = []) (fuel : Nat) : s.testHead fuel = s := by
  cases fuel <;> simp [State.testHead, h]

theorem State.testHead_cons {s : State} {m : Meter} {rest : List Meter} (h : s.psc.startQueue = m :: rest)
    (hdue : s.grantDue = true) (fuel : Nat) : s.testHead (fuel + 1) = (s.grant m rest).testHead fuel := by
  simp [State.testHead, h, hdue]

/-- A grant puts the motor on and takes its meter from the queue (R62, R176). -/
theorem State.grant_eq (s : State) (m : Meter) (rest : List Meter) :
    (s.grant m rest).psc = { s.psc with startQueue := rest, lastGrant := s.now }
      ∧ (s.grant m rest).dle = { s.dle with motors := s.dle.motors.set m ⟨.running, s.now, none⟩ } := by
  simp [State.grant]

/-- A new holder's demand of its motor moves the motor and the start queue as R62 and R176 say. -/
theorem State.demandMotor_demanded (s : State) (m : Meter) : s.motorDemanded (s.demandMotor m) m := by
  unfold State.motorDemanded State.demandMotor
  dsimp only
  cases hst : (s.motor m).st with
  | runOn => simp [State.motor]
  | running => simp
  | awaitingGrant => simp
  | off =>
    dsimp only
    have hnow : ((s.setMotor m { s.motor m with st := .awaitingGrant }).requestStart m).now = s.now := by simp
    have hqueued : (s.setMotor m { s.motor m with st := .awaitingGrant }).requestStart m =
      ((s.setMotor m { s.motor m with st := .awaitingGrant }).mapPsc fun c =>
        { c with startQueue := c.startQueue ++ [m] }).testHead 4 := rfl
    rw [hnow, hqueued]
    generalize hv : ((s.setMotor m { s.motor m with st := .awaitingGrant }).mapPsc fun c =>
        { c with startQueue := c.startQueue ++ [m] }) = v
    have hvnow : v.now = s.now := by rw [← hv]; rfl
    have hvgrant : v.psc.lastGrant = s.psc.lastGrant ∧ v.psc.spacing = s.psc.spacing := by rw [← hv]; exact ⟨rfl, rfl⟩
    have hvqueue : v.psc.startQueue = s.psc.startQueue ++ [m] := by rw [← hv]; rfl
    have hvmotor : v.motor m = { s.motor m with st := .awaitingGrant } := by rw [← hv]; simp [State.motor]
    have hdue : v.grantDue = decide (s.psc.lastGrant + s.psc.spacing ≤ s.now) := by
      rw [State.grantDue, hvgrant.1, hvgrant.2, hvnow]
    refine ⟨fun hempty hpast => ?_, fun hwait => ?_, fun h rest hqueue hne hpast hspacing => ?_⟩
    · have hq : v.psc.startQueue = m :: [] := by rw [hvqueue, hempty]; rfl
      obtain ⟨hpsc, hdle⟩ := v.grant_eq m []
      rw [State.testHead_cons hq (by rw [hdue, decide_eq_true hpast]), State.testHead_nil (by rw [hpsc]),
        State.motor, hpsc, hdle, hvnow]
      simp
    · rw [State.testHead_of_not_due (by rw [hdue, decide_eq_false (Nat.not_le.2 hwait)]), hvmotor, hvqueue]
      exact ⟨rfl, rfl⟩
    · have hq : v.psc.startQueue = h :: (rest ++ [m]) := by rw [hvqueue, hqueue]; rfl
      obtain ⟨hpsc, hdle⟩ := v.grant_eq h (rest ++ [m])
      have hnot : (v.grant h (rest ++ [m])).grantDue = false := by
        rw [State.grantDue, hpsc, (v.grant_frame h (rest ++ [m])).1]
        simp only [hvgrant.2, decide_eq_false_iff_not]
        omega
      rw [State.testHead_cons hq (by rw [hdue, decide_eq_true hpast]), State.testHead_of_not_due hnot, State.motor,
        State.motor, hpsc, hdle]
      simp only [Quad.get_set, if_neg (Ne.symm hne), if_true]
      exact ⟨congrArg Motor.st hvmotor, trivial, trivial⟩

/-! ## A free meter's new holder (R6, R8, R61) -/

/-- A side whose zero check has been asked for: it waits for a display test in flight, and begins otherwise (R116). -/
def DduSide.asked (d : DduSide) : DduSide := { d with zero := if d.test.isSome then .waiting else .allOn 0 }

theorem State.askZero_eq {s : State} {x : Side} (hon : s.refreshing x = true) (hgood : (s.side x).sideFault = false) :
    s.askZero x = (s.mapSide x (·.asked), false) := by
  simp only [State.askZero, hon, hgood, Bool.not_true, Bool.or_self, Bool.false_eq_true, if_false]
  rfl

/-- The state in which a point holds a meter with its record's counts, its zero check asked for and its pulse output told,
and the motor still as it was (R61). -/
def State.held (s : State) (p : Point) (m : Meter) (r : DeliveryRecord) : State :=
  { s with
    miu := s.miu.set m ((s.channel m).hold p r.nSlow r.nStop)
    dle := { s.dle with holders := s.dle.holders.set m (some p) }
    points := s.points.set p { s.point p with current := some { r with snapshot := (s.channel m).counter } }
    pou := s.pou.set p ((s.pou.get p).startNotice r.seq m r.vapour (s.dle.timings.get p).divider)
    ddu := s.ddu.set p (s.side p).asked
    rtm := { s.rtm with dirtyDeliveries := true } }

/-- The state in which the meter, the record and the pulse output have taken the notice of a hold (R6, R8, R61, R85). -/
def State.holdNotice (s : State) (p : Point) (m : Meter) (r : DeliveryRecord) : State :=
  let s := s.mapChannel m (·.hold p r.nSlow r.nStop)
  let s := { s with dle := { s.dle with holders := s.dle.holders.set m (some p) } }
  let s := s.mapCurrent p fun r => { r with snapshot := (s.channel m).snapshot }
  (s.mapPou p (·.startNotice r.seq m r.vapour (s.dle.timings.get p).divider)).touchDeliveries

theorem State.holdNotice_asked {s : State} {p : Point} {r : DeliveryRecord} (hcur : (s.point p).current = some r)
    (m : Meter) : (s.holdNotice p m r).mapSide p (·.asked) = s.held p m r := by
  have hsnapshot : ((s.mapChannel m (·.hold p r.nSlow r.nStop)).channel m).snapshot = (s.channel m).counter := by
    rw [State.channel_mapChannel, if_pos rfl]
    rfl
  have hcurrent : { s.points.get p with current := (s.points.get p).current.map fun x =>
      { x with snapshot := ((s.mapChannel m (·.hold p r.nSlow r.nStop)).channel m).snapshot } } =
      { s.point p with current := some { r with snapshot := (s.channel m).counter } } := by
    rw [← hsnapshot, ← State.point, hcur]
    rfl
  exact congrArg (fun d => { s.held p m r with points := s.points.set p d }) hcurrent

/-- A point whose side refreshes without fault becomes the holder, and demands the motor (R61). -/
theorem State.becomeHolder_eq {s : State} {p : Point} {m : Meter} {r : DeliveryRecord}
    (hcur : (s.point p).current = some r) (hon : s.refreshing p = true) (hgood : (s.side p).sideFault = false) :
    s.becomeHolder p m = (s.held p m r).demandMotor m := by
  have heq : s.becomeHolder p m =
      if ((s.holdNotice p m r).askZero p).2 = true then
        (((s.holdNotice p m r).askZero p).1.demandMotor m).stopHolder p .displayFault
      else ((s.holdNotice p m r).askZero p).1.demandMotor m := by
    simp only [State.becomeHolder, hcur]
    rfl
  rw [heq, State.askZero_eq (s := s.holdNotice p m r) hon hgood, State.holdNotice_asked hcur]
  rfl

/-! ## An accepted lift of a free meter -/

/-- The point of an accepted lift, its record begun with a snapshot of the meter's counter (R52, R54). -/
def State.liftedPoint (s : State) (p : Point) (a : Authorization) (k : Position) (snapshot : BitVec 32) : PointData :=
  { s.point p with
    st := .starting, position := some k, authDue := none
    current := some { s.liftRecord p a k with snapshot := snapshot }, lastSeq := (s.liftRecord p a k).seq
    saleTable := (s.ptu.find (s.point p).generation).map (·.table), figuresAt := none, zeroPassed := false }

/-- The state in which the record of an accepted lift is begun and its meter not yet claimed (R52). -/
def State.recordBegun (s : State) (p : Point) (a : Authorization) (k : Position) : State :=
  (s.mapPoint p fun _ => s.liftedPoint p a k 0).touchDeliveries

theorem State.acceptLift_eq (s : State) (p : Point) (a : Authorization) (k : Position) :
    s.acceptLift p a k = (s.recordBegun p a k).claim p (s.hose p k).meter := rfl

/-- What an accepted lift of a free meter leaves: the point holds the meter with its record's counts, and of the rest the
start queue moves alone. -/
structure State.HoldBegun (s u : State) (p : Point) (a : Authorization) (k : Position) : Prop where
  point : u.point p = s.liftedPoint p a k (s.channel (s.hose p k).meter).counter
  holders : u.dle.holders = s.dle.holders.set (s.hose p k).meter (some p)
  waiters : u.dle.waiters = s.dle.waiters
  tables : u.dle.hoses = s.dle.hoses ∧ u.dle.timings = s.dle.timings ∧ u.dle.rounding = s.dle.rounding
  channel : u.channel (s.hose p k).meter =
    (s.channel (s.hose p k).meter).hold p (s.liftRecord p a k).nSlow (s.liftRecord p a k).nStop
  channels : ∀ j, j ≠ (s.hose p k).meter → (s.channel j).ValvesOnly (u.channel j)
  pou : u.pou.get p = (s.pou.get p).startNotice (s.liftRecord p a k).seq (s.hose p k).meter
    (s.liftRecord p a k).vapour (s.dle.timings.get p).divider
  ddu : u.ddu = s.ddu.set p (s.side p).asked
  motor : s.motorDemanded u (s.hose p k).meter
  psc : u.psc = { s.psc with startQueue := u.psc.startQueue, lastGrant := u.psc.lastGrant }
  blocks : u.now = s.now ∧ u.pins = s.pins ∧ u.ptu = s.ptu ∧ u.display = s.display ∧ u.crg = s.crg
  selling : ∀ q, (s.point q).st.selling = true → (u.point q).st.selling = true
  other : ¬ ((s.point p.other).st = .starting ∧ (s.point p.other).zeroPassed = true) →
    u.point p.other = s.point p.other ∧ u.pou.get p.other = s.pou.get p.other ∧ u.hlp = s.hlp

theorem State.recordBegun_point (s : State) (p q : Point) (a : Authorization) (k : Position) :
    (s.recordBegun p a k).commitDeliveries.point q = if q = p then s.liftedPoint p a k 0 else s.point q := by
  simp [State.recordBegun, State.point]

/-- A claim on a free meter makes the point its holder, its begun record handed to the RTM first (R58, R99). -/
theorem State.claim_free {s : State} {m : Meter} (h : s.dle.holders.get m = none) (p : Point) :
    s.claim p m = s.commitDeliveries.becomeHolder p m := by
  simp only [State.claim, h]

/-- The new holder of an accepted lift, before the start queue has taken the demand of its motor. -/
def State.liftHeld (s : State) (p : Point) (a : Authorization) (k : Position) : State :=
  (s.recordBegun p a k).commitDeliveries.held p (s.hose p k).meter (s.liftRecord p a k)

/-- What a new holder's start leaves of the blocks that it does not tell (R61). -/
theorem State.liftHeld_frame (s : State) (p : Point) (a : Authorization) (k : Position) :
    (s.liftHeld p a k).now = s.now ∧ (s.liftHeld p a k).pins = s.pins ∧ (s.liftHeld p a k).hlp = s.hlp
      ∧ (s.liftHeld p a k).ptu = s.ptu ∧ (s.liftHeld p a k).display = s.display ∧ (s.liftHeld p a k).crg = s.crg
      ∧ (s.liftHeld p a k).psc = s.psc
      ∧ (s.liftHeld p a k).dle = { s.dle with holders := s.dle.holders.set (s.hose p k).meter (some p) }
      ∧ (s.liftHeld p a k).ddu = s.ddu.set p (s.side p).asked := by
  simp [State.liftHeld, State.held, State.recordBegun, State.side]

theorem State.liftHeld_point (s : State) (p q : Point) (a : Authorization) (k : Position) :
    (s.liftHeld p a k).point q =
      if q = p then s.liftedPoint p a k (s.channel (s.hose p k).meter).counter else s.point q := by
  have hp := s.recordBegun_point p p a k
  have hq := s.recordBegun_point p q a k
  have hchan : (s.recordBegun p a k).commitDeliveries.channel (s.hose p k).meter = s.channel (s.hose p k).meter := by
    simp [State.channel, State.recordBegun]
  rw [if_pos rfl] at hp
  simp only [State.liftHeld, State.held, State.point, Pair.get_set] at hp hq ⊢
  split
  · rw [hp, hchan]
    rfl
  · rename_i hne
    rw [hq, if_neg hne]

theorem State.liftHeld_channel (s : State) (p : Point) (j : Meter) (a : Authorization) (k : Position) :
    (s.liftHeld p a k).channel j = if j = (s.hose p k).meter then
      (s.channel (s.hose p k).meter).hold p (s.liftRecord p a k).nSlow (s.liftRecord p a k).nStop else s.channel j := by
  simp [State.liftHeld, State.held, State.channel, State.recordBegun]

theorem State.liftHeld_pou (s : State) (p q : Point) (a : Authorization) (k : Position) :
    (s.liftHeld p a k).pou.get q = if q = p then (s.pou.get p).startNotice (s.liftRecord p a k).seq (s.hose p k).meter
      (s.liftRecord p a k).vapour (s.dle.timings.get p).divider else s.pou.get q := by
  simp [State.liftHeld, State.held, State.recordBegun]

theorem State.refreshing_congr {s t : State} {x : Side} (hd : t.psc.drives = s.psc.drives)
    (hh : (t.side x).hold = (s.side x).hold) : t.refreshing x = s.refreshing x := by
  rw [State.refreshing, hd, hh]
  rfl

theorem State.acceptLift_eq_demand {s : State} {p : Point} {a : Authorization} {k : Position}
    (hfree : s.dle.holders.get (s.hose p k).meter = none) (hon : s.refreshing p = true)
    (hgood : (s.side p).sideFault = false) :
    s.acceptLift p a k = (s.liftHeld p a k).demandMotor (s.hose p k).meter := by
  have hcur : ((s.recordBegun p a k).commitDeliveries.point p).current = some (s.liftRecord p a k) := by
    rw [State.recordBegun_point, if_pos rfl]
    rfl
  have hside : (s.recordBegun p a k).commitDeliveries.side p = s.side p := by simp [State.side, State.recordBegun]
  have hon' : (s.recordBegun p a k).commitDeliveries.refreshing p = true := by
    rw [State.refreshing_congr (s := s) (by simp [State.recordBegun]) (by rw [hside]), hon]
  rw [State.acceptLift_eq, State.claim_free (s := s.recordBegun p a k) hfree,
    State.becomeHolder_eq hcur hon' (by rw [hside, hgood])]
  rfl

/-- The demand of a motor depends on the motors and the start queue alone. -/
theorem State.motorDemanded_congr {s s' t t' : State} {m : Meter} (hm : s'.dle.motors = s.dle.motors)
    (hp : s'.psc = s.psc) (hm' : t'.dle.motors = t.dle.motors) (hp' : t'.psc = t.psc) (hn' : t'.now = t.now) :
    s'.motorDemanded t' m ↔ s.motorDemanded t m := by
  simp only [State.motorDemanded, State.motor, hm, hp, hm', hp', hn']

theorem State.acceptLift_free {s : State} {p : Point} {a : Authorization} {k : Position}
    (hfree : s.dle.holders.get (s.hose p k).meter = none) (hon : s.refreshing p = true)
    (hgood : (s.side p).sideFault = false) : s.HoldBegun (s.acceptLift p a k) p a k := by
  rw [State.acceptLift_eq_demand hfree hon hgood]
  have hgrants := State.Grants.demandMotor (s.liftHeld p a k) (s.hose p k).meter
  have hdemand := (s.liftHeld p a k).demandMotor_demanded (s.hose p k).meter
  obtain ⟨hnow, hpins, hhlp, hptu, hdisplay, hcrg, hpsc, hdle, hddu⟩ := s.liftHeld_frame p a k
  obtain ⟨hnow', -, hpins', hptu', hddu', hdisplay', hcrg', -⟩ :=
    (s.liftHeld p a k).demandMotor_frame (s.hose p k).meter
  have hpoint := s.liftHeld_point p p a k
  rw [if_pos rfl] at hpoint
  have hno : ¬ (s.liftHeld p a k).mayOpen p := by
    rintro ⟨-, hzero, -⟩
    rw [hpoint] at hzero
    cases hzero
  have hgdle := hgrants.dle
  have hgpsc := hgrants.psc
  refine ⟨?_, ?_, ?_, ?_, ?_, fun j hj => ?_, ?_, ?_, ?_, ?_, ?_, fun q hq => ?_, fun hother => ?_⟩
  · rw [hgrants.point p hno, hpoint]
  · rw [hgrants.holders, hdle]
  · rw [hgrants.waiters, hdle]
  · rw [hgdle, hdle]
    exact ⟨rfl, rfl, rfl⟩
  · rw [hgrants.channel p _ hno (by rw [hdle]; simp), State.liftHeld_channel, if_pos rfl]
  · have hvalves := hgrants.valves j
    rwa [State.liftHeld_channel, if_neg hj] at hvalves
  · rw [hgrants.pou p hno, State.liftHeld_pou, if_pos rfl]
  · rw [hddu', hddu]
  · exact (State.motorDemanded_congr (by rw [hdle]) hpsc rfl rfl rfl).1 hdemand
  · rwa [hpsc] at hgpsc
  · exact ⟨hnow'.trans hnow, hpins'.trans hpins, hptu'.trans hptu, hdisplay'.trans hdisplay, hcrg'.trans hcrg⟩
  · refine hgrants.selling q ?_
    rw [State.liftHeld_point]
    split
    · rfl
    · exact hq
  · have hne := Point.other_ne p
    have hpo := s.liftHeld_point p p.other a k
    rw [if_neg hne] at hpo
    have hno' : ¬ (s.liftHeld p a k).mayOpen p.other := fun h => hother (hpo ▸ ⟨h.1, h.2.1⟩)
    refine ⟨(hgrants.point _ hno').trans hpo, ?_, ?_⟩
    · rw [hgrants.pou _ hno', State.liftHeld_pou, if_neg hne]
    · refine (hgrants.hlp fun q => ?_).trans hhlp
      by_cases hq : q = p
      · rw [hq]
        exact hno
      · rw [Point.eq_other_of_ne hq]
        exact hno'

end Sys2Proof.Machine
end

section
/-! PROOFS. An accepted lift alone and with the other point's lift (R52, R54, R58, R60 to R62). -/

namespace Sys2Proof.Machine

/-! ## What a lift is judged by -/

/-- Two states in which a lift of a point is judged alike and begins the same record (R52, R54). -/
structure State.SameLift (s t : State) (p : Point) (k : Position) : Prop where
  point : t.point p = s.point p
  tables : t.dle.hoses = s.dle.hoses ∧ t.dle.timings = s.dle.timings ∧ t.dle.rounding = s.dle.rounding
  ptu : t.ptu = s.ptu
  clock : t.psc.clock = s.psc.clock
  side : t.side p = s.side p
  record : (t.channel (s.hose p k).meter).record = (s.channel (s.hose p k).meter).record
  latches : (t.channel (s.hose p k).meter).fault = (s.channel (s.hose p k).meter).fault
    ∧ (t.channel (s.hose p k).meter).valveFault = (s.channel (s.hose p k).meter).valveFault
  up : ∀ j, j ≠ k → t.up p j = s.up p j

namespace State.SameLift

variable {s t : State} {p : Point} {k : Position} {a : Authorization}

theorem hose (h : s.SameLift t p k) (j : Position) : t.hose p j = s.hose p j := by
  rw [State.hose, h.tables.1]
  rfl

theorem liftRecord (h : s.SameLift t p k) : t.liftRecord p a k = s.liftRecord p a k := by
  simp only [State.liftRecord, State.stamp, h.hose, h.point, h.ptu, h.record, h.tables, h.clock]

theorem anotherUp (h : s.SameLift t p k) : t.anotherUp p k = s.anotherUp p k := by
  refine congrArg (Position.all.any ·) (funext fun j => ?_)
  by_cases hj : j = k
  · simp [hj]
  · rw [h.up j hj]

theorem displayCloses (h : s.SameLift t p k) (g : Grade) : t.displayCloses p g = s.displayCloses p g := by
  simp only [State.displayCloses, State.windowCloses, h.hose, h.side]

theorem liftRefusal (h : s.SameLift t p k) : t.liftRefusal p a k = s.liftRefusal p a k := by
  have husable : t.unusable (s.hose p k).meter = s.unusable (s.hose p k).meter := by
    simp only [State.unusable, h.record, h.latches]
  unfold State.liftRefusal
  dsimp only
  rw [h.hose, h.point, h.ptu, husable, h.anotherUp, h.liftRecord, h.displayCloses]

theorem liftedPoint (h : s.SameLift t p k) (x : BitVec 32) : t.liftedPoint p a k x = s.liftedPoint p a k x := by
  simp only [State.liftedPoint, h.point, h.liftRecord, h.ptu]

/-- A switch of a nozzle other than those that the lift looks at. -/
theorem moveNozzle (s : State) (p q : Point) (j k : Position) (hq : q = p → j = k) :
    s.SameLift (s.moveNozzle q j true) p k where
  point := rfl
  tables := ⟨rfl, rfl, rfl⟩
  ptu := rfl
  clock := rfl
  side := rfl
  record := rfl
  latches := ⟨rfl, rfl⟩
  up i hi := by
    simp only [State.up, State.moveNozzle, Pair.get_set]
    split
    · rename_i hqp
      have hij : i ≠ j := hq hqp.symm ▸ hi
      rw [Quad.at_setAt, if_neg hij, hqp]
    · rfl

theorem trans {u : State} (h : s.SameLift t p k) (g : t.SameLift u p k) : s.SameLift u p k where
  point := g.point.trans h.point
  tables := ⟨g.tables.1.trans h.tables.1, g.tables.2.1.trans h.tables.2.1, g.tables.2.2.trans h.tables.2.2⟩
  ptu := g.ptu.trans h.ptu
  clock := g.clock.trans h.clock
  side := g.side.trans h.side
  record := by
    have hrecord := g.record
    rw [h.hose] at hrecord
    exact hrecord.trans h.record
  latches := by
    obtain ⟨hfault, hvalve⟩ := g.latches
    rw [h.hose] at hfault hvalve
    exact ⟨hfault.trans h.latches.1, hvalve.trans h.latches.2⟩
  up j hj := (g.up j hj).trans (h.up j hj)

end State.SameLift

/-- A lift that no test refuses, at an authorized point, is accepted (R54). -/
theorem State.lift_accepted {s : State} {p : Point} {k : Position} {a : Authorization}
    (hst : (s.point p).st = .authorized) (ha : (s.point p).auth = some a) (h : s.liftRefusal p a k = none) :
    s.lift p k = s.acceptLift p a k := by
  simp only [State.lift, hst, State.judgeLift, ha, h]

theorem State.SameLift.lift_accepted {s t : State} {p : Point} {k : Position} {a : Authorization}
    (hsame : s.SameLift t p k) (hst : (s.point p).st = .authorized) (ha : (s.point p).auth = some a)
    (h : s.liftRefusal p a k = none) : t.lift p k = t.acceptLift p a k :=
  State.lift_accepted (by rw [hsame.point, hst]) (by rw [hsame.point, ha]) (by rw [hsame.liftRefusal, h])

/-! ## The lifts of an event -/

theorem exec_nozzleLift_alone {s : State} {p : Point} {k : Position} (hr : s.runs = true) (hup : s.up p k = false) :
    exec (.nozzleLift p k none) s = .next (((s.moveNozzle p k true).lift p k).settle s) := by
  have hfresh : s.freshLifts p k none = [(p, k)] := by simp [State.freshLifts, hup]
  have hexec : exec (.nozzleLift p k none) s = execNozzleLift p k none s := rfl
  rw [hexec, execNozzleLift, hfresh, State.inputEvent_powered (State.powered_of_runs hr)]
  rfl

/-- Both switches of an event up. -/
def State.bothUp (s : State) (j k : Position) : State := (s.moveNozzle .a j true).moveNozzle .b k true

/-- Two lifts of one event: the lower meter number is taken first, and point A on one meter (R60, R176). -/
def State.bothLifts (s : State) (j k : Position) : State :=
  if (s.hose .b k).meter.number < (s.hose .a j).meter.number then
    ((s.bothUp j k).lift .b k).lift .a j
  else ((s.bothUp j k).lift .a j).lift .b k

theorem exec_nozzleLift_together {s : State} {j k : Position} (hr : s.runs = true) (ha : s.up .a j = false)
    (hb : s.up .b k = false) :
    exec (.nozzleLift .a j (some k)) s = .next ((s.bothLifts j k).settle s)
      ∧ exec (.nozzleLift .b k (some j)) s = .next ((s.bothLifts j k).settle s) := by
  have hp := State.powered_of_runs hr
  have hfreshA : s.freshLifts .a j (some k) = [(.a, j), (.b, k)] := by
    simp [State.freshLifts, ha, hb, Point.other]
  have hfreshB : s.freshLifts .b k (some j) = [(.b, k), (.a, j)] := by
    simp [State.freshLifts, ha, hb, Point.other]
  have hexecA : exec (.nozzleLift .a j (some k)) s = execNozzleLift .a j (some k) s := rfl
  have hexecB : exec (.nozzleLift .b k (some j)) s = execNozzleLift .b k (some j) s := rfl
  have hbothA : [(Point.a, j), (.b, k)].foldl (fun t x => t.moveNozzle x.1 x.2 true) s = s.bothUp j k := rfl
  have hbothB : [(Point.b, k), (.a, j)].foldl (fun t x => t.moveNozzle x.1 x.2 true) s = s.bothUp j k := rfl
  have horderA : (s.bothUp j k).orderLifts [(.a, j), (.b, k)] =
      if (s.hose .b k).meter.number < (s.hose .a j).meter.number then [(.b, k), (.a, j)] else [(.a, j), (.b, k)] := by
    have horder : (s.bothUp j k).orderLifts [(.a, j), (.b, k)] =
        if (s.hose .b k).meter.number < (s.hose .a j).meter.number
          ∨ ((s.hose .b k).meter.number = (s.hose .a j).meter.number ∧ Point.b = .a) then
          [(.b, k), (.a, j)] else [(.a, j), (.b, k)] := rfl
    rw [horder]
    exact if_congr (or_iff_left fun h => nomatch h.2) rfl rfl
  have horderB : (s.bothUp j k).orderLifts [(.b, k), (.a, j)] =
      if (s.hose .b k).meter.number < (s.hose .a j).meter.number then [(.b, k), (.a, j)] else [(.a, j), (.b, k)] := by
    have horder : (s.bothUp j k).orderLifts [(.b, k), (.a, j)] =
        if (s.hose .a j).meter.number < (s.hose .b k).meter.number
          ∨ ((s.hose .a j).meter.number = (s.hose .b k).meter.number ∧ Point.a = .a) then
          [(.a, j), (.b, k)] else [(.b, k), (.a, j)] := rfl
    rw [horder]
    by_cases hlt : (s.hose .b k).meter.number < (s.hose .a j).meter.number
    · rw [if_pos hlt, if_neg (by simp only [and_true]; omega)]
    · rw [if_neg hlt, if_pos (by simp only [and_true]; omega)]
  constructor
  · rw [hexecA, execNozzleLift, hfreshA, State.inputEvent_powered hp, hbothA, horderA, State.bothLifts]
    split <;> rfl
  · rw [hexecB, execNozzleLift, hfreshB, State.inputEvent_powered hp, hbothB, horderB, State.bothLifts]
    split <;> rfl

/-! ## The holder's sale -/

theorem State.HoldBegun.counter {s u : State} {p : Point} {a : Authorization} {k : Position}
    (h : s.HoldBegun u p a k) (i : Meter) : (u.channel i).counter = (s.channel i).counter := by
  by_cases hi : i = (s.hose p k).meter
  · rw [hi, h.channel]
    rfl
  · exact (h.channels i hi).counts.1

/-- What the event has begun at a point that holds a meter. -/
structure State.SaleBegun (s u : State) (p : Point) (a : Authorization) (k : Position) : Prop where
  point : u.point p = s.liftedPoint p a k (s.channel (s.hose p k).meter).counter
  held : u.dle.holders.get (s.hose p k).meter = some p
  holder : (u.channel (s.hose p k).meter).holder = some p
  snapshot : (u.channel (s.hose p k).meter).snapshot = (s.channel (s.hose p k).meter).counter
  zero : (u.side p).zero ≠ .none
  tracked : (u.pou.get p).tracked = some ((s.liftRecord p a k).seq, (s.hose p k).meter)

theorem DduSide.asked_zero (d : DduSide) : d.asked.zero ≠ .none := by
  unfold DduSide.asked
  split <;> simp

theorem State.HoldBegun.sale {s u : State} {p : Point} {a : Authorization} {k : Position} (h : s.HoldBegun u p a k) :
    s.SaleBegun u p a k where
  point := h.point
  held := by rw [h.holders]; simp
  holder := by rw [h.channel]; rfl
  snapshot := by rw [h.channel]; rfl
  zero := by
    rw [State.side, h.ddu]
    simpa using (s.side p).asked_zero
  tracked := by rw [h.pou]; rfl

/-- The sale of one point is begun by the same record where its lift is judged in a state that judges it alike. -/
theorem State.SaleBegun.of_same {s t u : State} {p : Point} {a : Authorization} {k : Position}
    (h : t.SaleBegun u p a k) (hsame : s.SameLift t p k)
    (hc : (t.channel (s.hose p k).meter).counter = (s.channel (s.hose p k).meter).counter) : s.SaleBegun u p a k where
  point := by rw [h.point, hsame.hose, hsame.liftedPoint, hc]
  held := by rw [← hsame.hose]; exact h.held
  holder := by rw [← hsame.hose]; exact h.holder
  snapshot := by rw [← hc, ← hsame.hose]; exact h.snapshot
  zero := h.zero
  tracked := by rw [← hsame.hose, ← hsame.liftRecord]; exact h.tracked

/-- A later lift of the other point, of another meter, leaves the sale as it was begun. -/
theorem State.SaleBegun.keeps {s t u : State} {p : Point} {a b : Authorization} {j k : Position}
    (h : s.SaleBegun t p a j) (h' : t.HoldBegun u p.other b k)
    (hne : (s.hose p j).meter ≠ (t.hose p.other k).meter) : s.SaleBegun u p a j := by
  have hother := Point.other_other p
  have hpo := (Point.other_ne p).symm
  have hzero : (t.point p).zeroPassed = false := by rw [h.point]; rfl
  obtain ⟨hpoint, hpou, -⟩ := h'.other (by simp [hother, hzero])
  rw [hother] at hpoint hpou
  obtain ⟨-, -, hsnapshot, hholder, -⟩ := (h'.channels _ hne).counts
  refine ⟨hpoint.trans h.point, ?_, ?_, ?_, ?_, ?_⟩
  · rw [h'.holders]
    simpa [hne] using h.held
  · rw [hholder, h.holder]
  · rw [hsnapshot, h.snapshot]
  · rw [State.side, h'.ddu]
    simpa [hpo, State.side] using h.zero
  · rw [hpou, h.tracked]

/-- A lift of the other point is judged alike after a holder's lift of the same event. -/
theorem State.HoldBegun.sameLift {s u : State} {p : Point} {a : Authorization} {j : Position}
    (h : s.HoldBegun u p a j) (hst : (s.point p.other).st = .authorized) (k : Position) :
    s.SameLift u p.other k := by
  obtain ⟨hpoint, -⟩ := h.other (by simp [hst])
  obtain ⟨-, hpins, hptu, -⟩ := h.blocks
  have hpo := Point.other_ne p
  have hlatches : ∀ i, (u.channel i).record = (s.channel i).record ∧ (u.channel i).fault = (s.channel i).fault
      ∧ (u.channel i).valveFault = (s.channel i).valveFault := by
    intro i
    by_cases hi : i = (s.hose p j).meter
    · rw [hi, h.channel]
      exact ⟨rfl, rfl, rfl⟩
    · obtain ⟨hrecord, -, -, -, hfault, hvalve⟩ := (h.channels i hi).latches
      exact ⟨hrecord, hfault, hvalve⟩
  refine ⟨hpoint, h.tables, hptu, by rw [h.psc], ?_, (hlatches _).1, (hlatches _).2, fun i _ => by rw [State.up, hpins]; rfl⟩
  rw [State.side, h.ddu]
  simp [hpo, State.side]

end Sys2Proof.Machine
end

section
/-! PROOFS. The statement about an accepted lift: the waiter, both points of one event, and the whole statement. -/

namespace Sys2Proof.Machine

/-! ## The end of the event -/

/-- A commit moves the retained memory alone (R97). -/
theorem State.commit_eq (s : State) : s.commit = { s with rtm := s.commit.rtm } := by
  have hconfig : s.commitConfig = { s with rtm := s.commitConfig.rtm } := by
    unfold State.commitConfig
    split <;> rfl
  have hdeliveries (u : State) : u.commitDeliveries = { u with rtm := u.commitDeliveries.rtm } := by
    unfold State.commitDeliveries
    split <;> rfl
  rw [State.commit, hdeliveries]
  generalize s.commitConfig.commitDeliveries.rtm = r
  rw [hconfig]

/-! ## A waiter (R58) -/

/-- What an accepted lift leaves where the meter has a holder: the point's record is begun and the point waits. -/
structure State.WaitBegun (s u : State) (p : Point) (a : Authorization) (k : Position) (h : Point) : Prop where
  point : u.point p = s.liftedPoint p a k 0
  other : u.point p.other = s.point p.other
  hlp : u.hlp = (s.post (.point p) (.meterWait (s.hose p k).meter h)).hlp
  rest : { u with hlp := s.hlp, points := s.points, rtm := s.rtm } =
    { s with dle := { s.dle with waiters := s.dle.waiters.set (s.hose p k).meter (some p) } }

theorem State.acceptLift_waits {s : State} {p h : Point} {k : Position}
    (hheld : s.dle.holders.get (s.hose p k).meter = some h) (a : Authorization) :
    s.WaitBegun (s.acceptLift p a k) p a k h := by
  have hclaim : s.acceptLift p a k = State.post { s.recordBegun p a k with dle := { s.dle with
      waiters := s.dle.waiters.set (s.hose p k).meter (some p) } } (.point p) (.meterWait (s.hose p k).meter h) := by
    have hheld' : (s.recordBegun p a k).dle.holders.get (s.hose p k).meter = some h := hheld
    rw [State.acceptLift_eq, State.claim, hheld']
    rfl
  have hpo := Point.other_ne p
  rw [hclaim]
  refine ⟨?_, ?_, rfl, rfl⟩
  · simp [State.recordBegun, State.point]
  · simp [State.recordBegun, State.point, hpo]

/-- The blocks that a waiter's lift leaves as they were. -/
theorem State.WaitBegun.frame {s u : State} {p h : Point} {a : Authorization} {k : Position}
    (hw : s.WaitBegun u p a k h) :
    u.now = s.now ∧ u.pins = s.pins ∧ u.miu = s.miu ∧ u.pou = s.pou ∧ u.ddu = s.ddu ∧ u.display = s.display
      ∧ u.crg = s.crg ∧ u.psc = s.psc
      ∧ u.dle = { s.dle with waiters := s.dle.waiters.set (s.hose p k).meter (some p) } := by
  have hrest := hw.rest
  simp only [State.mk.injEq] at hrest
  obtain ⟨hnow, -, hpins, -, hmiu, hdle, -, -, hpou, hddu, hdisplay, hcrg, hpsc, -⟩ := hrest
  exact ⟨hnow, hpins, hmiu, hpou, hddu, hdisplay, hcrg, hpsc, hdle⟩

theorem State.WaitBegun.selling {s u : State} {p h : Point} {a : Authorization} {k : Position}
    (hw : s.WaitBegun u p a k h) (q : Point) (hq : (s.point q).st.selling = true) : (u.point q).st.selling = true := by
  by_cases hqp : q = p
  · rw [hqp, hw.point]
    rfl
  · have hqo := Point.eq_other_of_ne hqp
    rw [hqo, hw.other, ← hqo, hq]

/-! ## Two lifts in one event (R60) -/

/-- What two accepted lifts of one event leave, each a sale of its own meter. -/
structure State.SalesBegun (s u : State) (p : Point) (a b : Authorization) (j k : Position) : Prop where
  first : s.SaleBegun u p a j
  second : s.SaleBegun u p.other b k
  waiters : u.dle.waiters = s.dle.waiters
  psc : u.psc = { s.psc with startQueue := u.psc.startQueue, lastGrant := u.psc.lastGrant }
  blocks : u.now = s.now ∧ u.pins = s.pins ∧ u.display = s.display ∧ u.crg = s.crg
  selling : ∀ q, (s.point q).st.selling = true → (u.point q).st.selling = true
  counter : ∀ i, (u.channel i).counter = (s.channel i).counter

/-- The demands of a lift that the claims of this statement name: an authorized point, a lift that no test refuses, and a
side that refreshes without fault. -/
structure State.Liftable (s : State) (p : Point) (a : Authorization) (k : Position) : Prop where
  st : (s.point p).st = .authorized
  auth : (s.point p).auth = some a
  accepted : s.liftRefusal p a k = none
  refreshing : s.refreshing p = true
  sound : (s.side p).sideFault = false

namespace State.Liftable

variable {s t : State} {p : Point} {a b : Authorization} {j k : Position}

theorem congr (h : s.Liftable p a k) (hsame : s.SameLift t p k) (hd : t.psc.drives = s.psc.drives) :
    t.Liftable p a k where
  st := by rw [hsame.point, h.st]
  auth := by rw [hsame.point, h.auth]
  accepted := by rw [hsame.liftRefusal, h.accepted]
  refreshing := by rw [State.refreshing_congr hd (by rw [hsame.side]), h.refreshing]
  sound := by rw [hsame.side, h.sound]

theorem holdBegun (h : s.Liftable p a k) (hfree : s.dle.holders.get (s.hose p k).meter = none) :
    s.HoldBegun (s.lift p k) p a k := by
  rw [State.lift_accepted h.st h.auth h.accepted]
  exact State.acceptLift_free hfree h.refreshing h.sound

/-- Two lifts of free meters that differ make both points holders (R60, R61). -/
theorem salesBegun (h : s.Liftable p a j) (h' : s.Liftable p.other b k)
    (hfree : s.dle.holders.get (s.hose p j).meter = none) (hfree' : s.dle.holders.get (s.hose p.other k).meter = none)
    (hne : (s.hose p j).meter ≠ (s.hose p.other k).meter) :
    s.SalesBegun ((s.lift p j).lift p.other k) p a b j k := by
  have hfirst := h.holdBegun hfree
  generalize s.lift p j = u at hfirst ⊢
  have hsame := hfirst.sameLift h'.st k
  have hne' : (s.hose p.other k).meter ≠ (s.hose p j).meter := hne.symm
  have hsecond : u.HoldBegun (u.lift p.other k) p.other b k := by
    refine (h'.congr hsame (by rw [hfirst.psc])).holdBegun ?_
    rw [hsame.hose, hfirst.holders]
    simpa [hne'] using hfree'
  generalize u.lift p.other k = v at hsecond ⊢
  obtain ⟨hnow, hpins, -, hdisplay, hcrg⟩ := hfirst.blocks
  obtain ⟨hnow', hpins', -, hdisplay', hcrg'⟩ := hsecond.blocks
  exact {
    first := hfirst.sale.keeps hsecond (by rwa [hsame.hose])
    second := hsecond.sale.of_same hsame (hfirst.counter _)
    waiters := hsecond.waiters.trans hfirst.waiters
    psc := by rw [hsecond.psc, hfirst.psc]
    blocks := ⟨hnow'.trans hnow, hpins'.trans hpins, hdisplay'.trans hdisplay, hcrg'.trans hcrg⟩
    selling := fun q hq => hsecond.selling q (hfirst.selling q hq)
    counter := fun i => (hsecond.counter i).trans (hfirst.counter i) }

end State.Liftable

/-- What two lifts of nozzles of one free meter leave: the first point's sale, and the other point waiting for it. -/
structure State.SaleAndWait (s u : State) (p : Point) (a b : Authorization) (j k : Position) : Prop where
  first : s.SaleBegun u p a j
  second : u.point p.other = s.liftedPoint p.other b k 0
  motor : s.motorDemanded u (s.hose p j).meter
  waiters : u.dle.waiters = s.dle.waiters.set (s.hose p j).meter (some p.other)
  side : u.side p.other = s.side p.other ∧ u.pou.get p.other = s.pou.get p.other
  hlp : u.hlp = (s.post (.point p.other) (.meterWait (s.hose p j).meter p)).hlp
  psc : u.psc = { s.psc with startQueue := u.psc.startQueue, lastGrant := u.psc.lastGrant }
  blocks : u.now = s.now ∧ u.pins = s.pins ∧ u.display = s.display ∧ u.crg = s.crg
  selling : ∀ q, (s.point q).st.selling = true → (u.point q).st.selling = true
  counter : ∀ i, (u.channel i).counter = (s.channel i).counter

theorem State.Liftable.saleAndWait {s : State} {p : Point} {a b : Authorization} {j k : Position}
    (h : s.Liftable p a j) (h' : s.Liftable p.other b k) (hfree : s.dle.holders.get (s.hose p j).meter = none)
    (heq : (s.hose p.other k).meter = (s.hose p j).meter) :
    s.SaleAndWait ((s.lift p j).lift p.other k) p a b j k := by
  have hfirst := h.holdBegun hfree
  generalize s.lift p j = u at hfirst ⊢
  have hsame := hfirst.sameLift h'.st k
  have hhose : (u.hose p.other k).meter = (s.hose p j).meter := by rw [hsame.hose, heq]
  have hwait : u.WaitBegun (u.lift p.other k) p.other b k p := by
    rw [hsame.lift_accepted h'.st h'.auth h'.accepted]
    exact State.acceptLift_waits (by rw [hhose, hfirst.holders]; simp) b
  generalize u.lift p.other k = v at hwait ⊢
  obtain ⟨hnow, hpins, -, hdisplay, hcrg⟩ := hfirst.blocks
  obtain ⟨hnow', hpins', hmiu', hpou', hddu', hdisplay', hcrg', hpsc', hdle'⟩ := hwait.frame
  have hchannel (i : Meter) : v.channel i = u.channel i := by rw [State.channel, hmiu']; rfl
  have hside (q : Point) : v.side q = u.side q := by rw [State.side, hddu']; rfl
  have hother := Point.other_other p
  have hpo := Point.other_ne p
  obtain ⟨-, hpou, hhlp⟩ := hfirst.other (by simp [h'.st])
  have hpoint := hwait.other
  rw [hother] at hpoint
  have hsale := hfirst.sale
  have hstamp : u.stamp = s.stamp := hsame.clock
  refine ⟨⟨?_, ?_, ?_, ?_, ?_, ?_⟩, ?_, ?_, ?_, ⟨?_, ?_⟩, ?_, ?_, ?_, fun q hq => ?_, fun i => ?_⟩
  · exact hpoint.trans hsale.point
  · rw [hdle']
    exact hsale.held
  · rw [hchannel, hsale.holder]
  · rw [hchannel, hsale.snapshot]
  · rw [hside]
    exact hsale.zero
  · rw [hpou', hsale.tracked]
  · rw [hwait.point, hsame.liftedPoint]
  · exact (State.motorDemanded_congr rfl rfl (by rw [hdle']) hpsc' hnow').2 hfirst.motor
  · rw [hdle', hhose, hfirst.waiters]
  · rw [hside, State.side, hfirst.ddu]
    simp [hpo, State.side]
  · rw [hpou', hpou]
  · rw [hwait.hlp, hhose, State.post, State.post, hstamp, hhlp]
  · rw [hpsc', hfirst.psc]
  · exact ⟨hnow'.trans hnow, hpins'.trans hpins, hdisplay'.trans hdisplay, hcrg'.trans hcrg⟩
  · exact hwait.selling q (hfirst.selling q hq)
  · rw [hchannel, hfirst.counter]

/-! ## The statement -/

theorem State.SameLift.alone (s : State) (p : Point) (k : Position) : s.SameLift (s.moveNozzle p k true) p k :=
  .moveNozzle s p p k k fun _ => rfl

theorem State.SameLift.bothUp (s : State) (j k : Position) :
    s.SameLift (s.bothUp j k) .a j ∧ s.SameLift (s.bothUp j k) .b k :=
  ⟨(State.SameLift.moveNozzle s .a .a j j fun _ => rfl).trans (.moveNozzle _ .a .b k j fun h => nomatch h),
    (State.SameLift.moveNozzle s .b .a j k fun h => nomatch h).trans (.moveNozzle _ .b .b k k fun _ => rfl)⟩

/-- The record of a lift by the generation and the hose entry that it finds (R23, R52). -/
theorem State.liftRecord_of_find {s : State} {p : Point} {k : Position} {a : Authorization} {g : Generation}
    (h : s.ptu.find (s.point p).generation = some g) :
    s.liftRecord p a k = beginRecord (s.point p) a k (s.hose p k) (g.table.get (s.hose p k).grade)
      (s.channel (s.hose p k).meter).record.q s.dle.rounding (s.dle.timings.get p) s.psc.clock := by
  simp only [State.liftRecord, Ptu.entry, h, State.stamp]

/-- The two lifts of one event, of free meters that differ: both sales stand whichever is taken first (R60). -/
theorem State.bothLifts_sales {s : State} {a b : Authorization} {j k : Position} (ha : s.Liftable .a a j)
    (hb : s.Liftable .b b k) (hfree : s.dle.holders.get (s.hose .a j).meter = none)
    (hfree' : s.dle.holders.get (s.hose .b k).meter = none) (hne : (s.hose .b k).meter ≠ (s.hose .a j).meter) :
    (s.bothUp j k).SalesBegun (s.bothLifts j k) .a a b j k := by
  have ha' : (s.bothUp j k).Liftable .a a j := ha.congr (State.SameLift.bothUp s j k).1 rfl
  have hb' : (s.bothUp j k).Liftable .b b k := hb.congr (State.SameLift.bothUp s j k).2 rfl
  rw [State.bothLifts]
  split
  · have hsales := State.Liftable.salesBegun (p := .b) hb' ha' hfree' hfree hne
    exact { hsales with first := hsales.second, second := hsales.first }
  · exact State.Liftable.salesBegun (p := .a) ha' hb' hfree hfree' hne.symm

theorem State.bothLifts_wait {s : State} {a b : Authorization} {j k : Position} (ha : s.Liftable .a a j)
    (hb : s.Liftable .b b k) (hfree : s.dle.holders.get (s.hose .a j).meter = none)
    (heq : (s.hose .b k).meter = (s.hose .a j).meter) :
    (s.bothUp j k).SaleAndWait (s.bothLifts j k) .a a b j k := by
  have ha' : (s.bothUp j k).Liftable .a a j := ha.congr (State.SameLift.bothUp s j k).1 rfl
  have hb' : (s.bothUp j k).Liftable .b b k := hb.congr (State.SameLift.bothUp s j k).2 rfl
  rw [State.bothLifts, if_neg (by rw [heq]; exact lt_irrefl _)]
  exact State.Liftable.saleAndWait (p := .a) ha' hb' hfree heq

/-- Settles O25: a lift alone of a free meter's nozzle and of a held one, the record it begins, and two lifts of one
event. -/
theorem liftAcceptedHoldsMeter : Obligations.LiftAcceptedHoldsMeter := by
  refine ⟨fun s p k a hr hup hst hauth haccepted hfree _ hon hgood => ?_,
    fun s p k a hr hup hst hauth haccepted hheld => ?_, fun s p k a g hg => ?_,
    fun s j k a b hr hupA hupB hstA hauthA hacceptedA hstB hauthB hacceptedB honA hgoodA honB hgoodB => ?_⟩
  · have hlift : s.Liftable p a k := ⟨hst, hauth, haccepted, hon, hgood⟩
    have h := (hlift.congr (.alone s p k) rfl).holdBegun hfree
    have hsale := h.sale
    obtain ⟨hnow, hpins, -, hdisplay, hcrg⟩ := h.blocks
    dsimp only
    rw [exec_nozzleLift_alone hr hup, State.settle_eq_commit hr hcrg h.psc h.selling]
    generalize (s.moveNozzle p k true).lift p k = u at h hsale hnow hpins hdisplay ⊢
    refine ⟨_, rfl, ?_⟩
    have hchannel : u.channel (s.hose p k).meter = (s.channel (s.hose p k).meter).hold p (s.liftRecord p a k).nSlow
        (s.liftRecord p a k).nStop := h.channel
    simp only [State.commit_point, State.commit_channel, State.commit_frame, State.side, h.point, hchannel, h.pou]
    refine ⟨rfl, rfl, hauth, rfl, rfl, rfl, rfl, rfl, hsale.held, hsale.zero, ?_, rfl, rfl, rfl, rfl, rfl, rfl,
      fun i hi => ⟨h.counter i, ?_, ?_⟩, rfl, rfl, rfl, rfl, hpins, hdisplay, hnow⟩
    · exact (State.motorDemanded_congr rfl rfl (by simp) (by simp) (by simp)).2 h.motor
    · obtain ⟨-, -, -, hholder, -⟩ := (h.channels i hi).counts
      exact hholder
    · rw [h.holders]
      have hi' : i ≠ ((s.moveNozzle p k true).hose p k).meter := hi
      simp only [Quad.get_set, if_neg hi']
      rfl
  · have hsame := State.SameLift.alone s p k
    have hwait := State.acceptLift_waits (s := s.moveNozzle p k true) (p := p) (k := k) hheld a
    rw [← hsame.lift_accepted hst hauth haccepted] at hwait
    obtain ⟨hnow, hpins, hmiu, hpou, hddu, hdisplay, hcrg, hpsc, hdle⟩ := hwait.frame
    dsimp only
    rw [exec_nozzleLift_alone hr hup, State.settle_eq_commit hr hcrg (by rw [hpsc]; rfl) hwait.selling]
    generalize (s.moveNozzle p k true).lift p k = u at hwait ⊢
    refine ⟨_, rfl, ?_, ?_, ?_, ?_⟩
    · rw [State.commit_point, hwait.point, hsame.liftedPoint]
      rfl
    · have hhlp : u.commit.hlp = u.hlp := by simp
      exact hhlp.trans hwait.hlp
    · rw [State.commit_point, hwait.other]
      rfl
    · rw [State.commit_eq]
      exact hwait.rest
  · dsimp only
    rw [State.liftRecord_of_find hg]
    cases hlevel : a.level <;> simp only [beginRecord, hlevel, GradeEntry.price] <;> rfl
  · intro m n hfree hfree' q r taken
    have ha : s.Liftable .a a j := ⟨hstA, hauthA, hacceptedA, honA, hgoodA⟩
    have hb : s.Liftable .b b k := ⟨hstB, hauthB, hacceptedB, honB, hgoodB⟩
    obtain ⟨hexecA, hexecB⟩ := exec_nozzleLift_together hr hupA hupB
    obtain ⟨t, ht, htaken⟩ : ∃ t, (s.bothLifts j k).settle s = t ∧ taken t := by
      by_cases heq : n = m
      · have h := State.bothLifts_wait ha hb hfree heq
        obtain ⟨hnow, hpins, hdisplay, hcrg⟩ := h.blocks
        refine ⟨_, State.settle_eq_commit hr hcrg h.psc h.selling, ?_⟩
        generalize s.bothLifts j k = u at h hnow hpins hdisplay
        have hsale := h.first
        have hmotor : s.motorDemanded u.commit m :=
          (State.motorDemanded_congr rfl rfl (by simp) (by simp) (by simp)).2 h.motor
        have hpoint : u.point .b = (s.bothUp j k).liftedPoint .b b k 0 := h.second
        simp only [taken, State.commit_point, State.commit_channel, State.commit_frame, State.side, hsale.point, hpoint]
        exact ⟨rfl, rfl, rfl, hauthA, hsale.held, hsale.holder, hsale.snapshot, hsale.zero, hsale.tracked, rfl, rfl,
          hauthB, fun _ => ⟨hmotor, h.waiters, rfl, h.side.1, h.side.2, h.hlp⟩, fun hne => absurd heq hne, hpins,
          hdisplay, hnow, h.counter⟩
      · have h := State.bothLifts_sales ha hb hfree hfree' heq
        obtain ⟨hnow, hpins, hdisplay, hcrg⟩ := h.blocks
        refine ⟨_, State.settle_eq_commit hr hcrg h.psc h.selling, ?_⟩
        generalize s.bothLifts j k = u at h hnow hpins hdisplay
        have hsale := h.first
        have hother : (s.bothUp j k).SaleBegun u .b b k := h.second
        simp only [taken, State.commit_point, State.commit_channel, State.commit_frame, State.side, hsale.point,
          hother.point]
        exact ⟨rfl, rfl, rfl, hauthA, hsale.held, hsale.holder, hsale.snapshot, hsale.zero, hsale.tracked, rfl, rfl,
          hauthB, fun h => absurd h heq, fun _ => ⟨hother.held, h.waiters, rfl, hother.holder, hother.snapshot,
            hother.zero, hother.tracked⟩, hpins, hdisplay, hnow, h.counter⟩
    rw [hexecA, hexecB, ht]
    exact ⟨⟨t, rfl, htaken⟩, t, rfl, htaken⟩

end Sys2Proof.Machine
end

section
/-! PROOFS. A start's recovery of a point's sales and the writes that it begins (R101 to R104). -/

namespace Sys2Proof.Machine

/-! ## Recovery of one point -/

/-- A step of a point's recovery: it adds to the additions and to the reports, one report at most, and sets no other
point's mark (R102, R103). -/
structure Recovery.Adds (p : Point) (x y : Recovery) : Prop where
  marks : ∀ q, q ≠ p → y.totals.marks.get q = x.totals.marks.get q
  reports : x.reports ⊆ y.reports
  after : x.after ⊆ y.after
  length : y.reports.length ≤ x.reports.length + 1

/-- An addition sets the mark of its own point alone (R94). -/
theorem Totals.add_marks (t : Totals) (x : Addition) {q : Point} (h : q ≠ x.point) :
    (t.add x).marks.get q = t.marks.get q := by
  unfold Totals.add
  (repeat' split) <;> simp [h]

namespace Recovery

variable {x : Recovery} {p : Point} {r : DeliveryRecord}

theorem Adds.refl (x : Recovery) (p : Point) : Adds p x x := ⟨fun _ _ => rfl, .refl _, .refl _, Nat.le_succ _⟩

theorem addCurrent_cases (x : Recovery) (p : Point) (r : DeliveryRecord) :
    (x.totals.marks.get p = some r.seq ∧ x.addCurrent p r = x)
      ∨ (x.totals.marks.get p ≠ some r.seq ∧ x.addCurrent p r =
        { x with totals := x.totals.add (additionOf p r), after := x.after ++ [additionOf p r] }) := by
  unfold addCurrent
  split
  · exact .inl ⟨‹_›, rfl⟩
  · exact .inr ⟨‹_›, rfl⟩

/-- The addition of a current record, and its report, whatever becomes of the retained part. -/
theorem Adds.current (x : Recovery) (p : Point) (r : DeliveryRecord) (saved : SavedPoint) :
    Adds p x { x.addCurrent p r with saved := saved, reports := x.reports ++ [r] } := by
  obtain ⟨-, h⟩ | ⟨-, h⟩ := x.addCurrent_cases p r <;> rw [h]
  · exact ⟨fun _ _ => rfl, List.subset_append_left _ _, .refl _, by simp⟩
  · exact ⟨fun q hq => Totals.add_marks _ _ hq, List.subset_append_left _ _, List.subset_append_left _ _, by simp⟩

theorem Adds.examinePrevious (x : Recovery) (p : Point) :
    Adds p x (x.examinePrevious p) ∧ (x.examinePrevious p).saved = x.saved := by
  unfold Recovery.examinePrevious
  split
  · split
    · exact ⟨⟨fun q hq => Totals.add_marks _ _ hq, List.subset_append_left _ _, .refl _, by simp⟩, rfl⟩
    · exact ⟨.refl x p, rfl⟩
  · exact ⟨.refl x p, rfl⟩

theorem Adds.finishInterrupted (x : Recovery) (p : Point) : Adds p x (x.finishInterrupted p) := by
  unfold Recovery.finishInterrupted
  split
  · exact .refl x p
  · split
    · exact .refl x p
    · split
      · exact ⟨fun _ _ => rfl, .refl _, .refl _, Nat.le_succ _⟩
      · exact .current x p _ _

theorem Adds.examineCurrent (x : Recovery) (p : Point) :
    Adds p x (x.examineCurrent p) ∧ (x.examineCurrent p).saved = x.saved
      ∧ (x.examineCurrent p).before = x.before := by
  unfold Recovery.examineCurrent
  split
  · exact ⟨.refl x p, rfl, rfl⟩
  · rename_i r hr
    split
    · obtain ⟨-, h⟩ | ⟨-, h⟩ := x.addCurrent_cases p r <;>
        exact ⟨.current x p r (x.addCurrent p r).saved, by rw [h], by rw [h]⟩
    · exact ⟨.refl x p, rfl, rfl⟩

theorem finishInterrupted_before (x : Recovery) (p : Point) : (x.finishInterrupted p).before = x.before := by
  unfold Recovery.finishInterrupted
  split
  · rfl
  · split
    · rfl
    · split
      · rfl
      · dsimp only
        rename_i r _ _ _
        obtain ⟨-, h⟩ | ⟨-, h⟩ := x.addCurrent_cases p (r.recovered x.saved.figuresAt) <;> rw [h]

/-- A start finds a point's retained part, with nothing added yet. -/
def found (saved : SavedPoint) (t : Totals) : Recovery := ⟨saved, t, [], [], []⟩

/-- The recovery of a point before its current record is looked at: the previous record where TOTALS is OLDER (R103). -/
def examined (p : Point) (saved : SavedPoint) (t : Totals) (vt : Validity) : Recovery :=
  if vt = .older then (found saved t).examinePrevious p else found saved t

theorem examined_adds (p : Point) (saved : SavedPoint) (t : Totals) (vt : Validity) :
    Adds p (found saved t) (examined p saved t vt) ∧ (examined p saved t vt).saved = saved := by
  unfold examined
  split
  · exact Adds.examinePrevious _ p
  · exact ⟨.refl _ p, rfl⟩

theorem restarted_false (x : Recovery) : x.restarted false = x := by
  unfold restarted
  split <;> rfl

end Recovery

section
variable {p : Point} {saved : SavedPoint} {t : Totals} {vt vd : Validity} {r : DeliveryRecord}

/-- A power-on start's recovery of a point, where DELIVERIES is not DEFAULTED (R102, R103). -/
theorem recoverPoint_eq (hvd : vd ≠ .defaulted) : recoverPoint p saved t vt vd false =
    if vt = .defaulted then (Recovery.examined p saved t vt).finishInterrupted p
    else ((Recovery.examined p saved t vt).finishInterrupted p).examineCurrent p := by
  unfold recoverPoint
  dsimp only
  rw [if_neg hvd, Recovery.restarted_false]
  rfl

/-- The last step of a recovery keeps the retained part that its step before has left. -/
theorem recoverPoint_finished (hvd : vd ≠ .defaulted) :
    ((Recovery.examined p saved t vt).finishInterrupted p).Adds p (recoverPoint p saved t vt vd false)
      ∧ (recoverPoint p saved t vt vd false).saved = ((Recovery.examined p saved t vt).finishInterrupted p).saved
      ∧ (recoverPoint p saved t vt vd false).before =
        ((Recovery.examined p saved t vt).finishInterrupted p).before := by
  rw [recoverPoint_eq hvd]
  split
  · exact ⟨.refl _ p, rfl, rfl⟩
  · exact Recovery.Adds.examineCurrent _ p

/-- A recovery sets no other point's mark and makes three reports at most (R102 to R104). -/
theorem recoverPoint_bounds (p : Point) (saved : SavedPoint) (t : Totals) (vt vd : Validity) :
    (∀ q, q ≠ p → (recoverPoint p saved t vt vd false).totals.marks.get q = t.marks.get q)
      ∧ (recoverPoint p saved t vt vd false).reports.length ≤ 3
      ∧ (vt ≠ .older → (recoverPoint p saved t vt vd false).before = []) := by
  by_cases hvd : vd = .defaulted
  · have hfound : recoverPoint p saved t vt vd false = Recovery.found saved t := by
      unfold recoverPoint
      exact if_pos hvd
    rw [hfound]
    exact ⟨fun _ _ => rfl, by simp [Recovery.found], fun _ => rfl⟩
  · obtain ⟨hlast, -, hbefore⟩ := recoverPoint_finished (p := p) (saved := saved) (t := t) (vt := vt) hvd
    have hmid := Recovery.Adds.finishInterrupted (Recovery.examined p saved t vt) p
    have hfirst := (Recovery.examined_adds p saved t vt).1
    refine ⟨fun q hq => (hlast.marks q hq).trans ((hmid.marks q hq).trans (hfirst.marks q hq)), ?_, fun hold => ?_⟩
    · have h1 := hfirst.length
      have h2 := hmid.length
      have h3 := hlast.length
      have h0 : (Recovery.found saved t).reports.length = 0 := rfl
      omega
    · rw [hbefore, Recovery.finishInterrupted_before, Recovery.examined, if_neg hold]
      rfl

/-- An interrupted delivery is finalized from its retained figures, reported, and added where the point's mark does not
hold its number (R102). -/
theorem recoverPoint_interrupted (hvd : vd ≠ .defaulted) (hr : saved.current = some r) (hfinal : r.final = false)
    (hst : saved.st ≠ .settled) :
    (recoverPoint p saved t vt vd false).saved.current = some (r.recovered saved.figuresAt)
      ∧ r.recovered saved.figuresAt ∈ (recoverPoint p saved t vt vd false).reports
      ∧ (vt ≠ .older → t.marks.get p ≠ some r.seq →
        additionOf p (r.recovered saved.figuresAt) ∈ (recoverPoint p saved t vt vd false).after) := by
  obtain ⟨hlast, hsaved, -⟩ := recoverPoint_finished (p := p) (saved := saved) (t := t) (vt := vt) hvd
  have hexamined := (Recovery.examined_adds p saved t vt).2
  have hfinish : (Recovery.examined p saved t vt).finishInterrupted p =
      { (Recovery.examined p saved t vt).addCurrent p (r.recovered saved.figuresAt) with
        saved := { saved with current := some (r.recovered saved.figuresAt), st := .settled, held := true }
        reports := (Recovery.examined p saved t vt).reports ++ [r.recovered saved.figuresAt] } := by
    unfold Recovery.finishInterrupted
    rw [hexamined, hr]
    simp only [hfinal, hst, Bool.false_eq_true, if_false]
  rw [hfinish] at hlast hsaved
  refine ⟨by rw [hsaved], hlast.reports (by simp), fun hold hmark => hlast.after ?_⟩
  obtain ⟨h, -⟩ | ⟨-, h⟩ :=
    (Recovery.examined p saved t vt).addCurrent_cases p (r.recovered saved.figuresAt)
  · rw [Recovery.examined, if_neg hold] at h
    exact absurd h hmark
  · rw [h]
    simp

/-- A record begun and not held is discarded (R102). -/
theorem recoverPoint_begun (hvd : vd ≠ .defaulted) (hr : saved.current = some r) (hfinal : r.final = false)
    (hst : saved.st = .settled) : (recoverPoint p saved t vt vd false).saved.current = none := by
  obtain ⟨-, hsaved, -⟩ := recoverPoint_finished (p := p) (saved := saved) (t := t) (vt := vt) hvd
  have hexamined := (Recovery.examined_adds p saved t vt).2
  rw [hsaved]
  unfold Recovery.finishInterrupted
  rw [hexamined, hr]
  simp [hfinal, hst]

/-- A final record whose number is not the point's mark is reported and added again (R103). -/
theorem recoverPoint_final (hvd : vd ≠ .defaulted) (hvt : vt = .good) (hr : saved.current = some r)
    (hfinal : r.final = true) (hmark : t.marks.get p ≠ some r.seq) :
    r ∈ (recoverPoint p saved t vt vd false).reports
      ∧ additionOf p r ∈ (recoverPoint p saved t vt vd false).after := by
  have hfinish : (Recovery.examined p saved t vt).finishInterrupted p = Recovery.found saved t := by
    rw [Recovery.examined, if_neg (by rw [hvt]; decide)]
    unfold Recovery.finishInterrupted
    simp only [Recovery.found, hr, hfinal, if_true]
  have hexamine : (Recovery.found saved t).examineCurrent p =
      { (Recovery.found saved t).addCurrent p r with reports := (Recovery.found saved t).reports ++ [r] } := by
    unfold Recovery.examineCurrent
    simp only [Recovery.found, hr, hfinal, true_and]
    exact if_pos hmark
  rw [recoverPoint_eq hvd, if_neg (by rw [hvt]; decide), hfinish, hexamine]
  obtain ⟨h, -⟩ | ⟨-, h⟩ := (Recovery.found saved t).addCurrent_cases p r
  · exact absurd h hmark
  · rw [h]
    simp

end

/-! ## The writes that a start begins (R97, R102 to R104) -/

/-- Of the retained memory, nothing moved but the writes of TOTALS and DELIVERIES and the additions that wait. -/
def Rtm.WritesOnly (r t : Rtm) : Prop :=
  t = { r with
    totals := { r.totals with inFlight := t.totals.inFlight, held := t.totals.held }
    deliveries := { r.deliveries with inFlight := t.deliveries.inFlight, held := t.deliveries.held }
    owed := t.owed, carried := t.carried, unwritten := t.unwritten }

/-- No addition is owed and no change is held or carried while no write is in flight. -/
def Rtm.Prompt (r : Rtm) : Prop :=
  r.totals.inFlight = none → r.owed = []
    ∧ (r.deliveries.inFlight = none → r.deliveries.held = false ∧ r.carried = [] ∧ r.unwritten = [])

/-- The writes of a start, with the content of DELIVERIES as the blocks hold it (R102 to R104). -/
def Rtm.startWrites (r : Rtm) (found finished : DeliveriesImage) (before after : List Addition)
    (image : DeliveriesImage) : Rtm :=
  let r := { r with owed := before }.pumpTotals
  let r := if finished = found then { r with owed := r.owed ++ after }.pumpTotals
    else { r with unwritten := after }.takeDeliveries finished
  if image = finished then r else r.takeDeliveries image

theorem State.writeRecovered_eq (s : State) (found finished : DeliveriesImage) (before after : List Addition) :
    s.writeRecovered found finished before after =
      s.mapRtm (·.startWrites found finished before after s.deliveriesImage) := by
  by_cases h : s.deliveriesImage = finished
  · refine (if_pos h).trans ?_
    simp only [Rtm.startWrites, if_pos h]
    rfl
  · refine (if_neg h).trans ?_
    simp only [Rtm.startWrites, if_neg h]
    rfl

namespace Rtm.WritesOnly

variable {r t u : Rtm}

theorem refl (r : Rtm) : r.WritesOnly r := rfl

theorem trans (h : r.WritesOnly t) (k : t.WritesOnly u) : r.WritesOnly u := by
  rw [WritesOnly] at h k ⊢
  rw [k, h]

theorem additions (r : Rtm) (owed carried unwritten : List Addition) :
    r.WritesOnly { r with owed := owed, carried := carried, unwritten := unwritten } := rfl

theorem pumpTotals (r : Rtm) : r.WritesOnly r.pumpTotals := by
  unfold Rtm.pumpTotals
  split <;> rfl

theorem takeDeliveries (r : Rtm) (image : DeliveriesImage) : r.WritesOnly (r.takeDeliveries image) := by
  obtain ⟨-, -, -, h⟩ | ⟨-, h⟩ := r.takeDeliveries_cases image <;> rw [h] <;> rfl

theorem startWrites (r : Rtm) (found finished : DeliveriesImage) (before after : List Addition)
    (image : DeliveriesImage) : r.WritesOnly (r.startWrites found finished before after image) := by
  have hbefore : r.WritesOnly { r with owed := before }.pumpTotals := (additions r _ _ _).trans (.pumpTotals _)
  unfold Rtm.startWrites
  dsimp only
  generalize { r with owed := before }.pumpTotals = u at hbefore ⊢
  have hafter : r.WritesOnly (if finished = found then { u with owed := u.owed ++ after }.pumpTotals
      else { u with unwritten := after }.takeDeliveries finished) := by
    split
    · exact hbefore.trans ((additions u _ _ _).trans (.pumpTotals _))
    · exact hbefore.trans ((additions u _ _ _).trans (.takeDeliveries _ _))
  split
  · exact hafter
  · exact hafter.trans (.takeDeliveries _ _)

end Rtm.WritesOnly

/-- After a test of the owed additions none is owed while no write of TOTALS is in flight (R94, R97). -/
theorem Rtm.pumpTotals_prompt {r : Rtm}
    (h : r.deliveries.inFlight = none → r.deliveries.held = false ∧ r.carried = [] ∧ r.unwritten = []) :
    r.pumpTotals.Prompt := by
  intro hidle
  cases hfly : r.totals.inFlight with
  | some x => simp [Rtm.pumpTotals, hfly] at hidle
  | none =>
    cases howed : r.owed with
    | cons x rest => simp [Rtm.pumpTotals, hfly, howed] at hidle
    | nil =>
      have hsame : r.pumpTotals = r := by simp [Rtm.pumpTotals, hfly, howed]
      rw [hsame]
      exact ⟨howed, h⟩

theorem Rtm.takeDeliveries_prompt {r : Rtm} (h : r.totals.inFlight = none → r.owed = []) (image : DeliveriesImage) :
    (r.takeDeliveries image).Prompt := by
  obtain ⟨-, howed, -, heq⟩ | ⟨hbusy, heq⟩ := r.takeDeliveries_cases image <;> rw [heq]
  · exact fun _ => ⟨howed, fun hnone => nomatch hnone⟩
  · intro htotals
    refine ⟨h htotals, fun hnone => ?_⟩
    obtain hfly | howed | hfly := hbusy
    · rw [show r.deliveries.inFlight = none from hnone] at hfly
      cases hfly
    · exact absurd (h htotals) howed
    · rw [show r.totals.inFlight = none from htotals] at hfly
      cases hfly

/-- A test of the owed additions leaves what concerns DELIVERIES as it was. -/
theorem Rtm.pumpTotals_deliveries (r : Rtm) :
    r.pumpTotals.deliveries = r.deliveries ∧ r.pumpTotals.carried = r.carried
      ∧ r.pumpTotals.unwritten = r.unwritten := by
  unfold Rtm.pumpTotals
  split <;> exact ⟨rfl, rfl, rfl⟩

/-- A taken change of DELIVERIES leaves what concerns TOTALS as it was, and drops no carried addition. -/
theorem Rtm.takeDeliveries_totals (r : Rtm) (image : DeliveriesImage) :
    (r.takeDeliveries image).totals = r.totals ∧ (r.takeDeliveries image).owed = r.owed
      ∧ r.carried ⊆ (r.takeDeliveries image).carried := by
  obtain ⟨-, -, -, h⟩ | ⟨-, h⟩ := r.takeDeliveries_cases image <;> rw [h]
  · exact ⟨rfl, rfl, List.subset_append_left _ _⟩
  · exact ⟨rfl, rfl, .refl _⟩

section
variable {r : Rtm} {found finished image : DeliveriesImage} {before after : List Addition}

/-- A start leaves nothing waiting while no write is in flight (R105). -/
theorem Rtm.startWrites_prompt (hheld : r.deliveries.held = false) (hcarried : r.carried = [])
    (hunwritten : r.unwritten = []) : (r.startWrites found finished before after image).Prompt := by
  have hstill (owed : List Addition) : { r with owed := owed }.pumpTotals.deliveries.held = false
      ∧ { r with owed := owed }.pumpTotals.carried = [] ∧ { r with owed := owed }.pumpTotals.unwritten = [] := by
    obtain ⟨h1, h2, h3⟩ := Rtm.pumpTotals_deliveries { r with owed := owed }
    rw [h1, h2, h3]
    exact ⟨hheld, hcarried, hunwritten⟩
  have hbefore : { r with owed := before }.pumpTotals.Prompt :=
    Rtm.pumpTotals_prompt fun _ => ⟨hheld, hcarried, hunwritten⟩
  obtain ⟨hheld', hcarried', hunwritten'⟩ := hstill before
  unfold Rtm.startWrites
  dsimp only
  generalize { r with owed := before }.pumpTotals = u at hbefore hheld' hcarried' hunwritten' ⊢
  have hafter : (if finished = found then { u with owed := u.owed ++ after }.pumpTotals
      else { u with unwritten := after }.takeDeliveries finished).Prompt := by
    split
    · exact Rtm.pumpTotals_prompt fun _ => ⟨hheld', hcarried', hunwritten'⟩
    · exact Rtm.takeDeliveries_prompt (r := { u with unwritten := after }) (fun h => (hbefore h).1) _
  split
  · exact hafter
  · exact Rtm.takeDeliveries_prompt (fun h => (hafter h).1) _

/-- The writes of a start where no addition goes before the content that it found. -/
theorem Rtm.startWrites_nil (htotals : r.totals.inFlight = none) : r.startWrites found finished [] after image =
    if image = finished then
      if finished = found then { r with owed := after }.pumpTotals
      else { r with owed := [], unwritten := after }.takeDeliveries finished
    else (if finished = found then { r with owed := after }.pumpTotals
      else { r with owed := [], unwritten := after }.takeDeliveries finished).takeDeliveries image := by
  have hnone : { r with owed := [] }.pumpTotals = { r with owed := [] } := by simp [Rtm.pumpTotals, htotals]
  unfold Rtm.startWrites
  rw [hnone]
  rfl

/-- Where the start finished an interrupted delivery, and no addition went before it, the write of DELIVERIES carries the
additions (R102). -/
theorem Rtm.startWrites_changed (hcarried : r.carried = []) (htotals : r.totals.inFlight = none)
    (hdel : r.deliveries.inFlight = none) (hne : finished ≠ found) :
    (r.startWrites found finished [] after image).deliveries.inFlight = some finished
      ∧ (r.startWrites found finished [] after image).carried = after := by
  have hfirst : { r with owed := [], unwritten := after }.takeDeliveries finished =
      { r with owed := [], unwritten := after }.beginDeliveries finished := by
    simp [Rtm.takeDeliveries, Rtm.deliveriesFree, htotals, hdel]
  have hsecond : ({ r with owed := [], unwritten := after }.beginDeliveries finished).takeDeliveries image =
      { { r with owed := [], unwritten := after }.beginDeliveries finished with
        deliveries := { r.deliveries with inFlight := some finished, held := true } } := by
    simp [Rtm.takeDeliveries, Rtm.beginDeliveries, Region.begin]
  rw [Rtm.startWrites_nil htotals, if_neg hne, hfirst, hsecond]
  split <;> simp [Rtm.beginDeliveries, hcarried]

/-- Where the start found the final records finished, their additions are owed or in flight (R103). -/
theorem Rtm.startWrites_addition (hcarried : r.carried = []) (htotals : r.totals.inFlight = none)
    (hdel : r.deliveries.inFlight = none) {x : Addition} (hx : x ∈ after) :
    x ∈ (r.startWrites found finished [] after image).owed ++ (r.startWrites found finished [] after image).carried
      ∨ (r.startWrites found finished [] after image).totals.inFlight = some (r.totals.current.content.add x) := by
  by_cases hfound : finished = found
  · have hpump : x ∈ { r with owed := after }.pumpTotals.owed
        ∨ { r with owed := after }.pumpTotals.totals.inFlight = some (r.totals.current.content.add x) := by
      cases after with
      | nil => cases hx
      | cons y rest =>
        obtain rfl | hrest := List.mem_cons.1 hx
        · exact .inr (by simp [Rtm.pumpTotals, htotals])
        · exact .inl (by simpa [Rtm.pumpTotals, htotals] using hrest)
    have hkept : (r.startWrites found finished [] after image).totals = { r with owed := after }.pumpTotals.totals
        ∧ (r.startWrites found finished [] after image).owed = { r with owed := after }.pumpTotals.owed := by
      rw [Rtm.startWrites_nil htotals, if_pos hfound]
      split
      · exact ⟨rfl, rfl⟩
      · obtain ⟨h1, h2, -⟩ := Rtm.takeDeliveries_totals { r with owed := after }.pumpTotals image
        exact ⟨h1, h2⟩
    rw [hkept.1, hkept.2]
    exact hpump.imp_left (List.mem_append_left _)
  · obtain ⟨-, hcarries⟩ := Rtm.startWrites_changed (image := image) (after := after) hcarried htotals hdel hfound
    rw [hcarries]
    exact .inl (List.mem_append_right _ hx)

end

end Sys2Proof.Machine
end

section
/-! PROOFS. What a power-on start leaves of every block and of the retained memory (R17, R83, R92, R100 to R105, R127, R153,
R181, R195, R196). -/

namespace Sys2Proof.Machine

/-! ## The judgement of a region (R100) -/

theorem laterCount_iff (x y : BitVec 32) : laterCount x y = true ↔ 1 ≤ (x - y).toNat ∧ (x - y).toNat < 2 ^ 31 := by
  simp [laterCount]

/-! ## What a start finds -/

/-- CONFIG as a start finds it. -/
def Rtm.foundConfig (r : Rtm) : ConfigImage := (r.config.judge defaultConfig).1

/-- DELIVERIES as a start finds it. -/
def Rtm.foundDeliveries (r : Rtm) : DeliveriesImage := (r.deliveries.judge (.fill defaultSaved)).1

/-- The validities that a start gives the three regions. -/
def Rtm.foundValidity (r : Rtm) : Validity × Validity × Validity :=
  ((r.config.judge defaultConfig).2.2, (r.totals.judge (defaultTotals (.fill none))).2.2,
    (r.deliveries.judge (.fill defaultSaved)).2.2)

/-- The totals and marks that a start goes on from (R101). -/
def Rtm.foundTotals (r : Rtm) : Totals :=
  startTotals (r.totals.judge (defaultTotals (.fill none))).1 r.foundValidity.2.1 r.foundDeliveries r.foundValidity.2.2

/-- The recovery of point A's sales at a power-on start. -/
def Rtm.recoveryA (r : Rtm) : Recovery :=
  recoverPoint .a r.foundDeliveries.a r.foundTotals r.foundValidity.2.1 r.foundValidity.2.2 false

/-- The recovery of point B's sales, which comes after point A's. -/
def Rtm.recoveryB (r : Rtm) : Recovery :=
  recoverPoint .b r.foundDeliveries.b r.recoveryA.totals r.foundValidity.2.1 r.foundValidity.2.2 false

/-- The recovery of both points' sales at a power-on start. -/
def Rtm.recovery (r : Rtm) : Pair Recovery := ⟨r.recoveryA, r.recoveryB⟩

/-- The content of DELIVERIES with the interrupted deliveries finished. -/
def Rtm.finished (r : Rtm) : DeliveriesImage := ⟨r.recoveryA.saved, r.recoveryB.saved⟩

/-- The content of DELIVERIES as the points take it (R71). -/
def Rtm.cleared (r : Rtm) : DeliveriesImage := r.finished.map (·.autoClear)

/-- A point's recovery goes on from the mark that the start found for it. -/
theorem Rtm.recovery_get (r : Rtm) (p : Point) : ∃ t, t.marks.get p = r.foundTotals.marks.get p
    ∧ r.recovery.get p =
      recoverPoint p (r.foundDeliveries.get p) t r.foundValidity.2.1 r.foundValidity.2.2 false := by
  cases p with
  | a => exact ⟨r.foundTotals, rfl, rfl⟩
  | b => exact ⟨r.recoveryA.totals, (recoverPoint_bounds .a _ _ _ _).1 .b (by decide), rfl⟩

/-- The reports of the sales that a power-on start recovered, in their order (R104). -/
def Rtm.finishedReports (r : Rtm) : List Report :=
  r.recoveryA.reports.map (fun x => ⟨.point .a, ⟨0, 0⟩, .deliveryFinished x⟩)
    ++ r.recoveryB.reports.map (fun x => ⟨.point .b, ⟨0, 0⟩, .deliveryFinished x⟩)

theorem Rtm.mem_finishedReports {r : Rtm} {p : Point} {x : DeliveryRecord} (h : x ∈ (r.recovery.get p).reports) :
    ⟨.point p, ⟨0, 0⟩, .deliveryFinished x⟩ ∈ r.finishedReports := by
  cases p with
  | a => exact List.mem_append_left _ (List.mem_map_of_mem h)
  | b => exact List.mem_append_right _ (List.mem_map_of_mem h)

theorem Rtm.finishedReports_length (r : Rtm) : r.finishedReports.length ≤ 6 := by
  have ha : r.recoveryA.reports.length ≤ 3 := (recoverPoint_bounds _ _ _ _ _).2.1
  have hb : r.recoveryB.reports.length ≤ 3 := (recoverPoint_bounds _ _ _ _ _).2.1
  simp only [Rtm.finishedReports, List.length_append, List.length_map]
  omega

/-! ## The blocks at a start -/

/-- The part as a start leaves it before its reports and its writes. -/
def State.startBlocks (s : State) (cause : StartCause) : State :=
  let c := s.rtm.foundConfig
  let d := s.rtm.cleared
  let ptu := startPtu c.ptu s.rtm.foundValidity.1 d
  { now := s.now
    powered := true
    pins := s.pins
    hlp := startHlp c cause s.rtm.foundValidity.1 s.rtm.foundValidity.2.1 s.rtm.foundValidity.2.2
    miu := c.meters.map fun r => startChannel r s.now
    dle := startDle c
    points := ⟨startPoint d.a (d.a.reference ptu.newest), startPoint d.b (d.b.reference ptu.newest)⟩
    ptu := ptu
    pou := .fill (startPou s.now)
    ddu := ⟨startSide d.a.shown s.now, startSide d.b.shown (s.now + 50)⟩
    display := c.display
    crg := startCrg c.gate s.now
    psc := startPsc c s.pins.millivolts s.now
    rtm := startRtm c s.rtm.foundTotals s.rtm.foundDeliveries (s.rtm.config.judge defaultConfig).2.1
      (s.rtm.totals.judge (defaultTotals (.fill none))).2.1 (s.rtm.deliveries.judge (.fill defaultSaved)).2.1
      s.rtm.foundValidity.1 s.rtm.foundValidity.2.1 s.rtm.foundValidity.2.2
    pending := s.pending }

/-- The part as a start leaves it before it looks at the tamper line. -/
def State.startRecovered (s : State) (cause : StartCause) : State :=
  (((((s.startBlocks cause).postFinished .a s.rtm.recoveryA.reports).postFinished .b
    s.rtm.recoveryB.reports).sealConfig).writeRecovered s.rtm.foundDeliveries s.rtm.finished
      (s.rtm.recoveryA.before ++ s.rtm.recoveryB.before) (s.rtm.recoveryA.after ++ s.rtm.recoveryB.after))

theorem State.start_eq (s : State) (cause : StartCause) : s.start cause (.fill false) =
    if (s.startRecovered cause).pins.tamper = true then (s.startRecovered cause).tamperAct
    else s.startRecovered cause := rfl

/-- Posts of a queue with room for them stand at its end in their order (R186). -/
theorem State.postFinished_eq (s : State) (p : Point) (l : List DeliveryRecord)
    (h : s.hlp.reports.length + l.length ≤ reportRoom) : s.postFinished p l =
      { s with hlp := { s.hlp with
        reports := s.hlp.reports ++ l.map fun r => ⟨.point p, s.stamp, .deliveryFinished r⟩ } } := by
  induction l generalizing s with
  | nil => simp [State.postFinished]
  | cons x l ih =>
    have hroom : s.hlp.reports.length < reportRoom := by
      simp only [List.length_cons] at h
      omega
    have hpost : s.post (.point p) (.deliveryFinished x) =
        { s with hlp := { s.hlp with reports := s.hlp.reports ++ [⟨.point p, s.stamp, .deliveryFinished x⟩] } } := by
      rw [State.post, Hlp.post, if_pos hroom]
    have hcons : s.postFinished p (x :: l) = (s.post (.point p) (.deliveryFinished x)).postFinished p l := rfl
    rw [hcons, hpost, ih _ (by simp only [List.length_append, List.length_cons, List.length_nil] at h ⊢; omega)]
    simp [State.stamp]

/-- The retained memory after a start, before the writes that it begins. -/
def State.startMemory (s : State) (cause : StartCause) : Rtm :=
  { (s.startBlocks cause).rtm with
    config := freshRegion (s.rtm.config.judge defaultConfig).2.1 (s.startBlocks cause).configImage }

/-- The queue with the START report and the reports of the recovered sales. -/
def State.startReports (s : State) (cause : StartCause) : List Report :=
  ⟨.none, ⟨0, 0⟩, .start cause s.rtm.foundValidity.1 s.rtm.foundValidity.2.1 s.rtm.foundValidity.2.2⟩
    :: s.rtm.finishedReports

theorem State.startRecovered_eq (s : State) (cause : StartCause) : s.startRecovered cause =
    { s.startBlocks cause with
      hlp := { (s.startBlocks cause).hlp with reports := s.startReports cause }
      rtm := (s.startMemory cause).startWrites s.rtm.foundDeliveries s.rtm.finished
        (s.rtm.recoveryA.before ++ s.rtm.recoveryB.before) (s.rtm.recoveryA.after ++ s.rtm.recoveryB.after)
        (s.startBlocks cause).deliveriesImage } := by
  have ha : s.rtm.recoveryA.reports.length ≤ 3 := (recoverPoint_bounds _ _ _ _ _).2.1
  have hb : s.rtm.recoveryB.reports.length ≤ 3 := (recoverPoint_bounds _ _ _ _ _).2.1
  have hone : (s.startBlocks cause).hlp.reports.length = 1 := rfl
  have hroom : reportRoom = 32 := rfl
  rw [State.startRecovered, State.postFinished_eq (s.startBlocks cause) .a _ (by omega), State.postFinished_eq _ .b _
    (by simp only [List.length_append, List.length_map]; omega), State.writeRecovered_eq]
  simp only [State.startReports, Rtm.finishedReports]
  rw [List.append_assoc]
  rfl

/-! ## The tamper line at a start (R153) -/

/-- The gate that an asserted tamper line takes from rest to QUARANTINE (R145, R146). -/
def Crg.tampered (c : Crg) : Crg :=
  { c.quietLink with st := .quarantine, cause := some .tamper, session := none, miss := 0, errors := 0, attempts := 0
                     run := none, losses := [], offDue := none, bootDue := none }

theorem State.tamperAct_start {u : State} {g : GateSettings} {now : Nat} (hcrg : u.crg = startCrg g now)
    (hroom : u.hlp.reports.length < reportRoom) : u.tamperAct =
      { u with
        crg := (startCrg g now).tampered
        hlp := { u.hlp with reports := u.hlp.reports ++
          [⟨.none, u.stamp, .readerGate .off .quarantine (.quarantine .tamper) none none false⟩] } } := by
  have hflush : u.flushOutbound.flushInbound = u := by
    have hout : u.flushOutbound = { u with crg := { u.crg with outbound := [] } } := by
      simp [State.flushOutbound, hcrg, startCrg, State.mapCrg]
    have hsame : ({ u with crg := { u.crg with outbound := [] } } : State) = u := by
      obtain ⟨⟩ := u
      dsimp only at hcrg
      subst hcrg
      rfl
    rw [hout, hsame]
    simp [State.flushInbound, hcrg, startCrg]
  rw [State.tamperAct, if_pos (by rw [hcrg]; exact GateSt.noConfusion), State.quarantine, hflush]
  simp only [State.tellSessionEnd, State.post, Hlp.post, State.mapCrg, hroom, if_true, hcrg]
  rfl

/-- The state of a start, by its retained memory, its gate and the reports that follow those of the sales. -/
def State.started (s : State) (cause : StartCause) (r : Rtm) (crg : Crg) (l : List Report) : State :=
  { s.startBlocks cause with
    rtm := r, crg := crg, hlp := { (s.startBlocks cause).hlp with reports := s.startReports cause ++ l } }

/-- A power-on start as a whole: the blocks, the queue with its reports, the retained memory with its writes, and the
gate by the tamper line. -/
theorem State.start_leaves (s : State) (cause : StartCause) :
    ∃ crg l, s.start cause (.fill false) = s.started cause (s.startRecovered cause).rtm crg l
      ∧ crg.st = (if s.pins.tamper then .quarantine else .off) ∧ crg.session = none ∧ crg.counter = 0
      ∧ crg.settings = s.rtm.foundConfig.gate := by
  have hsix := s.rtm.finishedReports_length
  have hroom : reportRoom = 32 := rfl
  rw [State.start_eq, State.startRecovered_eq]
  split
  · rename_i htamper
    rw [State.tamperAct_start rfl (by simp only [State.startReports, List.length_cons]; omega),
      if_pos (show s.pins.tamper = true from htamper)]
    exact ⟨_, _, rfl, rfl, rfl, rfl, rfl⟩
  · rename_i htamper
    rw [if_neg (show ¬ s.pins.tamper = true from htamper)]
    refine ⟨startCrg s.rtm.foundConfig.gate s.now, [], ?_, rfl, rfl, rfl, rfl⟩
    rw [State.started, List.append_nil]
    rfl

/-! ## The retained memory after a start -/

/-- The retained memory of a start: the writes begun from what was found. -/
theorem State.startRecovered_rtm (s : State) (cause : StartCause) :
    (s.startMemory cause).WritesOnly (s.startRecovered cause).rtm ∧ (s.startRecovered cause).rtm.Prompt := by
  rw [State.startRecovered_eq]
  exact ⟨.startWrites _ _ _ _ _ _, Rtm.startWrites_prompt rfl rfl rfl⟩

/-- What the retained memory of a start keeps of what was found. -/
theorem State.startRecovered_content (s : State) (cause : StartCause) :
    let r := (s.startRecovered cause).rtm
    r.configValidity = s.rtm.foundValidity.1 ∧ r.totalsValidity = s.rtm.foundValidity.2.1
      ∧ r.deliveriesValidity = s.rtm.foundValidity.2.2 ∧ r.totals.copy1.content = s.rtm.foundTotals
      ∧ r.totals.copy2.content = s.rtm.foundTotals ∧ r.totals.current.content = s.rtm.foundTotals
      ∧ r.deliveries.copy1.content = s.rtm.foundDeliveries ∧ r.deliveries.copy2.content = s.rtm.foundDeliveries := by
  dsimp only
  rw [(s.startRecovered_rtm cause).1]
  exact ⟨rfl, rfl, rfl, rfl, rfl, rfl, rfl, rfl⟩

/-- A point after a start takes its recovered part as the auto-clear left it (R71, R83). -/
theorem State.startBlocks_point (s : State) (cause : StartCause) (p : Point) : ∃ generation,
    (s.startBlocks cause).point p = startPoint (s.rtm.recovery.get p).saved.autoClear generation := by
  cases p <;> exact ⟨_, rfl⟩

theorem State.start_startedAs (s : State) (cause : StartCause) : (s.start cause (.fill false)).startedAs cause := by
  obtain ⟨crg, l, heq, hst, hsession, hcounter, -⟩ := s.start_leaves cause
  obtain ⟨hwrites, hprompt⟩ := s.startRecovered_rtm cause
  have hcontent := s.startRecovered_content cause
  rw [heq]
  generalize (s.startRecovered cause).rtm = r at hwrites hprompt hcontent ⊢
  have hconfig : r.config = (s.startMemory cause).config := by rw [hwrites]
  have hdirty : r.dirtyConfig = false ∧ r.dirtyDeliveries = false := by
    rw [hwrites]
    exact ⟨rfl, rfl⟩
  have hsound : r.totals.copy1.sound = true ∧ r.totals.copy2.sound = true ∧ r.deliveries.copy1.sound = true
      ∧ r.deliveries.copy2.sound = true := by
    rw [hwrites]
    exact ⟨sealedCopy_sound _ _, sealedCopy_sound _ _, sealedCopy_sound _ _, sealedCopy_sound _ _⟩
  obtain ⟨hvc, hvt, hvd, -⟩ := hcontent
  refine ⟨rfl, ?_, ?_, ?_, fun ht hd => ?_, ⟨_, rfl, ?_⟩, rfl, rfl, rfl, rfl, rfl, rfl, rfl, rfl, rfl, rfl, rfl, fun c => ?_,
    fun m => ?_, fun p => ?_, hst, hsession, hcounter, ?_, ?_, hsound⟩
  · simp only [State.quiet, State.started, hdirty, Bool.not_false, Bool.true_and]
    exact State.noStepDue_of_checking rfl
  · exact congrArg Region.inFlight hconfig
  · exact congrArg Region.held hconfig
  · obtain ⟨howed, hrest⟩ := hprompt ht
    obtain ⟨hheld, hcarried, hunwritten⟩ := hrest hd
    have hin : r.config.inFlight = none := congrArg Region.inFlight hconfig
    have hch : r.config.held = false := congrArg Region.held hconfig
    have ht' : r.totals.inFlight = none := ht
    have hd' : r.deliveries.inFlight = none := hd
    simp [State.started, Rtm.idle, howed, hheld, hcarried, hunwritten, hin, hch, ht', hd']
  · simp only [State.started, hvc, hvt, hvd]
  · cases c <;> rfl
  · cases m <;> exact ⟨rfl, rfl, rfl, rfl, rfl, rfl, rfl⟩
  · obtain ⟨generation, hpoint⟩ := s.startBlocks_point cause p
    have hclosed : (startPoint (s.rtm.recovery.get p).saved.autoClear generation).st = .closed
        ∨ (startPoint (s.rtm.recovery.get p).saved.autoClear generation).st = .finished := by
      unfold startPoint
      split <;> simp
    refine ⟨(congrArg PointData.st hpoint) ▸ hclosed, congrArg PointData.auth hpoint, ?_⟩
    cases p <;> exact ⟨rfl, rfl, rfl, rfl, rfl⟩
  · exact (congrArg (·.copy1.sound) hconfig).trans (sealedCopy_sound _ _)
  · exact (congrArg (·.copy2.sound) hconfig).trans (sealedCopy_sound _ _)

/-! ## The sales that a start recovers -/

section
variable {s : State} {cause : StartCause} {p : Point}

/-- A final record of a sale stands at a FINISHED point; one of 0 cl is auto-cleared (R71, R83). -/
theorem State.startBlocks_final {q : DeliveryRecord} (hcur : (s.rtm.recovery.get p).saved.current = some q)
    (hfinal : q.final = true) :
    (q.volume ≠ 0 → ((s.startBlocks cause).point p).st = .finished ∧ ((s.startBlocks cause).point p).current = some q)
      ∧ (q.volume = 0 → ((s.startBlocks cause).point p).st = .closed ∧ ((s.startBlocks cause).point p).current = none
        ∧ ((s.startBlocks cause).point p).previous = some q) := by
  obtain ⟨generation, hpoint⟩ := s.startBlocks_point cause p
  rw [hpoint]
  generalize (s.rtm.recovery.get p).saved = x at hcur
  constructor
  · intro hvolume
    have hclear : x.autoClear = x := by simp [SavedPoint.autoClear, hcur, hvolume]
    simp [startPoint, hclear, hcur, hfinal]
  · intro hvolume
    have hclear : x.autoClear = { x with current := none, previous := some q, table := none, figuresAt := none } := by
      simp [SavedPoint.autoClear, hcur, hvolume, hfinal]
    simp [startPoint, hclear]

theorem State.startBlocks_none (hcur : (s.rtm.recovery.get p).saved.current = none) :
    ((s.startBlocks cause).point p).st = .closed ∧ ((s.startBlocks cause).point p).current = none := by
  obtain ⟨generation, hpoint⟩ := s.startBlocks_point cause p
  rw [hpoint]
  simp [startPoint, SavedPoint.autoClear, hcur]

/-- Where no addition of a previous record goes before, the writes of a start begin from the content it found. -/
theorem State.startRecovered_rtm_eq (hvt : s.rtm.foundValidity.2.1 ≠ .older) : (s.startRecovered cause).rtm =
    (s.startMemory cause).startWrites s.rtm.foundDeliveries s.rtm.finished []
      (s.rtm.recoveryA.after ++ s.rtm.recoveryB.after) (s.startBlocks cause).deliveriesImage := by
  have ha : s.rtm.recoveryA.before = [] := (recoverPoint_bounds _ _ _ _ _).2.2 hvt
  have hb : s.rtm.recoveryB.before = [] := (recoverPoint_bounds _ _ _ _ _).2.2 hvt
  rw [State.startRecovered_eq, ha, hb]
  rfl

theorem Rtm.finished_get (r : Rtm) (p : Point) : r.finished.get p = (r.recovery.get p).saved := by cases p <;> rfl

theorem Rtm.mem_after {r : Rtm} {x : Addition} (h : x ∈ (r.recovery.get p).after) :
    x ∈ r.recoveryA.after ++ r.recoveryB.after := by
  cases p with
  | a => exact List.mem_append_left _ h
  | b => exact List.mem_append_right _ h

variable {r : DeliveryRecord}

/-- An interrupted delivery after a start: the point and the report (R102, R104). -/
theorem State.start_interrupted (hvd : s.rtm.foundValidity.2.2 ≠ .defaulted)
    (hcur : (s.rtm.foundDeliveries.get p).current = some r) (hfinal : r.final = false)
    (hst : (s.rtm.foundDeliveries.get p).st ≠ .settled) :
    (s.rtm.recovery.get p).saved.current = some (r.recovered (s.rtm.foundDeliveries.get p).figuresAt)
      ∧ ⟨.point p, ⟨0, 0⟩, .deliveryFinished (r.recovered (s.rtm.foundDeliveries.get p).figuresAt)⟩
        ∈ s.rtm.finishedReports := by
  obtain ⟨t, -, hrecovery⟩ := s.rtm.recovery_get p
  obtain ⟨hcurrent, hreport, -⟩ := recoverPoint_interrupted (p := p) (t := t) (vt := s.rtm.foundValidity.2.1) hvd hcur
    hfinal hst
  rw [← hrecovery] at hcurrent hreport
  exact ⟨hcurrent, Rtm.mem_finishedReports hreport⟩

/-- A record begun and not held is gone after a start (R102). -/
theorem State.start_begun (hvd : s.rtm.foundValidity.2.2 ≠ .defaulted)
    (hcur : (s.rtm.foundDeliveries.get p).current = some r) (hfinal : r.final = false)
    (hst : (s.rtm.foundDeliveries.get p).st = .settled) : (s.rtm.recovery.get p).saved.current = none := by
  obtain ⟨t, -, hrecovery⟩ := s.rtm.recovery_get p
  rw [hrecovery]
  exact recoverPoint_begun hvd hcur hfinal hst

/-- The write of DELIVERIES with an interrupted delivery's final record, and the addition that waits behind it (R102). -/
theorem State.start_interrupted_write (hvd : s.rtm.foundValidity.2.2 ≠ .defaulted)
    (hcur : (s.rtm.foundDeliveries.get p).current = some r) (hfinal : r.final = false)
    (hst : (s.rtm.foundDeliveries.get p).st ≠ .settled) (hvt : s.rtm.foundValidity.2.1 ≠ .older) :
    (∃ image, (s.startRecovered cause).rtm.deliveries.inFlight = some image
        ∧ (image.get p).current = some (r.recovered (s.rtm.foundDeliveries.get p).figuresAt))
      ∧ (s.rtm.foundTotals.marks.get p ≠ some r.seq →
        additionOf p (r.recovered (s.rtm.foundDeliveries.get p).figuresAt) ∈ (s.startRecovered cause).rtm.carried) := by
  obtain ⟨hcurrent, -⟩ := State.start_interrupted hvd hcur hfinal hst
  have hne : s.rtm.finished ≠ s.rtm.foundDeliveries := by
    intro heq
    have hrecord := congrArg (fun d => (d.get p).current) heq
    rw [Rtm.finished_get, hcurrent, hcur] at hrecord
    have hmark := congrArg (fun x : Option DeliveryRecord => x.map (·.final)) hrecord
    simp [DeliveryRecord.recovered, DeliveryRecord.finalized, hfinal] at hmark
  obtain ⟨hwrite, hcarried⟩ := Rtm.startWrites_changed (r := s.startMemory cause)
    (image := (s.startBlocks cause).deliveriesImage) (after := s.rtm.recoveryA.after ++ s.rtm.recoveryB.after) rfl rfl rfl
    hne
  rw [State.startRecovered_rtm_eq hvt, hwrite, hcarried]
  refine ⟨⟨_, rfl, by rw [Rtm.finished_get, hcurrent]⟩, fun hmark => Rtm.mem_after (p := p) ?_⟩
  obtain ⟨t, ht, hrecovery⟩ := s.rtm.recovery_get p
  rw [hrecovery]
  exact (recoverPoint_interrupted hvd hcur hfinal hst).2.2 hvt (by rwa [ht])

/-- A final record whose number is not the point's mark: its report, and its addition owed, carried or in flight (R103,
R104). -/
theorem State.start_final (hvd : s.rtm.foundValidity.2.2 ≠ .defaulted)
    (hcur : (s.rtm.foundDeliveries.get p).current = some r) (hfinal : r.final = true)
    (hvt : s.rtm.foundValidity.2.1 = .good) (hmark : s.rtm.foundTotals.marks.get p ≠ some r.seq) :
    ⟨.point p, ⟨0, 0⟩, .deliveryFinished r⟩ ∈ s.rtm.finishedReports
      ∧ (additionOf p r ∈ (s.startRecovered cause).rtm.owed ++ (s.startRecovered cause).rtm.carried
        ∨ (s.startRecovered cause).rtm.totals.inFlight = some (s.rtm.foundTotals.add (additionOf p r))) := by
  obtain ⟨t, ht, hrecovery⟩ := s.rtm.recovery_get p
  obtain ⟨hreport, hafter⟩ := recoverPoint_final (p := p) (t := t) hvd hvt hcur hfinal (by rwa [ht])
  rw [← hrecovery] at hreport hafter
  refine ⟨Rtm.mem_finishedReports hreport, ?_⟩
  rw [State.startRecovered_rtm_eq (by rw [hvt]; decide)]
  exact Rtm.startWrites_addition rfl rfl rfl (Rtm.mem_after hafter)

end

/-! ## The statement -/

/-- The cause that a power-on start reports (R104). -/
def startCauseOf : PowerOn → StartCause
  | .standby => .standby
  | .resetInput => .resetInput

theorem exec_powerOnStart (cause : PowerOn) (spoiled : Spoiled) (s : State) :
    exec (.powerOnStart cause spoiled) s =
      .next ((s.mapRtm (·.spoil spoiled)).start (startCauseOf cause) (.fill false)) := by
  cases cause <;> rfl

/-- The judgement of a region by its two copies (R100). -/
theorem Region.judge_cases {α : Type} (r : Region α) (default : α) :
    (r.copy1.sound = true → r.copy2.sound = true →
      let above := (r.copy2.count - r.copy1.count).toNat
      (1 ≤ above → above < 2 ^ 31 → r.judge default = (r.copy2.content, r.copy2.count, .good))
      ∧ (2 ^ 31 < above ∨ above = 0 → r.judge default = (r.copy1.content, r.copy1.count, .good)))
    ∧ (r.copy1.sound = true → r.copy2.sound = false → r.judge default =
      (r.copy1.content, r.copy1.count, if r.copy2.count = r.copy1.count + 1 then .older else .good))
    ∧ (r.copy1.sound = false → r.copy2.sound = true → r.judge default =
      (r.copy2.content, r.copy2.count, if r.copy1.count = r.copy2.count + 1 then .older else .good))
    ∧ (r.copy1.sound = false → r.copy2.sound = false → (r.judge default).1 = default
      ∧ (r.judge default).2.2 = .defaulted) := by
  refine ⟨fun h1 h2 => ⟨fun hlow hhigh => ?_, fun hout => ?_⟩, fun h1 h2 => ?_, fun h1 h2 => ?_, fun h1 h2 => ?_⟩
  · have hlater := (laterCount_iff r.copy2.count r.copy1.count).2 ⟨hlow, hhigh⟩
    simp [Region.judge, h1, h2, hlater]
  · have hlater : laterCount r.copy2.count r.copy1.count = false := by
      rw [← Bool.not_eq_true, laterCount_iff]
      omega
    simp [Region.judge, h1, h2, hlater]
  · simp [Region.judge, h1, h2]
  · simp [Region.judge, h1, h2]
  · simp [Region.judge, h1, h2]

/-- Settles O41: the state of every block, the regions and the recovered sales of a power-on start, and the judgement of a
region. -/
theorem powerOnStarts : Obligations.PowerOnStarts := by
  refine ⟨fun s cause spoiled => ?_, fun α r default => Region.judge_cases r default⟩
  dsimp only
  have hstarted := (s.mapRtm (·.spoil spoiled)).start_startedAs (startCauseOf cause)
  obtain ⟨crg, l, heq, -, -, -, hsettings⟩ := (s.mapRtm (·.spoil spoiled)).start_leaves (startCauseOf cause)
  obtain ⟨hvc, hvt, hvd, htotals1, htotals2, htotals, hdeliveries1, hdeliveries2⟩ :=
    (s.mapRtm (·.spoil spoiled)).startRecovered_content (startCauseOf cause)
  have hqueue {x : Report} (h : x ∈ (s.rtm.spoil spoiled).finishedReports) :
      x ∈ (s.mapRtm (·.spoil spoiled)).startReports (startCauseOf cause) ++ l :=
    List.mem_append_left _ (List.mem_cons_of_mem _ h)
  rw [exec_powerOnStart]
  rw [heq] at hstarted ⊢
  refine ⟨_, rfl, by cases cause <;> exact hstarted, rfl, rfl, rfl, hvc, hvt, hvd, fun m => by cases m <;> rfl, rfl, rfl, rfl,
    rfl, hsettings, rfl, rfl, rfl, rfl, rfl, rfl, rfl, htotals1, htotals2, htotals, hdeliveries1, hdeliveries2,
    fun p r hgood hcur => ⟨fun hfinal hst => ?_, fun hfinal hst => ?_, fun hfinal hold hmark => ?_⟩⟩
  · obtain ⟨hcurrent, hreport⟩ := State.start_interrupted (s := s.mapRtm (·.spoil spoiled)) hgood hcur hfinal hst
    obtain ⟨hfinished, hcleared⟩ := State.startBlocks_final (cause := (startCauseOf cause)) hcurrent rfl
    exact ⟨hfinished, hcleared, hqueue hreport,
      State.start_interrupted_write (s := s.mapRtm (·.spoil spoiled)) hgood hcur hfinal hst⟩
  · exact State.startBlocks_none (cause := startCauseOf cause)
      (State.start_begun (s := s.mapRtm (·.spoil spoiled)) hgood hcur hfinal hst)
  · obtain ⟨hreport, hadded⟩ :=
      State.start_final (s := s.mapRtm (·.spoil spoiled)) (cause := (startCauseOf cause)) hgood hcur hfinal hold hmark
    exact ⟨hqueue hreport, hadded⟩

end Sys2Proof.Machine
end

section
/-! PROOFS. Family 2, volume and amount arithmetic: the counts and the figures of chapter 2, and SET_ROUNDING (R18 to R32). -/

namespace Sys2Proof.Machine

/-! ## Counts and volumes (R19, R28, R29) -/

/-- Division rounding up is the lower adjoint of multiplication. -/
theorem ceilDiv_le_iff {d : Nat} (hd : 0 < d) (n k : Nat) : ceilDiv n d ≤ k ↔ n ≤ k * d := by
  rw [Sys2Proof.ceilDiv, ← Nat.ceilDiv_eq_add_pred_div, ceilDiv_le_iff_le_mul hd, Nat.mul_comm]

/-- The legal volume without its detour through millilitres (R19). -/
theorem legalVolume_eq (n q : Nat) : legalVolume n q = min 9999999 (n * 1000 / q) := by
  have hten : n * 10000 / q / 10 = n * 1000 / q := by
    rw [Nat.div_div_eq_div_mul, show n * 10000 = n * 1000 * 10 by omega, Nat.mul_div_mul_right _ _ (by decide)]
  rw [legalVolume, rawCentilitres, millilitres, hten, recordCeiling]

/-- A volume within the ceiling is reached exactly from its count on (R19, R28). -/
theorem le_legalVolume_iff {q target : Nat} (hq : 0 < q) (ht : target ≤ 9999999) (n : Nat) :
    target ≤ legalVolume n q ↔ ceilDiv (target * q) 1000 ≤ n := by
  rw [legalVolume_eq, le_min_iff, and_iff_right ht, Nat.le_div_iff_mul_le hq, ceilDiv_le_iff (by decide)]

/-- One count is less than 1 cl at every Q of the range, so that the stop count's volume is the target itself (R28). -/
theorem legalVolume_stopCount {q target : Nat} (hq : 2000 ≤ q) (ht : target ≤ 999999) :
    legalVolume (stopCount target q) q = target := by
  have hreach := le_legalVolume_iff (q := q) (by omega) (show target ≤ 9999999 by omega) (stopCount target q)
  have hpass := le_legalVolume_iff (q := q) (by omega) (show target + 1 ≤ 9999999 by omega) (stopCount target q)
  have hgap : ¬ ceilDiv ((target + 1) * q) 1000 ≤ stopCount target q := by
    rw [ceilDiv_le_iff (by decide), stopCount, ceilDiv, Nat.succ_mul]
    omega
  exact Nat.le_antisymm (by omega) (hreach.2 le_rfl)

theorem slowCount_of_le {target distance : Nat} (h : target ≤ distance) (q : Nat) : slowCount target distance q = 0 :=
  if_neg (Nat.not_lt.2 h)

theorem slowCount_of_lt {target distance : Nat} (h : distance < target) (q : Nat) :
    slowCount target distance q = ceilDiv ((target - distance) * q) 1000 := if_pos h

theorem slowCount_le_stopCount (target distance q : Nat) : slowCount target distance q ≤ stopCount target q := by
  by_cases h : distance < target
  · rw [slowCount_of_lt h, ceilDiv_le_iff (by decide)]
    calc (target - distance) * q ≤ target * q := Nat.mul_le_mul_right q (Nat.sub_le _ _)
      _ ≤ stopCount target q * 1000 := (ceilDiv_le_iff (by decide) _ _).1 le_rfl
  · rw [slowCount_of_le (Nat.not_lt.1 h)]
    exact Nat.zero_le _

/-- Settles O12: both counts round up what the legal volume rounds down, so that each is the least to reach its volume. -/
theorem countsAreLeast : Obligations.CountsAreLeast := by
  refine ⟨fun q target n hq _ _ ht => ⟨legalVolume_eq n q, legalVolume_stopCount hq ht, ?_⟩,
    fun q target distance n hq _ ht => ⟨fun h => slowCount_of_le h q, fun h => ?_, slowCount_le_stopCount _ _ _⟩⟩
  · exact le_legalVolume_iff (by omega) (by omega) n
  · rw [slowCount_of_lt h]
    exact le_legalVolume_iff (by omega) (by omega) n

/-! ## Amounts (R20, R24, R25) -/

section
variable {price figure : Nat} (mode : Rounding) (volume : Nat)

/-- The amount-preset candidate is the least volume whose amount reaches the preset (R24). -/
theorem le_amountOf_iff (hp : 1 ≤ price) (hf : 1 ≤ figure) :
    figure ≤ amountOf mode price volume ↔ amountPresetTarget mode price figure ≤ volume := by
  cases mode <;> simp only [amountOf, amountPresetTarget, ceilDiv_le_iff hp] <;>
    rw [Nat.le_div_iff_mul_le (by decide)] <;> omega

/-- The amount-limit candidate is the greatest volume whose amount does not exceed the limit (R25). -/
theorem amountOf_le_iff (hp : 1 ≤ price) :
    amountOf mode price volume ≤ figure ↔ volume ≤ amountLimitTarget mode price figure := by
  cases mode <;> simp only [amountOf, amountLimitTarget] <;>
    rw [Nat.le_div_iff_mul_le hp, ← Nat.lt_succ_iff, Nat.div_lt_iff_lt_mul (by decide)] <;> omega

/-- No preset is reached by the volume 0 (R24). -/
theorem one_le_amountPresetTarget (hp : 1 ≤ price) (hf : 1 ≤ figure) : 1 ≤ amountPresetTarget mode price figure := by
  have hzero : amountOf mode price 0 = 0 := by cases mode <;> simp [amountOf]
  have h := le_amountOf_iff mode 0 hp hf
  omega

/-- The amount cap at the highest price of the range, and so at every price (R25). -/
theorem le_amountCap (hp : 1 ≤ price) (h : price ≤ 9999) : 100009 ≤ amountLimitTarget mode price 999999 := by
  cases mode <;> simp only [amountLimitTarget] <;> rw [Nat.le_div_iff_mul_le hp] <;> omega

end

/-! ## Candidates (R23, R26) -/

section
variable {mode : Rounding} {price : Nat} {a : Authorization}

/-- The candidates by their sources (R23). -/
theorem mem_candidates {v : Nat} {c : Source} : (v, c) ∈ candidates mode price a ↔ match c with
    | .preset => ∃ p, a.preset = some p ∧ presetTarget mode price p = v
    | .limit => a.volumeLimit = some v ∨ ∃ l, a.amountLimit = some l ∧ amountLimitTarget mode price l = v
    | .capacity => v = volumeCap ∨ v = amountLimitTarget mode price sixDigits := by
  cases c <;> simp [candidates]

end

/-- Settles O13: each formula is the adjoint of the rounding of its mode. -/
theorem amountCandidatesAreTight : Obligations.AmountCandidatesAreTight := by
  intro mode price figure volume hp hf
  refine ⟨le_amountOf_iff mode volume hp hf, amountOf_le_iff mode volume hp, ?_, ?_,
    one_le_amountPresetTarget mode hp hf, rfl, rfl, ?_, ?_, le_amountCap mode hp, fun a => ⟨?_, fun p h hk => ?_,
    fun l h => ?_⟩⟩
  · rw [amountPresetTarget, ceilDiv, Nat.add_sub_assoc hp]
  · rw [amountPresetTarget, ceilDiv, Nat.add_sub_assoc hp]
  · rw [amountLimitTarget, Nat.le_div_iff_mul_le hp]
    omega
  · rw [amountLimitTarget, Nat.le_div_iff_mul_le hp]
    omega
  · exact mem_candidates.2 (.inr rfl)
  · exact mem_candidates.2 ⟨p, h, by simp only [presetTarget, hk]⟩
  · exact mem_candidates.2 (.inr ⟨l, h, rfl⟩)

/-- The rank in which sources take a tie (R26). -/
def Source.rank : Source → Nat
  | .preset => 0
  | .limit => 1
  | .capacity => 2

theorem candidates_ranked (mode : Rounding) (price : Nat) (a : Authorization) :
    (candidates mode price a).Pairwise fun c d => c.2.rank ≤ d.2.rank := by
  cases hp : a.preset <;> cases hv : a.volumeLimit <;> cases ha : a.amountLimit <;>
    simp [candidates, hp, hv, ha, Source.rank]

/-- One candidate comes before another: it is less, or as great and of no later source (R26). -/
def Precedes (c d : Nat × Source) : Prop := c.1 < d.1 ∨ c.1 = d.1 ∧ c.2.rank ≤ d.2.rank

theorem Precedes.trans {c d e : Nat × Source} (h : Precedes c d) (k : Precedes d e) : Precedes c e := by
  unfold Precedes at *
  omega

/-- The first least of candidates in the order of their ranks is one of them and comes before each (R26). -/
theorem leastCandidate_precedes (l : List (Nat × Source)) (best : Nat × Source)
    (h : (best :: l).Pairwise fun c d => c.2.rank ≤ d.2.rank) :
    leastCandidate best l ∈ best :: l ∧ ∀ c ∈ best :: l, Precedes (leastCandidate best l) c := by
  induction l generalizing best with
  | nil => exact ⟨List.mem_singleton.2 rfl, fun c hc => .inr (by simp_all [leastCandidate])⟩
  | cons d rest ih =>
    obtain ⟨hbest, hrest⟩ := List.pairwise_cons.1 h
    rw [leastCandidate]
    by_cases hd : d.1 < best.1
    · obtain ⟨hmem, hle⟩ := ih d hrest
      rw [if_pos hd]
      refine ⟨List.mem_cons_of_mem _ hmem, fun c hc => ?_⟩
      rcases List.mem_cons.1 hc with rfl | hc
      · exact (hle d List.mem_cons_self).trans (.inl hd)
      · exact hle c hc
    · have hranks := List.pairwise_cons.2
        ⟨fun c hc => hbest c (List.mem_cons_of_mem _ hc), (List.pairwise_cons.1 hrest).2⟩
      obtain ⟨hmem, hle⟩ := ih best hranks
      rw [if_neg hd]
      refine ⟨List.mem_cons.2 ((List.mem_cons.1 hmem).imp_right (List.mem_cons_of_mem _)), fun c hc => ?_⟩
      have hhead := hle best List.mem_cons_self
      rcases List.mem_cons.1 hc with rfl | hc
      · exact hhead
      · rcases List.mem_cons.1 hc with rfl | hc
        · refine hhead.trans ?_
          have := hbest c List.mem_cons_self
          unfold Precedes
          omega
        · exact hle c (List.mem_cons_of_mem _ hc)

/-- The effective target is a candidate and comes before each (R26). -/
theorem effectiveTarget_precedes (mode : Rounding) (price : Nat) (a : Authorization) :
    effectiveTarget mode price a ∈ candidates mode price a
      ∧ ∀ c ∈ candidates mode price a, Precedes (effectiveTarget mode price a) c := by
  have hcap : (volumeCap, Source.capacity) ∈ candidates mode price a := mem_candidates.2 (.inl rfl)
  have hranked := candidates_ranked mode price a
  unfold effectiveTarget
  split
  · rename_i h
    rw [h] at hcap
    cases hcap
  · rename_i c rest h
    rw [h] at hranked ⊢
    exact leastCandidate_precedes rest c hranked

/-- PRESET_CUT says that the preset's candidate exceeds the effective target (R26). -/
theorem targetOf_presetCut (mode : Rounding) (price distance q : Nat) (a : Authorization) :
    (targetOf mode price distance q a).presetCut =
      a.preset.any fun p => decide ((targetOf mode price distance q a).volume < presetTarget mode price p) := by
  cases h : a.preset <;> simp [targetOf, h]

/-- Settles O14: the effective target comes first among the candidates by figure and then by source, so that a candidate of
its figure has no earlier source. -/
theorem effectiveTargetIsLeast : Obligations.EffectiveTargetIsLeast := by
  intro mode price distance q a t
  have hcut : t.presetCut = a.preset.any fun p => decide (t.volume < presetTarget mode price p) :=
    targetOf_presetCut mode price distance q a
  obtain ⟨hmem, hfirst⟩ : (t.volume, t.source) ∈ candidates mode price a
      ∧ ∀ c ∈ candidates mode price a, Precedes (t.volume, t.source) c := effectiveTarget_precedes mode price a
  generalize t.volume = v at *
  generalize t.source = c at *
  have hleast (d : Nat × Source) (hd : d ∈ candidates mode price a) : v ≤ d.1 := by
    rcases hfirst d hd with h | ⟨h, -⟩ <;> omega
  have hrank {x : Source} (hx : (v, x) ∈ candidates mode price a) : c.rank ≤ x.rank := by
    rcases hfirst _ hx with h | ⟨-, h⟩
    · exact absurd h (Nat.lt_irrefl v)
    · exact h
  have hpreset : c = .preset ↔ ∃ p, a.preset = some p ∧ presetTarget mode price p = v := by
    refine ⟨fun h => mem_candidates.1 (h ▸ hmem), fun h => ?_⟩
    have hzero := hrank (x := .preset) (mem_candidates.2 h)
    cases c <;> simp_all [Source.rank]
  refine ⟨hmem, hleast, fun p hp => ⟨?_, ?_⟩, fun hp => ⟨?_, ?_⟩, ⟨fun h => ⟨fun p hp hv => ?_, ?_⟩, fun ⟨hno, hlim⟩ => ?_⟩,
    hleast (volumeCap, .capacity) (mem_candidates.2 (.inl rfl))⟩
  · rw [hpreset]
    simp [hp]
  · simp [hcut, hp]
  · simp [hcut, hp]
  · rw [Ne, hpreset]
    simp [hp]
  · exact absurd (hpreset.2 ⟨p, hp, hv⟩) (by simp [h])
  · exact mem_candidates.1 (h ▸ hmem)
  · have hone := hrank (x := .limit) (mem_candidates.2 hlim)
    cases c with
    | preset =>
      obtain ⟨p, hp, hv⟩ := hpreset.1 rfl
      exact absurd hv (hno p hp)
    | limit => rfl
    | capacity => simp [Source.rank] at hone

/-! ## Figures and flags (R18 to R20, R22, R31) -/

theorem legalVolume_zero (q : Nat) : legalVolume 0 q = 0 := by simp [legalVolume, rawCentilitres, millilitres]

/-- At a price of the range, the amount of a legal volume fits 32 bits (R20). -/
theorem amountOf_legalVolume_le {price : Nat} (h : price ≤ 9999) (mode : Rounding) (n q : Nat) :
    amountOf mode price (legalVolume n q) ≤ 99989990 := by
  have hv : legalVolume n q ≤ 9999999 := Nat.min_le_left _ _
  have hmul : legalVolume n q * price ≤ 9999999 * 9999 := Nat.mul_le_mul hv h
  cases mode <;> simp only [amountOf] <;> omega

theorem overran_iff (preset : Option Preset) (volume amount : Nat) : overran preset volume amount = true ↔
    ∃ p, preset = some p ∧ ((p.kind = .amount ∧ p.value < amount) ∨ (p.kind = .volume ∧ p.value < volume)) := by
  cases preset with
  | none => simp [overran]
  | some p => cases hk : p.kind <;> simp [overran, hk]

theorem passes_iff (limit : Option Nat) (figure : Nat) : passes limit figure = true ↔ ∃ l, limit = some l ∧ l < figure := by
  cases limit <;> simp [passes]

/-- Settles O15: the figures are computed from the record's own fields and the net count; each of the three flags is its
test of the table of R31. -/
theorem figuresOfNetCount : Obligations.FiguresOfNetCount := by
  refine ⟨fun r n m i j => ⟨rfl, rfl, rfl, rfl, ?_, rfl, fun hn => ?_, fun hp => amountOf_legalVolume_le hp _ _ _⟩,
    fun r n i finish => ⟨overran_iff _ _ _, ?_, ?_, rfl, rfl⟩⟩
  · show amountOf r.rounding r.price _ = _
    cases r.rounding <;> rfl
  · have hvolume : (r.figured n i).volume = 0 := by
      show legalVolume n.toNat r.q = 0
      rw [Int.toNat_of_nonpos (by omega), legalVolume_zero]
    refine ⟨hvolume, ?_⟩
    show amountOf r.rounding r.price (r.figured n i).volume = 0
    rw [hvolume]
    cases r.rounding <;> simp [amountOf]
  · show (passes _ _ || passes _ _) = true ↔ _
    rw [Bool.or_eq_true, passes_iff, passes_iff]
    rfl
  · show (decide _ || decide _ || decide _) = true ↔ _
    simp only [Bool.or_eq_true, decide_eq_true_eq, or_assoc]
    rfl

/-! ## SET_ROUNDING (R21) -/

theorem exec_setRounding (cal : Bool) (n : Nat) (s : State) : exec (.setRounding cal n) s = execSetRounding cal n s := rfl

theorem kindOf_setRounding (cal : Bool) (n : Nat) : kindOf (.setRounding cal n) = 4 := rfl

theorem roundingOf_number (mode : Rounding) : roundingOf mode.number = some mode := by cases mode <;> rfl

theorem roundingOf_of_outside {n : Nat} (h1 : n ≠ 1) (h2 : n ≠ 2) : roundingOf n = none := by
  unfold roundingOf
  split <;> simp_all

/-- Settles O16: the switch is judged before the field, and only a mode in range is a change of CONFIG. -/
theorem setRounding : Obligations.SetRounding := by
  intro s n hr
  refine ⟨fun mode ht hn => ?_, fun ht => ?_, fun ht h1 h2 => ?_⟩
  · obtain ⟨-, hc, hd, hdue⟩ := State.runs_iff.1 hr
    subst hn
    rw [exec_setRounding, execSetRounding, State.request_taken ht, kindOf_setRounding, roundingOf_number]
    exact congrArg Host.Outcome.next (State.answered_config (s := s)
      (t := { s.calibrate true with dle := { (s.calibrate true).dle with rounding := mode } }) hdue rfl rfl hc hd 4 [0])
  · rw [exec_setRounding, execSetRounding, State.request_taken ht, kindOf_setRounding]
    exact congrArg Host.Outcome.next (State.answered_calibrate hr false 4 _)
  · rw [exec_setRounding, execSetRounding, State.request_taken ht, kindOf_setRounding, roundingOf_of_outside h1 h2]
    exact congrArg Host.Outcome.next (State.answered_calibrate hr true 4 _)

end Sys2Proof.Machine
end

section
/-! PROOFS. What an event leaves to the meters, to the refreshes and to finalization alone: the clock, the counts, the hold
table and the figures of a delivery that holds its meter. Neither the displays, the gate, the step sequence nor the end of a
drain moves them, and no point that is FINISHED or free is given or loses a record by these (R70 to R80, R160 to R170). -/

namespace Sys2Proof.Machine

/-! ## The two relations -/

/-- Two records of the same figures, running or final. -/
def DeliveryRecord.SameFigures (r q : DeliveryRecord) : Prop :=
  q.net = r.net ∧ q.reverse = r.reverse ∧ q.volume = r.volume ∧ q.amount = r.amount ∧ q.final = r.final

/-- A delivery goes on with its figures. -/
def PointData.KeepsSale (d e : PointData) : Prop :=
  d.st.delivering = true → e.st.delivering = true ∧ ∀ r, d.current = some r → ∃ q, e.current = some q ∧ r.SameFigures q

theorem PointData.KeepsSale.trans {d e f : PointData} (h : d.KeepsSale e) (k : e.KeepsSale f) : d.KeepsSale f := by
  intro hd
  obtain ⟨he, hcur⟩ := h hd
  obtain ⟨hf, hcur'⟩ := k he
  refine ⟨hf, fun r hr => ?_⟩
  obtain ⟨q, hq, hnet, hreverse, hvolume, hamount, hfinal⟩ := hcur r hr
  obtain ⟨q', hq', hnet', hreverse', hvolume', hamount', hfinal'⟩ := hcur' q hq
  exact ⟨q', hq', hnet'.trans hnet, hreverse'.trans hreverse, hvolume'.trans hvolume, hamount'.trans hamount,
    hfinal'.trans hfinal⟩

/-- A point that delivers with records of the same figures. -/
theorem PointData.KeepsSale.of_map {d e : PointData} (hst : d.st.delivering = true → e.st.delivering = true)
    (f : DeliveryRecord → DeliveryRecord) (hcur : e.current = d.current.map f) (hf : ∀ r : DeliveryRecord, r.SameFigures (f r)) :
    d.KeepsSale e :=
  fun hd => ⟨hst hd, fun r hr => ⟨f r, by rw [hcur, hr]; rfl, hf r⟩⟩

theorem PointData.KeepsSale.of_current {d e : PointData} (hst : d.st.delivering = true → e.st.delivering = true)
    (hcur : e.current = d.current) : d.KeepsSale e :=
  .of_map hst id (by simp [hcur]) fun _ => ⟨rfl, rfl, rfl, rfl, rfl⟩

/-- A FINISHED point stays as it is, and a free one free with its records. -/
structure PointData.StaysSettled (d e : PointData) : Prop where
  finished : d.st = .finished → e = d
  free : d.st.free = true → e.st.free = true ∧ e.current = d.current ∧ e.previous = d.previous
    ∧ (d.auth = none → e.auth = none)

theorem PointData.StaysSettled.refl (d : PointData) : d.StaysSettled d := ⟨fun _ => rfl, fun h => ⟨h, rfl, rfl, id⟩⟩

theorem PointData.StaysSettled.trans {d e f : PointData} (h : d.StaysSettled e) (k : e.StaysSettled f) :
    d.StaysSettled f where
  finished hd := by
    have he := h.finished hd
    exact (k.finished (by rw [he, hd])).trans he
  free hd := by
    obtain ⟨he, hcur, hprev, hauth⟩ := h.free hd
    obtain ⟨hf, hcur', hprev', hauth'⟩ := k.free he
    exact ⟨hf, hcur'.trans hcur, hprev'.trans hprev, hauth' ∘ hauth⟩

/-- A point that sells may do as it likes here. -/
theorem PointData.StaysSettled.of_selling {d : PointData} (h : d.st.selling = true) (e : PointData) : d.StaysSettled e := by
  constructor <;> intro hd <;> cases hst : d.st <;> simp_all [PointSt.selling, PointSt.free]

/-- The clock, the counts, the hold table and the figures of deliveries stand. -/
structure State.KeepsSales (s t : State) : Prop where
  now : t.now = s.now
  pins : t.pins = s.pins
  display : t.display = s.display
  holders : t.dle.holders = s.dle.holders
  valves : ∀ m, (s.channel m).ValvesOnly (t.channel m)
  due : ∀ x, (t.side x).refreshDue = (s.side x).refreshDue
  sale : ∀ p, s.holds p = true → (s.point p).KeepsSale (t.point p)

/-- The shown figures, what the RTM has been handed, and the points that do not sell stand besides. -/
structure State.Stands (s t : State) : Prop extends State.KeepsSales s t where
  shown : ∀ x, (t.side x).shown = (s.side x).shown
  rtm : t.rtm = { s.rtm with dirtyConfig := t.rtm.dirtyConfig, dirtyDeliveries := t.rtm.dirtyDeliveries }
  settled : ∀ p, (s.point p).StaysSettled (t.point p)

theorem State.holds_congr {s t : State} (h : t.dle.holders = s.dle.holders) (p : Point) : t.holds p = s.holds p :=
  congrArg Option.isSome (State.heldBy_congr h p)

theorem State.KeepsSales.trans {s t u : State} (h : s.KeepsSales t) (k : t.KeepsSales u) : s.KeepsSales u where
  now := k.now.trans h.now
  pins := k.pins.trans h.pins
  display := k.display.trans h.display
  holders := k.holders.trans h.holders
  valves m := (h.valves m).trans (k.valves m)
  due x := (k.due x).trans (h.due x)
  sale p hp := (h.sale p hp).trans (k.sale p (by rw [State.holds_congr h.holders, hp]))

/-- An update of one point at which a held sale goes on. -/
theorem State.KeepsSales.mapPoint (s : State) (p : Point) (f : PointData → PointData)
    (h : s.holds p = true → (s.point p).KeepsSale (f (s.point p))) : s.KeepsSales (s.mapPoint p f) where
  now := rfl
  pins := rfl
  display := rfl
  holders := rfl
  valves _ := .refl _
  due _ := rfl
  sale q hq := by
    rw [State.point_mapPoint]
    split
    · rename_i hqp
      subst hqp
      exact h hq
    · exact .of_current id rfl

namespace State.Stands

variable {s t u : State}

theorem trans (h : s.Stands t) (k : t.Stands u) : s.Stands u where
  toKeepsSales := h.toKeepsSales.trans k.toKeepsSales
  shown x := (k.shown x).trans (h.shown x)
  rtm := by rw [k.rtm, h.rtm]
  settled p := (h.settled p).trans (k.settled p)

/-! ## Updates of the state -/

/-- An update of fields that the relation does not name. -/
theorem of_fields (now : t.now = s.now) (pins : t.pins = s.pins) (display : t.display = s.display)
    (holders : t.dle.holders = s.dle.holders) (miu : t.miu = s.miu) (points : t.points = s.points)
    (ddu : ∀ x, (t.side x).refreshDue = (s.side x).refreshDue ∧ (t.side x).shown = (s.side x).shown)
    (rtm : t.rtm = { s.rtm with dirtyConfig := t.rtm.dirtyConfig, dirtyDeliveries := t.rtm.dirtyDeliveries }) :
    s.Stands t := by
  have hpoint (p : Point) : t.point p = s.point p := by rw [State.point, points]; rfl
  refine ⟨⟨now, pins, display, holders, fun m => ?_, fun x => (ddu x).1, fun p _ => ?_⟩, fun x => (ddu x).2, rtm, fun p => ?_⟩
  · rw [State.channel, State.channel, miu]
    exact .refl _
  · rw [hpoint]
    exact .of_current id rfl
  · rw [hpoint]
    exact .refl _

theorem refl (s : State) : s.Stands s := .of_fields rfl rfl rfl rfl rfl rfl (fun _ => ⟨rfl, rfl⟩) rfl

theorem mapPsc (s : State) (f : Psc → Psc) : s.Stands (s.mapPsc f) :=
  .of_fields rfl rfl rfl rfl rfl rfl (fun _ => ⟨rfl, rfl⟩) rfl

theorem mapCrg (s : State) (f : Crg → Crg) : s.Stands (s.mapCrg f) :=
  .of_fields rfl rfl rfl rfl rfl rfl (fun _ => ⟨rfl, rfl⟩) rfl

theorem mapPou (s : State) (p : Point) (f : Pou → Pou) : s.Stands (s.mapPou p f) :=
  .of_fields rfl rfl rfl rfl rfl rfl (fun _ => ⟨rfl, rfl⟩) rfl

theorem setMotor (s : State) (m : Meter) (x : Motor) : s.Stands (s.setMotor m x) :=
  .of_fields rfl rfl rfl rfl rfl rfl (fun _ => ⟨rfl, rfl⟩) rfl

theorem post (s : State) (target : ReportTarget) (data : ReportData) : s.Stands (s.post target data) :=
  .of_fields rfl rfl rfl rfl rfl rfl (fun _ => ⟨rfl, rfl⟩) rfl

theorem touchConfig (s : State) : s.Stands s.touchConfig :=
  .of_fields rfl rfl rfl rfl rfl rfl (fun _ => ⟨rfl, rfl⟩) rfl

theorem touchDeliveries (s : State) : s.Stands s.touchDeliveries :=
  .of_fields rfl rfl rfl rfl rfl rfl (fun _ => ⟨rfl, rfl⟩) rfl

theorem allMotorsOff (s : State) : s.Stands s.allMotorsOff :=
  .of_fields rfl rfl rfl rfl rfl rfl (fun _ => ⟨rfl, rfl⟩) rfl

theorem removeWaiter (s : State) (p : Point) : s.Stands (s.removeWaiter p) :=
  .of_fields rfl rfl rfl rfl rfl rfl (fun _ => ⟨rfl, rfl⟩) rfl

theorem changed (s : State) (c : Condition) (v : Bool) : s.Stands (s.changed c v) := by
  unfold State.changed
  split
  · exact .post s _ _
  · exact .refl s

/-- An update of one side that leaves its shown figures and its next refresh. -/
theorem mapSide (s : State) (x : Side) (f : DduSide → DduSide) (hdue : (f (s.side x)).refreshDue = (s.side x).refreshDue)
    (hshown : (f (s.side x)).shown = (s.side x).shown) : s.Stands (s.mapSide x f) := by
  refine .of_fields rfl rfl rfl rfl rfl rfl (fun y => ?_) rfl
  simp only [State.side, State.mapSide_ddu, Pair.get_set] at hdue hshown ⊢
  split
  · rename_i hy
    subst hy
    exact ⟨hdue, hshown⟩
  · exact ⟨rfl, rfl⟩

theorem mapPoint (s : State) (p : Point) (f : PointData → PointData)
    (h : s.holds p = true → (s.point p).KeepsSale (f (s.point p))) (hsettled : (s.point p).StaysSettled (f (s.point p))) :
    s.Stands (s.mapPoint p f) where
  toKeepsSales := .mapPoint s p f h
  shown _ := rfl
  rtm := rfl
  settled q := by
    rw [State.point_mapPoint]
    split
    · rename_i hqp
      subst hqp
      exact hsettled
    · exact .refl _

/-- A point that holds no sale and is neither FINISHED nor free may be given any data. -/
theorem mapPoint_idle (s : State) (p : Point) (f : PointData → PointData) (hst : (s.point p).st.selling = true)
    (hheld : s.holds p = false ∨ (s.point p).st.delivering = false) : s.Stands (s.mapPoint p f) := by
  refine .mapPoint s p f (fun hp hd => ?_) (.of_selling hst _)
  rcases hheld with h | h
  · simp [h] at hp
  · simp [h] at hd

theorem mapCurrent (s : State) (p : Point) (f : DeliveryRecord → DeliveryRecord) (hst : (s.point p).st.selling = true)
    (hf : ∀ r : DeliveryRecord, r.SameFigures (f r)) : s.Stands (s.mapCurrent p f) :=
  .mapPoint s p _ (fun _ => .of_map id f rfl hf) (.of_selling hst _)

theorem commandValves (s : State) (m : Meter) (x y : Bool) : s.Stands (s.commandValves m x y) := by
  have hpoint (p : Point) : (s.commandValves m x y).point p = s.point p := by simp [State.point]
  refine ⟨⟨by simp, by simp, by simp, by simp, fun j => s.commandValves_valves m j x y, fun z => by simp [State.side],
    fun p _ => ?_⟩, fun z => by simp [State.side], by simp, fun p => ?_⟩
  · rw [hpoint]
    exact .of_current id rfl
  · rw [hpoint]
    exact .refl _

/-! ## The motors and the opening of valves -/

theorem openValves (s : State) (p : Point) (m : Meter) (r : DeliveryRecord) (hst : (s.point p).st = .starting) :
    s.Stands (s.openValves p m r) := by
  have hpoint : (s.commandValves m (decide (r.nSlow ≠ 0) && !hasFired (s.channel m).slow) true).point p = s.point p := by
    simp [State.point]
  unfold State.openValves
  dsimp only
  refine (State.Stands.commandValves s m _ true).trans (.trans (.mapPoint _ p _ (fun _ => .of_current (fun _ => ?_) rfl) ?_)
    ((State.Stands.mapPou _ p _).trans ((State.Stands.touchDeliveries _).trans (.post _ _ _))))
  · dsimp only
    split <;> rfl
  · exact .of_selling (by rw [hpoint, hst]; rfl) _

theorem tryOpen (s : State) (p : Point) : s.Stands (s.tryOpen p) := by
  unfold State.tryOpen
  dsimp only
  split
  · split
    · rename_i h
      exact .openValves s p _ _ h.1
    · exact .refl s
  · exact .refl s

theorem tryOpenHolder (s : State) (m : Meter) : s.Stands (s.tryOpenHolder m) := by
  unfold State.tryOpenHolder
  split
  · exact .tryOpen s _
  · exact .refl s

theorem grant (s : State) (m : Meter) (rest : List Meter) : s.Stands (s.grant m rest) :=
  ((State.Stands.mapPsc s _).trans (.setMotor _ m _)).trans (.tryOpenHolder _ m)

theorem testHead (s : State) (fuel : Nat) : s.Stands (s.testHead fuel) := by
  induction fuel generalizing s with
  | zero => exact .refl s
  | succ n ih =>
    unfold State.testHead
    split
    · exact .refl s
    · split
      · exact (State.Stands.grant s _ _).trans (ih _)
      · exact .refl s

theorem withdrawStart (s : State) (m : Meter) : s.Stands (s.withdrawStart m) := by
  unfold State.withdrawStart
  dsimp only
  split
  · exact (State.Stands.mapPsc s _).trans (.testHead _ _)
  · exact .mapPsc s _

theorem dropMotor (s : State) (m : Meter) : s.Stands (s.dropMotor m) := by
  unfold State.dropMotor
  dsimp only
  split
  · exact (State.Stands.setMotor s m _).trans (.withdrawStart _ m)
  · exact .setMotor s m _
  · exact .refl s
  · exact .refl s

/-! ## Stops -/

theorem withdrawZero (s : State) (x : Side) : s.Stands (s.withdrawZero x) := .mapSide s x _ rfl rfl

theorem enterStopping (s : State) (p : Point) (m : Meter) (c : StopCause) (hst : (s.point p).st.selling = true) :
    s.Stands (s.enterStopping p m c) := by
  have hstop : s.Stands (s.mapPoint p fun d => d.stopped c s.now) :=
    .mapPoint s p _ (fun _ => .of_map (fun _ => rfl) _ rfl fun _ => ⟨rfl, rfl, rfl, rfl, rfl⟩) (.of_selling hst _)
  rw [State.enterStopping_eq]
  exact hstop.trans ((State.Stands.commandValves _ m _ _).trans ((State.Stands.dropMotor _ m).trans
    ((State.Stands.withdrawZero _ p).trans ((State.Stands.touchDeliveries _).trans (.post _ _ _)))))

theorem stopHolder (s : State) (p : Point) (c : StopCause) : s.Stands (s.stopHolder p c) := by
  unfold State.stopHolder
  split
  · split
    · rename_i h
      refine .enterStopping s p _ c ?_
      rcases h with h | h
      · rw [h]
        rfl
      · cases hst : (s.point p).st <;> simp_all [PointSt.flowing, PointSt.selling]
    · exact .refl s
  · exact .refl s

theorem zeroFailed (s : State) (x : Side) : s.Stands (s.zeroFailed x) := by
  unfold State.zeroFailed
  dsimp only
  split
  · exact (State.Stands.withdrawZero s x).trans (.stopHolder _ x _)
  · exact .withdrawZero s x

/-! ## The free states -/

/-- A free point adopts the newest generation (R38, R39). -/
theorem adopt (s : State) (p : Point) (hst : (s.point p).st.free = true) : s.Stands (s.adopt p) := by
  have hretire (u : State) : u.Stands u.retire := by
    unfold State.retire
    split
    · exact .refl u
    · exact .of_fields rfl rfl rfl rfl rfl rfl (fun _ => ⟨rfl, rfl⟩) rfl
  unfold State.adopt
  dsimp only
  split
  · exact .refl s
  · refine (State.Stands.mapPoint s p _ (fun _ => .of_current id rfl) ⟨fun h => ?_, fun h => ⟨h, rfl, rfl, id⟩⟩).trans
      ((hretire _).trans (.post _ _ _))
    rw [h] at hst
    cases hst

/-- A point with no held sale that is not FINISHED is stripped of what its sale held. -/
theorem toFree (s : State) (p : Point) {st : PointSt} (hfree : st.free = true) (hfin : (s.point p).st ≠ .finished)
    (hheld : s.holds p = false ∨ (s.point p).st.delivering = false) : s.Stands (s.mapPoint p (·.toFree st)) := by
  refine .mapPoint s p _ (fun hp hd => ?_) ⟨fun h => absurd h hfin, fun _ => ⟨hfree, rfl, rfl, fun _ => rfl⟩⟩
  rcases hheld with h | h
  · simp [h] at hp
  · simp [h] at hd

theorem enterClosed (s : State) (p : Point) (hfin : (s.point p).st ≠ .finished)
    (hheld : s.holds p = false ∨ (s.point p).st.delivering = false) : s.Stands (s.enterClosed p) :=
  (State.Stands.toFree s p (st := .closed) rfl hfin hheld).trans
    (.adopt _ p (by rw [State.point_mapPoint, if_pos rfl]; rfl))

/-- An idle point with a nozzle up calls (R57). -/
theorem callIfUp (s : State) (p : Point) (hst : (s.point p).st.free = true) : s.Stands (s.callIfUp p) := by
  unfold State.callIfUp
  split
  · exact .refl s
  · refine (State.Stands.mapPoint s p _ (fun _ hd => ?_) ⟨fun h => ?_, fun _ => ⟨rfl, rfl, rfl, id⟩⟩).trans (.post _ _ _)
    · cases h : (s.point p).st <;> simp_all [PointSt.free, PointSt.delivering]
    · rw [h] at hst
      cases hst

theorem enterIdle (s : State) (p : Point) (hfin : (s.point p).st ≠ .finished)
    (hheld : s.holds p = false ∨ (s.point p).st.delivering = false) : s.Stands (s.enterIdle p) := by
  have hpoint : (s.mapPoint p (·.toFree .idle)).point p = (s.point p).toFree .idle := by
    rw [State.point_mapPoint, if_pos rfl]
  have hidle := State.Stands.toFree s p (st := .idle) rfl hfin hheld
  have hadopt := State.Stands.adopt (s.mapPoint p (·.toFree .idle)) p (by rw [hpoint]; rfl)
  refine hidle.trans (hadopt.trans (.callIfUp _ p ?_))
  rw [State.adopt_point, if_pos rfl, hpoint]
  rfl

/-! ## Permission and sessions (R76) -/

theorem endAuthorization (s : State) (p : Point) (r : AuthEnd) (hfin : (s.point p).st ≠ .finished)
    (hheld : s.holds p = false ∨ (s.point p).st.delivering = false) : s.Stands (s.endAuthorization p r) :=
  (State.Stands.post s _ _).trans (.enterIdle _ p hfin hheld)

theorem leaveStarting (s : State) (p : Point) (hwait : s.waiting p = true) : s.Stands (s.leaveStarting p) := by
  simp only [State.waiting, Bool.and_eq_true, decide_eq_true_eq, Bool.not_eq_true'] at hwait
  obtain ⟨hst, hholds⟩ := hwait
  exact (State.Stands.removeWaiter s p).trans
    ((State.Stands.mapPoint_idle (s.removeWaiter p) p _ (congrArg PointSt.selling hst) (.inl hholds)).trans
      (.touchDeliveries _))

theorem endPermission (s : State) (p : Point) (r : AuthEnd) (c : StopCause) : s.Stands (s.endPermission p r c) := by
  unfold State.endPermission
  split
  · rename_i h
    exact .endAuthorization s p r (by simp [h]) (.inr (by rw [h]; rfl))
  · split
    · rename_i h
      refine (State.Stands.leaveStarting s p h).trans (.endAuthorization _ p r ?_ (.inl ?_))
      · simp only [State.waiting, Bool.and_eq_true, decide_eq_true_eq] at h
        simp [State.leaveStarting, State.discard, State.point, State.removeWaiter]
        rw [← State.point, h.1]
        simp
      · simp only [State.waiting, Bool.and_eq_true, Bool.not_eq_true'] at h
        exact h.2
    · split
      · exact .stopHolder s p c
      · exact .refl s

theorem sessionEnd (s : State) (n : Nat) : s.Stands (s.sessionEnd n) := by
  have hpoint (u : State) (p : Point) : u.Stands (u.sessionEndPoint p n) := by
    unfold State.sessionEndPoint
    split
    · exact .endPermission u p _ _
    · exact .refl u
  exact (hpoint s .a).trans (hpoint _ .b)

/-! ## The gate (R130 to R148) -/

theorem flushOutbound (s : State) : s.Stands s.flushOutbound := by
  have hposts (l : List Outbound) (u : State) :
      u.Stands (l.foldl (fun s e => s.post .none (.readerOutboundEnd e.tag .flushed)) u) := by
    induction l generalizing u with
    | nil => exact .refl u
    | cons e l ih => exact (State.Stands.post u _ _).trans (ih _)
  unfold State.flushOutbound
  exact (hposts s.crg.outbound s).trans (.mapCrg _ _)

theorem tellSessionEnd (s : State) (session : Option Nat) : s.Stands (s.tellSessionEnd session) := by
  unfold State.tellSessionEnd
  split
  · exact .sessionEnd s _
  · exact .refl s

theorem moveGate (s : State) (c : GateCause) (f : Crg → Crg) : s.Stands (s.moveGate c f) := by
  unfold State.moveGate
  exact (State.Stands.flushOutbound s).trans ((State.Stands.mapCrg _ _).trans
    ((State.Stands.post _ _ _).trans (.tellSessionEnd _ _)))

theorem readerOnFromOff (s : State) (c : GateCause) : s.Stands (s.readerOnFromOff c) := by
  unfold State.readerOnFromOff State.powerGate
  exact .moveGate s c _

theorem readerOffAct (s : State) (c : GateCause) : s.Stands (s.readerOffAct c) := by
  unfold State.readerOffAct
  split
  · exact .refl s
  · exact .moveGate s c _

/-! ## The loads and the displays (R118, R121, R158) -/

theorem endTest (s : State) (x : Side) (r : TestResult) : s.Stands (s.endTest x r) := by
  unfold State.endTest
  split
  · exact .refl s
  · have hended : s.Stands (s.mapSide x fun d => { d with test := none }) := .mapSide s x _ rfl rfl
    dsimp only
    split
    · have hcleared := hended.trans (.mapSide _ x (·.clearFaults) rfl rfl)
      split
      · exact hcleared.trans ((State.Stands.changed _ _ _).trans (.post _ _ _))
      · exact hcleared.trans (.post _ _ _)
    · exact hended.trans (.post _ _ _)

theorem darken (s : State) (x : Side) : s.Stands (s.darken x) := by
  unfold State.darken
  split
  · exact .refl s
  · dsimp only
    split
    · exact .endTest s x _
    · exact (State.Stands.endTest s x _).trans (.zeroFailed _ x)

theorem setDrive (s : State) (l : Load) (on : Bool) : s.Stands (s.setDrive l on) := by
  have hdrive : s.Stands (s.mapPsc fun c => { c with drives := c.drives.with l on }) := .mapPsc s _
  unfold State.setDrive
  dsimp only
  split
  · split
    · exact hdrive
    · exact hdrive.trans (.readerOffAct _ _)
  · split
    · exact hdrive.trans (.darken _ _)
    · exact hdrive

theorem allOff (s : State) : s.Stands s.allOff :=
  (State.Stands.mapPsc s _).trans ((State.Stands.darken _ .a).trans ((State.Stands.darken _ .b).trans (.readerOffAct _ _)))

theorem enterPower (s : State) (p : PowerSt) (c : PowerCause) : s.Stands (s.enterPower p c) :=
  (State.Stands.mapPsc s _).trans (.post _ _ _)

theorem driveHeaters (s : State) : s.Stands s.driveHeaters := by
  unfold State.driveHeaters
  split
  · exact .mapPsc s _
  · exact .refl s

/-! ## The step sequence (R160 to R163) -/

theorem openPoints (s : State) : s.Stands s.openPoints := by
  have hpoint (u : State) (p : Point) : u.Stands (u.openPoint p) := by
    unfold State.openPoint
    split
    · rename_i h
      exact .enterIdle u p (by simp [h]) (.inr (by rw [h]; rfl))
    · exact .refl u
  exact (hpoint s .a).trans (hpoint _ .b)

theorem sequenceDone (s : State) : s.Stands s.sequenceDone :=
  (State.Stands.mapPsc s _).trans ((State.Stands.enterPower _ _ _).trans
    ((State.Stands.openPoints _).trans (.driveHeaters _)))

theorem halt (s : State) : s.Stands s.halt :=
  (State.Stands.mapPsc s _).trans ((State.Stands.enterPower _ _ _).trans (.allOff _))

theorem applyAction (s : State) (st : PowerStep) : s.Stands (s.applyAction st).1 := by
  unfold State.applyAction
  split
  · exact .refl s
  · dsimp only
    split
    · exact (State.Stands.setDrive s _ _).trans (.readerOnFromOff _ _)
    · exact State.Stands.setDrive s .reader st.turnOn
  · exact .setDrive s _ _

theorem startSequenceTest (s : State) (x : Side) : s.Stands (s.startSequenceTest x) := by
  unfold State.startSequenceTest
  exact .mapSide s x _ rfl rfl

theorem enterCheck (s : State) (st : PowerStep) : s.Stands (s.enterCheck st).1 := by
  unfold State.enterCheck
  dsimp only
  split
  · exact .refl s
  · exact .refl s
  · exact .refl s
  · split
    · exact .refl s
    · exact State.Stands.startSequenceTest s _

theorem reportFailure (s : State) (n : Nat) (st : PowerStep) (r : StepReason) (ddu : Nat) (a : StepAction) :
    s.Stands (s.reportFailure n st r ddu a) :=
  (State.Stands.mapPsc s _).trans (.post _ _ _)

theorem enterRetryWait (s : State) (n : Nat) (st : PowerStep) : s.Stands (s.enterRetryWait n st) := by
  have hwait := (State.Stands.mapPsc s fun c => { c with retries := c.retries + 1 }).trans
    (.mapPsc _ fun c => { c with cursor := some { step := n, phase := .retryWait, since := s.now } })
  unfold State.enterRetryWait
  dsimp only
  split
  · exact hwait.trans (.setDrive _ _ _)
  · exact hwait

theorem runSteps (fuel : Nat) (move : StepMove) (s : State) : s.Stands (s.runSteps fuel move) := by
  induction fuel generalizing move s with
  | zero => exact .refl s
  | succ fuel ih =>
    cases move with
    | begins n =>
      unfold State.runSteps
      split
      · exact .sequenceDone s
      · rename_i st _
        have hbegun := (State.Stands.mapPsc s fun c => { c with cursor := some { step := n, phase := .settle, since := s.now } }).trans
          (.applyAction _ st)
        dsimp only
        split
        · exact hbegun.trans (ih _ _)
        · split
          · exact hbegun.trans (ih _ _)
          · exact hbegun
    | checks =>
      unfold State.runSteps
      split
      · exact .refl s
      · rename_i n st _
        have hchecked := (State.Stands.mapPsc s fun c => { c with cursor := some { step := n, phase := .check, since := s.now } }).trans
          (.enterCheck _ st)
        split
        · rename_i u move heq
          have hu : ((s.place n .check).enterCheck st).1 = u := congrArg Prod.fst heq
          exact (hu ▸ hchecked : s.Stands u).trans (ih _ _)
        · rename_i u heq
          have hu : ((s.place n .check).enterCheck st).1 = u := congrArg Prod.fst heq
          exact hu ▸ hchecked
    | passes =>
      unfold State.runSteps
      split
      · exact .refl s
      · exact (State.Stands.mapPsc s _).trans (ih _ _)
    | fails r ddu =>
      unfold State.runSteps
      split
      · exact .refl s
      · split
        · exact (State.Stands.reportFailure s _ _ r ddu _).trans (.halt _)
        · exact (State.Stands.reportFailure s _ _ r ddu _).trans ((State.Stands.mapPsc _ _).trans (ih _ _))
        · split
          · have hretry (n : Nat) (st : PowerStep) :=
              (State.Stands.reportFailure s n st r ddu .retry).trans (.enterRetryWait _ n st)
            dsimp only
            split
            · exact (hretry _ _).trans (ih _ _)
            · exact hretry _ _
          · exact (State.Stands.reportFailure s _ _ r ddu _).trans (.halt _)

theorem advanceSteps (s : State) (move : StepMove) : s.Stands (s.advanceSteps move) := .runSteps _ move s

theorem gateNotice (s : State) : s.Stands s.gateNotice := by
  unfold State.gateNotice
  split
  · split
    · exact .advanceSteps s _
    · split
      · exact .advanceSteps s _
      · exact .refl s
  · exact .refl s

theorem testNotice (s : State) (x : Side) (r : TestResult) : s.Stands (s.testNotice x r) := by
  unfold State.testNotice
  split
  · split <;> exact .advanceSteps s _
  · exact .refl s

/-! ## The end of a drain (R169, R170) -/

theorem drainPoints (s : State) : s.Stands s.drainPoints := by
  have hpoint (u : State) (p : Point) : u.Stands (u.drainPoint p) := by
    unfold State.drainPoint
    split
    · rename_i h
      rcases h with h | h <;> exact .enterClosed u p (by simp [h]) (.inr (by rw [h]; rfl))
    · exact .refl u
  exact (hpoint s .a).trans (hpoint _ .b)

theorem shutNext (s : State) : s.Stands s.shutNext := by
  unfold State.shutNext
  split
  · exact .mapPsc s _
  · exact (State.Stands.mapPsc s _).trans (.setDrive _ _ _)

theorem completeDrain (s : State) : s.Stands s.completeDrain :=
  (State.Stands.drainPoints s).trans ((State.Stands.allMotorsOff _).trans ((State.Stands.enterPower _ _ _).trans
    ((State.Stands.mapPsc _ _).trans (.shutNext _))))

theorem drainTest (s before : State) : s.Stands (s.drainTest before) := by
  unfold State.drainTest
  split
  · exact .completeDrain s
  · exact .refl s

end State.Stands

/-- The hand-over of an event's changes moves the retained memory alone (R97). -/
theorem State.KeepsSales.commit (s : State) : s.KeepsSales s.commit := by
  refine ⟨by simp, by simp, by simp, by simp, fun m => ?_, fun x => by simp [State.side], fun p _ => ?_⟩
  · rw [State.commit_channel]
    exact .refl _
  · rw [State.commit_point]
    exact .of_current id rfl

/-- The end of an event keeps the sales (R97, R161, R169). -/
theorem State.KeepsSales.settle (s before : State) : s.KeepsSales (s.settle before) :=
  (State.Stands.gateNotice s).toKeepsSales.trans ((State.Stands.drainTest _ before).toKeepsSales.trans (.commit _))

end Sys2Proof.Machine
end

section
/-! PROOFS. The quiet expiry (R30, R59, R61, R62, R70, R71, R94, R176): the final record, the meter released or handed over,
and what the finalization tells the displays, the pulse output and the host. -/

namespace Sys2Proof.Machine

/-! ## The parts of a finalization -/

/-- A point whose delivery is finalized with a record (R70). -/
def PointData.finishedWith (d : PointData) (r : DeliveryRecord) : PointData :=
  { d with st := .finished, current := some r, auth := none, authDue := none, position := none, zeroPassed := false
           noFlowDue := none, quietDue := none }

/-- The final record of a delivery of a meter at this moment (R30, R70). -/
def State.finalRecord (s : State) (m : Meter) (r : DeliveryRecord) : DeliveryRecord :=
  r.finalized (s.channel m).net (s.channel m).reverse s.stamp

/-- The final record is written and handed to the RTM, and the meter is still held (R70, R94). -/
def State.recordFinal (s : State) (p : Point) (r : DeliveryRecord) : State :=
  (s.mapPoint p (·.finishedWith r)).handFinalization p r

/-- The display and the pulse output of a point are told of its final record (R90, R111, R123). -/
def State.tellFinal (s : State) (p : Point) (r : DeliveryRecord) : State :=
  ((s.mapSide p (·.final r.volume r.amount)).mapPou p (·.endNotice)).holdFinished p

/-- The finalization is reported, and a delivery of 0 cl is cleared (R70, R71). -/
def State.reportFinal (s : State) (p : Point) (r : DeliveryRecord) : State :=
  if r.volume = 0 then (s.post (.point p) (.deliveryFinished r)).clearRecord p else s.post (.point p) (.deliveryFinished r)

/-- A finalization whose release of the meter leaves the final record at its point. -/
theorem State.finish_eq {s u : State} {p : Point} {m : Meter} {r : DeliveryRecord} (hheld : s.heldBy p = some m)
    (hcur : (s.point p).current = some r) (hu : (s.recordFinal p (s.finalRecord m r)).releaseMeter m = u)
    (hkept : (u.point p).current = some (s.finalRecord m r)) :
    s.finish p = (u.tellFinal p (s.finalRecord m r)).reportFinal p (s.finalRecord m r) := by
  have hfinal : s.finalize p m r = u.tellFinal p (s.finalRecord m r) := by
    rw [← hu]
    rfl
  have hkept' : ((u.tellFinal p (s.finalRecord m r)).point p).current = some (s.finalRecord m r) := by
    rw [← hkept]
    simp [State.tellFinal, State.point]
  simp only [State.finish, hheld, hcur, hfinal, hkept', State.reportFinal]

/-! ## The addition (R94) -/

/-- The additions that the RTM has been handed and whose record's write has not ended (R97). -/
def Rtm.handed (r : Rtm) : List Addition := r.unwritten ++ r.carried

theorem Rtm.mem_handed_takeDeliveries {r : Rtm} {x : Addition} (h : x ∈ r.handed) (image : DeliveriesImage) :
    x ∈ (r.takeDeliveries image).handed := by
  rcases r.takeDeliveries_cases image with ⟨-, -, -, heq⟩ | ⟨-, heq⟩ <;> rw [heq]
  · simpa [Rtm.handed, or_comm] using h
  · exact h

theorem State.mem_handed_commitDeliveries {s : State} {x : Addition} (h : x ∈ s.rtm.handed) :
    x ∈ s.commitDeliveries.rtm.handed := by
  unfold State.commitDeliveries
  split
  · exact Rtm.mem_handed_takeDeliveries (r := { s.rtm with dirtyDeliveries := false }) h _
  · exact h

theorem State.mem_handed_commit {s : State} {x : Addition} (h : x ∈ s.rtm.handed) : x ∈ s.commit.rtm.handed := by
  refine State.mem_handed_commitDeliveries ?_
  unfold State.commitConfig
  split
  · exact h
  · exact h

theorem State.recordFinal_handed (s : State) (p : Point) (r : DeliveryRecord) :
    additionOf p r ∈ (s.recordFinal p r).rtm.handed := by
  unfold State.recordFinal State.handFinalization
  exact State.mem_handed_commitDeliveries (by simp [Rtm.handed])

theorem State.Stands.handed {s t : State} (h : s.Stands t) : t.rtm.handed = s.rtm.handed := by
  rw [Rtm.handed, h.rtm]
  rfl

/-! ## Entry to a free state (R71) -/

/-- A point is free with these records and no authorization. -/
structure PointData.FreedFrom (d e : PointData) : Prop where
  st : e.st.free = true
  current : e.current = d.current
  previous : e.previous = d.previous
  auth : e.auth = none

theorem State.enterIdle_freed (s : State) (p : Point) : (s.point p).FreedFrom ((s.enterIdle p).point p) := by
  have hadopt : ((s.mapPoint p (·.toFree .idle)).adopt p).point p =
      { (s.point p).toFree .idle with generation := s.ptu.newest } := by
    rw [State.adopt_point, if_pos rfl, State.point_mapPoint, if_pos rfl]
    rfl
  unfold State.enterIdle State.callIfUp
  split
  · rw [hadopt]
    exact ⟨rfl, rfl, rfl, rfl⟩
  · have hcall (u : State) (f : PointData → PointData) (target : ReportTarget) (data : ReportData) :
        ((u.mapPoint p f).post target data).point p = f (u.point p) := by simp [State.point]
    rw [hcall, hadopt]
    exact ⟨rfl, rfl, rfl, rfl⟩

theorem State.enterClosed_freed (s : State) (p : Point) : (s.point p).FreedFrom ((s.enterClosed p).point p) := by
  unfold State.enterClosed
  rw [State.adopt_point, if_pos rfl, State.point_mapPoint, if_pos rfl]
  exact ⟨rfl, rfl, rfl, rfl⟩

theorem State.enterFree_freed (s : State) (p : Point) : (s.point p).FreedFrom ((s.enterFree p).point p) := by
  unfold State.enterFree
  split
  · exact s.enterIdle_freed p
  · exact s.enterClosed_freed p

/-- The other point is not moved, and the RTM has been handed no more. -/
theorem State.enterFree_rest (s : State) (p : Point) :
    (s.enterFree p).point p.other = s.point p.other ∧ (s.enterFree p).rtm.handed = s.rtm.handed := by
  have hpo := Point.other_ne p
  have hadopt (st : PointSt) (hst : st.free = true) :
      ((s.mapPoint p (·.toFree st)).adopt p).point p.other = s.point p.other
        ∧ ((s.mapPoint p (·.toFree st)).adopt p).rtm.handed = s.rtm.handed := by
    refine ⟨by rw [State.adopt_point, if_neg hpo, State.point_mapPoint, if_neg hpo], ?_⟩
    exact (State.Stands.adopt _ p (by rw [State.point_mapPoint, if_pos rfl]; exact hst)).handed
  unfold State.enterFree State.enterIdle State.enterClosed State.callIfUp
  split
  · split
    · exact hadopt .idle rfl
    · have hcall (u : State) (f : PointData → PointData) (target : ReportTarget) (data : ReportData) :
          ((u.mapPoint p f).post target data).point p.other = u.point p.other := by simp [State.point, hpo]
      rw [hcall]
      exact hadopt .idle rfl
  · exact hadopt .closed rfl

/-! ## What the reports of a finalization leave -/

theorem State.holdFinished_shown (s : State) (x y : Side) : ((s.holdFinished x).side y).shown = (s.side y).shown := by
  have hset (u : State) (h : Hold) : ((u.mapSide x fun d => { d with hold := h }).side y).shown = (u.side y).shown := by
    simp only [State.side, State.mapSide_ddu, Pair.get_set]
    split
    · rename_i hy
      rw [hy]
    · rfl
  unfold State.holdFinished State.takeHold State.endHold
  split
  · dsimp only
    split
    · split
      · exact hset _ _
      · exact (hset _ _).trans (hset _ _)
    · exact hset _ _
  · rfl

theorem State.holdFinished_other (s : State) {x y : Side} (h : y ≠ x) : (s.holdFinished x).side y = s.side y := by
  unfold State.holdFinished State.takeHold State.endHold
  (repeat' (first | split | dsimp only)) <;> simp [State.side, h]

/-- What the display, the pulse output and the host are told of a finalization leaves of every other block, and of the point
itself unless it is cleared. -/
structure State.SaleClosed (s t : State) (p : Point) (r : DeliveryRecord) : Prop where
  now : t.now = s.now
  pins : t.pins = s.pins
  miu : t.miu = s.miu
  dle : t.dle = s.dle
  display : t.display = s.display
  crg : t.crg = s.crg
  psc : t.psc = s.psc
  handed : t.rtm.handed = s.rtm.handed
  shown : (t.side p).shown = ⟨r.volume, r.amount, true⟩
  point : r.volume ≠ 0 → t.point p = s.point p
  cleared : r.volume = 0 → PointData.FreedFrom { s.point p with current := none, previous := (s.point p).current } (t.point p)
  others : t.point p.other = s.point p.other ∧ t.side p.other = s.side p.other
    ∧ t.pou.get p.other = s.pou.get p.other

theorem State.saleClosed (s : State) (p : Point) (r : DeliveryRecord) :
    s.SaleClosed ((s.tellFinal p r).reportFinal p r) p r := by
  have hpo := Point.other_ne p
  have hpoint (q : Point) : (s.tellFinal p r).point q = s.point q := by simp [State.tellFinal, State.point]
  have hshown : ((s.tellFinal p r).side p).shown = ⟨r.volume, r.amount, true⟩ := by
    rw [State.tellFinal, State.holdFinished_shown]
    simp [State.side, DduSide.final]
  have hside : (s.tellFinal p r).side p.other = s.side p.other := by
    rw [State.tellFinal, State.holdFinished_other _ hpo]
    simp [State.side, hpo]
  have hpou : (s.tellFinal p r).pou.get p.other = s.pou.get p.other := by simp [State.tellFinal, hpo]
  have hrtm : (s.tellFinal p r).rtm = s.rtm := by simp [State.tellFinal]
  unfold State.reportFinal
  split
  · rename_i hzero
    have hclear : ((s.tellFinal p r).post (.point p) (.deliveryFinished r)).clearRecord p =
        ((((s.tellFinal p r).post (.point p) (.deliveryFinished r)).mapPoint p fun d =>
          { d with previous := d.current, current := none, saleTable := none, figuresAt := none
          }).touchDeliveries).enterFree p := rfl
    generalize hv : (((s.tellFinal p r).post (.point p) (.deliveryFinished r)).mapPoint p fun d =>
          { d with previous := d.current, current := none, saleTable := none, figuresAt := none
          }).touchDeliveries = v at hclear
    have hvp : v.point p = { s.point p with
        previous := (s.point p).current, current := none, saleTable := none, figuresAt := none } := by
      rw [← hpoint, ← hv]
      simp [State.point]
    have hvo : v.point p.other = s.point p.other := by
      rw [← hpoint, ← hv]
      simp [State.point, hpo]
    have hfreed := v.enterFree_freed p
    obtain ⟨hother, hhanded⟩ := v.enterFree_rest p
    rw [hclear]
    refine ⟨?_, ?_, ?_, ?_, ?_, ?_, ?_, ?_, ?_, fun h => absurd hzero h, fun _ => ⟨hfreed.st, ?_, ?_, hfreed.auth⟩,
      hother.trans hvo, ?_, ?_⟩
    · simp [← hv, State.tellFinal]
    · simp [← hv, State.tellFinal]
    · simp [← hv, State.tellFinal]
    · simp [← hv, State.tellFinal]
    · simp [← hv, State.tellFinal]
    · simp [← hv, State.tellFinal]
    · simp [← hv, State.tellFinal]
    · rw [hhanded, ← hrtm, ← hv]
      rfl
    · rw [← hshown, ← hv]
      simp [State.side]
    · rw [hfreed.current, hvp]
    · rw [hfreed.previous, hvp]
    · rw [← hside, ← hv]
      simp [State.side]
    · rw [← hpou, ← hv]
      simp
  · rename_i hne
    refine ⟨?_, ?_, ?_, ?_, ?_, ?_, ?_, congrArg Rtm.handed hrtm, hshown, fun _ => hpoint p, fun h => absurd h hne,
      hpoint p.other, hside, hpou⟩ <;> simp [State.tellFinal]

/-! ## The meter released (R59, R62) -/

/-- The final record stands at its point before the meter moves. -/
theorem State.recordFinal_point (s : State) (p q : Point) (r : DeliveryRecord) :
    (s.recordFinal p r).point q = if q = p then (s.point p).finishedWith r else s.point q := by
  simp [State.recordFinal, State.point]

/-- A motor that runs on starts its run-on timer, or goes off at a run-on of 0 (R62). -/
theorem State.releaseMotor_dle (s : State) (m : Meter) :
    (s.releaseMotor m).dle = { s.dle with motors := (s.releaseMotor m).dle.motors }
      ∧ ((s.motor m).st = .runOn → (s.releaseMotor m).motor m =
        if (s.channel m).record.runOn = 0 then { s.motor m with st := .off }
        else { s.motor m with runOnDue := some (s.now + 1000 * (s.channel m).record.runOn) }) := by
  unfold State.releaseMotor
  dsimp only
  refine ⟨?_, fun h => ?_⟩
  · (repeat' split) <;> rfl
  · rw [if_pos h]
    split <;> simp [State.motor]

/-- A meter without a waiter is free, its compares disarmed (R6, R59). -/
structure State.Released (s t : State) (m : Meter) : Prop where
  frame : t.now = s.now ∧ t.pins = s.pins ∧ t.points = s.points ∧ t.display = s.display ∧ t.crg = s.crg ∧ t.psc = s.psc
    ∧ t.rtm = s.rtm
  channel : ∀ j, t.channel j = if j = m then (s.channel m).release else s.channel j
  holders : t.dle.holders = s.dle.holders.set m none
  motor : (s.motor m).st = .runOn → t.motor m =
    if (s.channel m).record.runOn = 0 then { s.motor m with st := .off }
    else { s.motor m with runOnDue := some (s.now + 1000 * (s.channel m).record.runOn) }

theorem State.releaseMeter_free {s : State} {m : Meter} (hw : s.dle.waiters.get m = none) :
    s.Released (s.releaseMeter m) m := by
  have heq : s.releaseMeter m = (({ s with dle := { s.dle with holders := s.dle.holders.set m none } }).mapChannel m
      (·.release)).releaseMotor m := by
    simp only [State.releaseMeter, hw]
  rw [heq]
  generalize hu : ({ s with dle := { s.dle with holders := s.dle.holders.set m none } } : State).mapChannel m (·.release) = u
  have hchannel (j : Meter) : u.channel j = if j = m then (s.channel m).release else s.channel j := by
    rw [← hu, State.channel_mapChannel]
    rfl
  obtain ⟨hdle, hmotor⟩ := u.releaseMotor_dle m
  refine ⟨by simp [← hu], fun j => ?_, ?_, fun h => ?_⟩
  · rw [← hchannel]
    simp [State.channel]
  · rw [hdle, ← hu]
    rfl
  · have hrecord : (u.channel m).record = (s.channel m).record := by rw [hchannel, if_pos rfl]; rfl
    have hstill : u.motor m = s.motor m := by rw [← hu]; rfl
    have hnow : u.now = s.now := by rw [← hu]; rfl
    rw [hstill, hrecord, hnow] at hmotor
    exact hmotor h

/-! ## The meter handed over (R59, R61) -/

/-- What a handover leaves: the waiter holds the meter with the snapshot of the moment, and the finalized point is as it
was. -/
structure State.HandedOver (s t : State) (w : Point) (m : Meter) (q : DeliveryRecord) : Prop where
  point : t.point w = { s.point w with current := some { q with snapshot := (s.channel m).counter } }
  other : t.point w.other = s.point w.other
  channel : t.channel m = (s.channel m).hold w q.nSlow q.nStop
  channels : ∀ j, j ≠ m → (s.channel j).ValvesOnly (t.channel j)
  holders : t.dle.holders = s.dle.holders.set m (some w)
  waiters : t.dle.waiters = s.dle.waiters.set m none
  pou : t.pou.get w = (s.pou.get w).startNotice q.seq m q.vapour (s.dle.timings.get w).divider
  side : t.side w = (s.side w).asked
  motor : s.motorDemanded t m
  psc : t.psc = { s.psc with startQueue := t.psc.startQueue, lastGrant := t.psc.lastGrant }
  blocks : t.now = s.now ∧ t.pins = s.pins ∧ t.display = s.display ∧ t.crg = s.crg

theorem State.releaseMeter_waiter {s : State} {w : Point} {m : Meter} {q : DeliveryRecord}
    (hw : s.dle.waiters.get m = some w) (hcur : (s.point w).current = some q) (hzero : (s.point w).zeroPassed = false)
    (hother : (s.point w.other).st ≠ .starting) (hon : s.refreshing w = true) (hgood : (s.side w).sideFault = false) :
    s.HandedOver (s.releaseMeter m) w m q := by
  have heq : s.releaseMeter m =
      (({ s with dle := { s.dle with waiters := s.dle.waiters.set m none } } : State).held w m q).demandMotor m := by
    have hrelease : s.releaseMeter m =
        ({ s with dle := { s.dle with waiters := s.dle.waiters.set m none } } : State).becomeHolder w m := by
      simp only [State.releaseMeter, hw]
    rw [hrelease]
    exact State.becomeHolder_eq (s := { s with dle := { s.dle with waiters := s.dle.waiters.set m none } }) hcur hon hgood
  rw [heq]
  generalize hu : ({ s with dle := { s.dle with waiters := s.dle.waiters.set m none } } : State).held w m q = u
  have hpoint : u.point w = { s.point w with current := some { q with snapshot := (s.channel m).counter } } := by
    rw [← hu]
    simp [State.held, State.point, State.channel]
  have hpoint' : u.point w.other = s.point w.other := by
    rw [← hu]
    simp [State.held, State.point, Point.other_ne]
  have hno (x : Point) : ¬ u.mayOpen x := by
    rintro ⟨hst, hpassed, -⟩
    by_cases hx : x = w
    · rw [hx, hpoint] at hpassed
      simp [hzero] at hpassed
    · rw [Point.eq_other_of_ne hx, hpoint'] at hst
      exact hother hst
  have hholders : u.dle.holders = s.dle.holders.set m (some w) := by rw [← hu]; rfl
  have hchannel (j : Meter) : u.channel j = if j = m then (s.channel m).hold w q.nSlow q.nStop else s.channel j := by
    rw [← hu]
    simp [State.held, State.channel]
  have hgrants := State.Grants.demandMotor u m
  obtain ⟨hnow, -, hpins, -, hddu, hdisplay, hcrg, -⟩ := u.demandMotor_frame m
  refine ⟨(hgrants.point w (hno w)).trans hpoint, (hgrants.point _ (hno _)).trans hpoint', ?_, fun j hj => ?_,
    hgrants.holders.trans hholders, ?_, ?_, ?_, ?_, ?_, ?_⟩
  · rw [hgrants.channel w m (hno w) (by rw [hholders]; simp), hchannel, if_pos rfl]
  · have hvalves := hgrants.valves j
    rwa [hchannel, if_neg hj] at hvalves
  · rw [hgrants.waiters, ← hu]
    rfl
  · rw [hgrants.pou w (hno w), ← hu]
    simp [State.held]
  · rw [State.side, hddu, ← hu]
    simp [State.held, State.side]
  · exact (State.motorDemanded_congr (s := s) (s' := u) (by rw [← hu]; rfl) (by rw [← hu]; rfl) rfl rfl rfl).1
      (u.demandMotor_demanded m)
  · have hpsc := hgrants.psc
    have hupsc : u.psc = s.psc := by rw [← hu]; rfl
    rwa [hupsc] at hpsc
  · rw [hnow, hpins, hdisplay, hcrg, ← hu]
    exact ⟨rfl, rfl, rfl, rfl⟩

/-! ## The end of the event -/

theorem exec_quietExpiry {s : State} {p : Point} {due : Nat} (hr : s.runs = true) (hdue : (s.point p).quietDue = some due) :
    exec (.quietExpiry p) s = .next (((s.reach due).finish p).settle s) := by
  have hexec : exec (.quietExpiry p) s = execQuietExpiry p s := rfl
  rw [hexec, execQuietExpiry, hdue]
  exact State.event_some (State.powered_of_runs hr)

/-- An event that leaves the gate, and of the power controller all but the start queue, starts no step. -/
theorem State.settle_eq_drain {s t : State} (hr : s.runs = true) (hcrg : t.crg = s.crg)
    (hpsc : t.psc = { s.psc with startQueue := t.psc.startQueue, lastGrant := t.psc.lastGrant }) :
    t.settle s = (t.drainTest s).commit := by
  obtain ⟨-, -, -, hn⟩ := State.runs_iff.1 hr
  have hchecking : t.psc.checking .readerOpen = s.psc.checking .readerOpen := by rw [hpsc]; rfl
  rw [State.settle, State.gateNotice_of_noStepDue (State.noStepDue_congr (by rw [hcrg]) hchecking hn)]

/-- No drain completes while a point sells (R169). -/
theorem State.drainTest_of_selling {s t : State} {p : Point} (h : (t.point p).st.selling = true) : t.drainTest s = t := by
  have hany : t.anySelling = true := by
    simp only [State.anySelling, List.any_eq_true]
    exact ⟨p, by cases p <;> decide, h⟩
  simp [State.drainTest, hany]

/-- What the final record moves before the meter is released. -/
theorem State.recordFinal_frame (s : State) (p : Point) (f : DeliveryRecord) :
    (s.recordFinal p f).now = s.now ∧ (s.recordFinal p f).pins = s.pins ∧ (s.recordFinal p f).miu = s.miu
      ∧ (s.recordFinal p f).dle = s.dle ∧ (s.recordFinal p f).ddu = s.ddu ∧ (s.recordFinal p f).pou = s.pou
      ∧ (s.recordFinal p f).display = s.display ∧ (s.recordFinal p f).crg = s.crg
      ∧ (s.recordFinal p f).psc = s.psc := by
  simp [State.recordFinal]

section
variable {s : State} {p : Point} {m : Meter} {r : DeliveryRecord} (hheld : s.heldBy p = some m)
  (hcur : (s.point p).current = some r)
include hheld hcur

/-- A finalization of a meter without a waiter (R59, R70). -/
theorem State.finish_released (hwait : s.dle.waiters.get m = none) :
    ∃ b, (s.recordFinal p (s.finalRecord m r)).Released b m ∧ b.SaleClosed (s.finish p) p (s.finalRecord m r) := by
  generalize hf : s.finalRecord m r = f
  obtain ⟨-, -, -, hdle, -⟩ := s.recordFinal_frame p f
  have hrel := State.releaseMeter_free (s := s.recordFinal p f) (m := m) (by rw [hdle, hwait])
  obtain ⟨-, -, hpoints, -⟩ := hrel.frame
  refine ⟨_, hrel, ?_⟩
  rw [State.finish_eq hheld hcur rfl, hf]
  · exact State.saleClosed _ p f
  · rw [hf, State.point, hpoints, ← State.point, State.recordFinal_point, if_pos rfl]
    rfl

/-- A finalization of a meter that the other point waits for (R59, R61, R70). -/
theorem State.finish_handedOver {q : DeliveryRecord} (hwait : s.dle.waiters.get m = some p.other)
    (hcur' : (s.point p.other).current = some q) (hzero : (s.point p.other).zeroPassed = false)
    (hon : s.refreshing p.other = true) (hgood : (s.side p.other).sideFault = false) :
    ∃ b, (s.recordFinal p (s.finalRecord m r)).HandedOver b p.other m q
      ∧ b.SaleClosed (s.finish p) p (s.finalRecord m r) := by
  generalize hf : s.finalRecord m r = f
  obtain ⟨-, -, -, hdle, hddu, -, -, -, hpsc⟩ := s.recordFinal_frame p f
  have hpoint := s.recordFinal_point p p f
  have hpoint' := s.recordFinal_point p p.other f
  have hside : (s.recordFinal p f).side p.other = s.side p.other := by rw [State.side, hddu]; rfl
  rw [if_pos rfl] at hpoint
  rw [if_neg (Point.other_ne p)] at hpoint'
  have hover := State.releaseMeter_waiter (s := s.recordFinal p f) (m := m) (w := p.other) (q := q)
    (by rw [hdle, hwait]) (by rw [hpoint', hcur']) (by rw [hpoint', hzero])
    (by rw [Point.other_other, hpoint]; intro h; cases h)
    ((State.refreshing_congr (s := s) (by rw [hpsc]) (by rw [hside])).trans hon)
    (by rw [hside, hgood])
  have hkept := hover.other
  rw [Point.other_other, hpoint] at hkept
  refine ⟨_, hover, ?_⟩
  rw [State.finish_eq hheld hcur rfl, hf]
  · exact State.saleClosed _ p f
  · rw [hf, hkept]
    rfl

end

/-- Settles O33: the parts of the finalization in their order. Without a waiter the end of a drain may follow, which leaves
a point that does not sell as it is; a new holder sells, so that none follows. -/
theorem quietExpiryFinalizes : Obligations.QuietExpiryFinalizes := by
  refine ⟨fun s p m due r hr hdue _ hheld hwait hcur => ?_,
    fun s p m due r q hr hdue _ hheld hcur hwait hst _ hcur' hzero hon hgood => ?_⟩
  · intro net final
    have hfinal : final = (s.reach due).finalRecord m r := rfl
    clear_value final
    obtain ⟨b, hrel, hclosed⟩ := State.finish_released (s := s.reach due) hheld hcur hwait
    rw [exec_quietExpiry hr hdue]
    generalize (s.reach due).finish p = u at hclosed ⊢
    rw [← hfinal] at hrel hclosed
    have hpoint := (s.reach due).recordFinal_point p p final
    have hhanded := (s.reach due).recordFinal_handed p final
    obtain ⟨hnow, hpins, hmiu, hdle, -, -, hdisplay, hcrg, hpsc⟩ := (s.reach due).recordFinal_frame p final
    generalize (s.reach due).recordFinal p final = a at hrel hpoint hhanded hnow hpins hmiu hdle hdisplay hcrg hpsc
    rw [if_pos rfl] at hpoint
    obtain ⟨hnow', hpins', hpoints', hdisplay', hcrg', hpsc', hrtm'⟩ := hrel.frame
    have hbp : b.point p = (s.point p).finishedWith final := by
      rw [State.point, hpoints']
      exact hpoint
    have hupsc : u.psc = s.psc := hclosed.psc.trans (hpsc'.trans hpsc)
    have hunow : u.now = max s.now due := hclosed.now.trans (hnow'.trans hnow)
    have huchannel (j : Meter) : u.channel j = if j = m then (s.channel m).release else s.channel j := by
      have hj := hrel.channel j
      have hachannel (i : Meter) : a.channel i = s.channel i := by rw [State.channel, hmiu]; rfl
      rw [hachannel, hachannel] at hj
      rw [← hj, State.channel, hclosed.miu]
      rfl
    have huholders : u.dle.holders = s.dle.holders.set m none := by
      rw [hclosed.dle, hrel.holders, hdle]
      rfl
    have hstands := State.Stands.drainTest u s
    have hvalves (j : Meter) := (hstands.valves j).counts
    have hsettled := hstands.settled p
    have hcleared := hclosed.cleared
    rw [hbp] at hcleared
    have hfinished (hv : final.volume ≠ 0) : u.point p = (s.point p).finishedWith final := (hclosed.point hv).trans hbp
    rw [State.settle_eq_drain hr (hclosed.crg.trans (hcrg'.trans hcrg)) (by rw [hupsc])]
    refine ⟨_, rfl, ?_⟩
    obtain ⟨hcounter, -, -, hholder, -, -, -, hslow, hstop⟩ := hvalves m
    rw [huchannel, if_pos rfl] at hcounter hholder hslow hstop
    have hmem : additionOf p final ∈ (u.drainTest s).commit.rtm.handed := by
      refine State.mem_handed_commit ?_
      rw [hstands.handed, hclosed.handed, hrtm']
      exact hhanded
    simp only [State.commit_point, State.commit_channel, State.commit_frame, State.side, State.motor]
    refine ⟨?_, hholder, hslow, hstop, hcounter, ?_, hstands.now.trans hunow, ?_, ?_, fun j hj => ⟨?_, ?_, ?_⟩, hmem,
      fun hv => ⟨?_, ?_, ?_⟩, fun hv => ⟨?_, ?_, ?_⟩, fun hrunOn hpower => ?_⟩
    · rw [hstands.holders, huholders]
      simp
    · by_cases hv : final.volume = 0
      · obtain ⟨-, -, -, hauth⟩ := hsettled.free (hcleared hv).st
        exact hauth (hcleared hv).auth
      · rw [hsettled.finished (by rw [hfinished hv]; rfl), hfinished hv]
        rfl
    · rw [hstands.pins, hclosed.pins, hpins', hpins]
      rfl
    · rw [hstands.display, hclosed.display, hdisplay', hdisplay]
      rfl
    · obtain ⟨hcounter, -⟩ := hvalves j
      rw [hcounter, huchannel, if_neg hj]
    · obtain ⟨-, -, -, hholder, -⟩ := hvalves j
      rw [hholder, huchannel, if_neg hj]
    · rw [hstands.holders, huholders]
      simp [hj]
    · rw [hsettled.finished (by rw [hfinished hv]; rfl), hfinished hv]
      rfl
    · rw [hsettled.finished (by rw [hfinished hv]; rfl), hfinished hv]
      rfl
    · exact (hstands.shown p).trans hclosed.shown
    · exact (hsettled.free (hcleared hv).st).1
    · obtain ⟨-, hcurrent, -⟩ := hsettled.free (hcleared hv).st
      rw [hcurrent, (hcleared hv).current]
    · obtain ⟨-, -, hprevious, -⟩ := hsettled.free (hcleared hv).st
      rw [hprevious, (hcleared hv).previous]
      rfl
    · have hmotor := hrel.motor
      have hamotor : a.motor m = s.motor m := by rw [State.motor, hdle]; rfl
      have harecord : (a.channel m).record = (s.channel m).record := by rw [State.channel, hmiu]; rfl
      rw [hamotor, harecord, hnow] at hmotor
      rw [State.drainTest_of_power (by rw [hupsc]; exact hpower), hclosed.dle, hunow]
      exact hmotor hrunOn
  · dsimp only
    obtain ⟨b, hover, hclosed⟩ := State.finish_handedOver (s := s.reach due) hheld hcur hwait hcur' hzero hon hgood
    rw [exec_quietExpiry hr hdue]
    generalize (s.reach due).finish p = u at hclosed ⊢
    generalize (s.reach due).finalRecord m r = f at hover hclosed
    have hpoint := (s.reach due).recordFinal_point p p.other f
    obtain ⟨hnow, hpins, hmiu, hdle, hddu, hpou, hdisplay, hcrg, hpsc⟩ := (s.reach due).recordFinal_frame p f
    generalize (s.reach due).recordFinal p f = a at hover hpoint hnow hpins hmiu hdle hddu hpou hdisplay hcrg hpsc
    rw [if_neg (Point.other_ne p)] at hpoint
    obtain ⟨hnow', hpins', hdisplay', hcrg'⟩ := hover.blocks
    obtain ⟨hpoint', hside', hpou'⟩ := hclosed.others
    have hachannel (j : Meter) : a.channel j = s.channel j := by rw [State.channel, hmiu]; rfl
    have huchannel (j : Meter) : u.channel j = b.channel j := by rw [State.channel, hclosed.miu]; rfl
    have hw : u.point p.other = { s.point p.other with current := some { q with snapshot := (s.channel m).counter } } := by
      rw [hpoint', hover.point, hpoint, hachannel]
      rfl
    have hchannel : u.channel m = (s.channel m).hold p.other q.nSlow q.nStop := by
      rw [huchannel, hover.channel, hachannel]
    have hpsc' : u.psc = { s.psc with startQueue := u.psc.startQueue, lastGrant := u.psc.lastGrant } := by
      have hb := hover.psc
      rw [hpsc] at hb
      rw [hclosed.psc]
      exact hb
    have hsells : (u.point p.other).st.selling = true := by
      rw [hw]
      exact congrArg PointSt.selling hst
    rw [State.settle_eq_drain hr (hclosed.crg.trans (hcrg'.trans hcrg)) hpsc', State.drainTest_of_selling hsells]
    refine ⟨_, rfl, ?_⟩
    have hmotor : s.motorDemanded u.commit m :=
      (State.motorDemanded_congr (s := a) (s' := s) (t := b) (by rw [hdle]; rfl) (by rw [hpsc]; rfl)
        (by simp [hclosed.dle]) (by simp [hclosed.psc]) (by simp [hclosed.now])).2 hover.motor
    simp only [State.commit_point, State.commit_channel, State.commit_frame, State.side, hw, hchannel, hclosed.dle]
    refine ⟨?_, ?_, rfl, rfl, rfl, rfl, rfl, rfl, hst, trivial, trivial, ?_, hmotor, ?_, ?_, ?_,
      hclosed.now.trans (hnow'.trans hnow), hclosed.pins.trans (hpins'.trans hpins),
      hclosed.display.trans (hdisplay'.trans hdisplay), fun j hj => ?_⟩
    · rw [hover.holders]
      simp
    · rw [hover.waiters]
      simp
    · rw [← State.side, hside', hover.side]
      exact DduSide.asked_zero _
    · rw [hpou', hover.pou]
      rfl
    · rw [hpou', hover.pou]
      rfl
    · rw [hpou', hover.pou]
      rfl
    · obtain ⟨hcounter, -, -, hholder, -⟩ := (hover.channels j hj).counts
      rw [huchannel, hcounter, hholder, hachannel]
      exact ⟨rfl, rfl⟩

end Sys2Proof.Machine
end

section
/-! PROOFS. What a refresh of a side drives and judges (R108 to R115): the symbols of a figure, the mismatch counts, the
running figures that come before, and the faults that follow. -/

namespace Sys2Proof.Machine

/-! ## The symbols of a figure (R108) -/

theorem figureSymbols_get (w p figure i : Nat) (hi : i < w) :
    (figureSymbols w p figure)[i]? = some
      (if p < w - 1 - i ∧ min figure (10 ^ w - 1) < 10 ^ (w - 1 - i) then .blank
        else .digit (min figure (10 ^ w - 1) / 10 ^ (w - 1 - i) % 10) (decide (w - 1 - i = p ∧ 0 < p))) := by
  have hleading (v n : Nat) : v / 10 ^ n = 0 ↔ v < 10 ^ n := by
    rw [Nat.div_eq_zero_iff, or_iff_right (by positivity)]
  rw [figureSymbols, List.getElem?_map, List.getElem?_range hi, Option.map_some]
  simp only [hleading, Bool.decide_and]

theorem figureSymbols_length (w p figure : Nat) : (figureSymbols w p figure).length = w := by simp [figureSymbols]

/-! ## The judgement of one position (R112) -/

/-- The sense of a position is not this byte; no sense is none (R112). -/
def senseDiffers (sense : Option (List Byte)) (i : Nat) (byte : Option Byte) : Bool :=
  match sense with
  | none => true
  | some l => decide (l[i]? ≠ byte)

/-- What comes back from a position is not what was driven. -/
def comesBackWrong (sense : Option (List Byte)) (i : Nat) (y : Symbol) : Bool := senseDiffers sense i (some y.segments)

theorem differs_get (driven : List Symbol) (sense : Option (List Byte)) (i : Nat) :
    (differs driven sense)[i]? = driven[i]?.map (comesBackWrong sense i) := by
  cases sense with
  | none => rw [differs, List.getElem?_map]; rfl
  | some l =>
    simp only [differs, List.getElem?_map, List.getElem?_zipIdx, Option.map_map, Nat.zero_add]
    rfl

/-- The positions at which a refresh comes back wrong: every one of them where it is not judged (R112, R117). -/
def listedPositions (judged : Bool) (driven : List Symbol) (sense : Option (List Byte)) : List Bool :=
  if judged then differs driven sense else (differs driven sense).map fun _ => true

theorem listedPositions_get (judged : Bool) (driven : List Symbol) (sense : Option (List Byte)) (i : Nat) :
    (listedPositions judged driven sense)[i]? = driven[i]?.map fun y => !judged || comesBackWrong sense i y := by
  cases judged with
  | false => simp only [listedPositions, Bool.false_eq_true, if_false, List.getElem?_map, differs_get, Option.map_map]; rfl
  | true => simp only [listedPositions, if_true, differs_get]; rfl

/-- A list has a `true` in its first places. -/
theorem any_take_iff (l : List Bool) (n : Nat) : (l.take n).any id = true ↔ ∃ i < n, l[i]? = some true := by
  rw [List.any_eq_true]
  constructor
  · rintro ⟨b, hb, rfl : b = true⟩
    obtain ⟨i, hi⟩ := List.mem_iff_getElem?.1 hb
    rw [List.getElem?_take] at hi
    split at hi
    · exact ⟨i, ‹_›, hi⟩
    · cases hi
  · rintro ⟨i, hi, hl⟩
    refine ⟨true, List.mem_iff_getElem?.2 ⟨i, ?_⟩, rfl⟩
    rw [List.getElem?_take, if_pos hi, hl]

namespace DduSide

variable (d : DduSide) (diff : List Bool)

/-- The positions that a refresh faults. -/
def newly : List Bool := (d.judge diff).2

/-- The side with the counts and faults of a refresh. -/
def judgedSide : DduSide := (d.judge diff).1

/-- A refresh sets the side fault: it faults a position of a figure window, and the fault is clear (R113). -/
def setsFault : Bool := ((d.newly diff).take figurePositions).any id && !d.sideFault

theorem judgedSide_eq : d.judgedSide diff =
    { d with counts := (d.judgedSide diff).counts, faulted := (d.judgedSide diff).faulted } := rfl

variable {d diff}

theorem judge_get {i c : Nat} {f e : Bool} (hc : d.counts[i]? = some c) (hf : d.faulted[i]? = some f)
    (he : diff[i]? = some e) :
    (d.judgedSide diff).counts[i]? = some (judgedCount c f e)
      ∧ (d.judgedSide diff).faulted[i]? = some (f || decide (3 ≤ judgedCount c f e))
      ∧ (d.newly diff)[i]? = some (decide (3 ≤ judgedCount c f e) && !f) := by
  have hzip {α β : Type} {l : List α} {k : List β} {x : α} {y : β} (hx : l[i]? = some x) (hy : k[i]? = some y) :
      (l.zip k)[i]? = some (x, y) := List.getElem?_zip_eq_some.2 ⟨hx, hy⟩
  have hcounts : (d.judgedSide diff).counts[i]? = some (judgedCount c f e) := by
    simp only [judgedSide, judge, List.getElem?_map, hzip hc (hzip hf he), Option.map_some]
  have hnewly : (d.newly diff)[i]? = some (decide (3 ≤ judgedCount c f e) && !f) := by
    change (((d.judgedSide diff).counts.zip d.faulted).map _)[i]? = _
    simp only [List.getElem?_map, hzip hcounts hf, Option.map_some]
  refine ⟨hcounts, ?_, hnewly⟩
  change ((d.faulted.zip (d.newly diff)).map _)[i]? = _
  rw [List.getElem?_map, hzip hf hnewly]
  cases f <;> simp

/-- A position faults only at a refresh that comes back wrong there. -/
theorem of_newly {i : Nat} (h : (d.newly diff)[i]? = some true) : diff[i]? = some true := by
  change (((d.judgedSide diff).counts.zip d.faulted).map _)[i]? = _ at h
  rw [List.getElem?_map, Option.map_eq_some_iff] at h
  obtain ⟨⟨c, f⟩, hzip, hnew⟩ := h
  obtain ⟨hc, hf⟩ := List.getElem?_zip_eq_some.1 hzip
  change ((d.counts.zip (d.faulted.zip diff)).map _)[i]? = _ at hc
  rw [List.getElem?_map, Option.map_eq_some_iff] at hc
  obtain ⟨⟨c', f', e⟩, hzip', hcount⟩ := hc
  obtain ⟨-, hfe⟩ := List.getElem?_zip_eq_some.1 hzip'
  obtain ⟨hf', he⟩ := List.getElem?_zip_eq_some.1 hfe
  obtain rfl : f' = f := Option.some.inj (hf'.symm.trans hf)
  cases e with
  | true => exact he
  | false =>
    subst hcount
    cases f' <;> simp [judgedCount] at hnew

/-- The side fault sets only at a refresh that comes back wrong in a figure window. -/
theorem any_of_setsFault (h : d.setsFault diff = true) : (diff.take figurePositions).any id = true := by
  rw [setsFault, Bool.and_eq_true, any_take_iff] at h
  obtain ⟨⟨i, hi, hnew⟩, -⟩ := h
  exact (any_take_iff _ _).2 ⟨i, hi, of_newly hnew⟩

end DduSide

/-! ## Sides -/

theorem State.side_mapSide (s : State) (x y : Side) (f : DduSide → DduSide) :
    (s.mapSide x f).side y = if y = x then f (s.side x) else s.side y := by
  simp only [State.side, State.mapSide_ddu, Pair.get_set]

theorem State.side_mapSide_self (s : State) (x : Side) (f : DduSide → DduSide) :
    (s.mapSide x f).side x = f (s.side x) := by
  rw [State.side_mapSide, if_pos rfl]

@[simp] theorem State.changed_side (s : State) (c : Condition) (v : Bool) (x : Side) : (s.changed c v).side x = s.side x := by
  simp [State.side]

@[simp] theorem State.changed_point (s : State) (c : Condition) (v : Bool) (p : Point) :
    (s.changed c v).point p = s.point p := by
  simp [State.point]

@[simp] theorem State.commit_side (s : State) (x : Side) : s.commit.side x = s.side x := by simp [State.side]

theorem State.refuseWaiter_side (s : State) (w : Point) (r : LiftRefusal) (x : Side) :
    (s.refuseWaiter w r).side x = s.side x := by
  simp [State.side]

/-- A stop withdraws the zero check of its side (R118). -/
theorem State.enterStopping_side (s : State) (x : Side) (m : Meter) (c : StopCause) :
    (s.enterStopping x m c).side x = { s.side x with zero := .none } := by
  rw [State.enterStopping_eq]
  simp [State.side, State.withdrawZero, State.shut]

/-- Of a side, a stop can move the zero check alone. -/
theorem State.stopHolder_side (s : State) (x : Side) (c : StopCause) :
    (s.stopHolder x c).side x = { s.side x with zero := ((s.stopHolder x c).side x).zero } := by
  obtain h | ⟨m, -, h⟩ := s.stopHolder_cases x c <;> rw [h]
  rw [State.enterStopping_side]

/-! ## Moves of the sides -/

theorem State.Moves.mapSide (s : State) (x : Side) (f : DduSide → DduSide) : s.Moves (s.mapSide x f) :=
  ⟨rfl, fun _ => .refl _, fun _ h => h⟩

theorem State.Moves.changed (s : State) (c : Condition) (v : Bool) : s.Moves (s.changed c v) := by
  refine ⟨by simp, fun m => ?_, fun p h => by rwa [State.changed_point]⟩
  rw [State.changed_channel]
  exact .refl _

/-! ## The running figures of a refresh instant (R22, R109) -/

/-- The next instant is set. -/
def State.instantCome (s : State) (x : Side) : State :=
  (s.reach (s.side x).refreshDue).mapSide x fun d => { d with refreshDue := d.refreshDue + 100 }

theorem State.instantCome_side (s : State) (x : Side) :
    (s.instantCome x).side x = { s.side x with refreshDue := (s.side x).refreshDue + 100 } := by
  rw [State.instantCome, State.side_mapSide_self]
  rfl

/-- The instant has come, and the record has the figures of the net count. -/
def State.refreshBegun (s : State) (x : Side) : State := (s.instantCome x).runningFigures x

/-- Two records of the same delivery, its figures apart. -/
def DeliveryRecord.SameSale (r q : DeliveryRecord) : Prop :=
  q.seq = r.seq ∧ q.flags = r.flags ∧ q.grade = r.grade ∧ q.level = r.level

/-- What the begin of a refresh leaves. -/
structure State.RefreshBegun (s u : State) (x : Side) : Prop where
  now : u.now = max s.now (s.side x).refreshDue
  pins : u.pins = s.pins
  display : u.display = s.display
  miu : u.miu = s.miu
  dle : u.dle = s.dle
  ptu : u.ptu = s.ptu
  crg : u.crg = s.crg
  psc : u.psc = s.psc
  st : ∀ p, (u.point p).st = (s.point p).st
  generation : (u.point x).generation = (s.point x).generation
  auth : (u.point x).auth = (s.point x).auth
  current : (s.point x).current = none ∧ (u.point x).current = none
    ∨ ∃ r q, (s.point x).current = some r ∧ (u.point x).current = some q ∧ r.SameSale q
  side : u.side x = { s.side x with refreshDue := (s.side x).refreshDue + 100, shown := (u.side x).shown }
  idle : s.heldBy x = none ∨ (s.point x).st.delivering = false → u.points = s.points
  figured : ∀ m r, s.heldBy x = some m → (s.point x).current = some r → (s.point x).st.delivering = true →
    (u.point x).current = some (r.figured (s.channel m).net (s.channel m).reverse)

theorem DduSide.running_eq (d : DduSide) (volume amount : Nat) :
    d.running volume amount = { d with shown := (d.running volume amount).shown } := by
  unfold DduSide.running
  split <;> rfl

theorem State.runningFigures_of_not {s : State} {x : Side}
    (h : s.heldBy x = none ∨ (s.point x).current = none ∨ (s.point x).st.delivering = false) : s.runningFigures x = s := by
  unfold State.runningFigures
  split
  · rename_i m r hm hr
    rcases h with h | h | h
    · rw [hm] at h
      cases h
    · rw [hr] at h
      cases h
    · rw [if_neg (by simp [h])]
  · rfl

/-- A point's record is given running figures, and they are handed to its side (R22, R111). -/
def State.withFigures (s : State) (x : Side) (q : DeliveryRecord) : State :=
  ((s.mapPoint x fun d => { d with current := some q, figuresAt := some s.stamp }).mapSide x
    (·.running q.volume q.amount)).touchDeliveries

theorem State.withFigures_point (s : State) (x y : Side) (q : DeliveryRecord) : (s.withFigures x q).point y =
    if y = x then { s.point x with current := some q, figuresAt := some s.stamp } else s.point y := by
  simp [State.withFigures, State.point]

theorem State.withFigures_side (s : State) (x : Side) (q : DeliveryRecord) :
    (s.withFigures x q).side x = (s.side x).running q.volume q.amount := by
  simp [State.withFigures, State.side]

theorem State.runningFigures_eq {s : State} {x : Side} {m : Meter} {r : DeliveryRecord} (hm : s.heldBy x = some m)
    (hr : (s.point x).current = some r) (hd : (s.point x).st.delivering = true) :
    s.runningFigures x = s.withFigures x (r.figured (s.channel m).net (s.channel m).reverse) := by
  simp only [State.runningFigures, hm, hr, hd, if_true]
  rfl

theorem State.refreshBegun_spec (s : State) (x : Side) : s.RefreshBegun (s.refreshBegun x) x := by
  have hside := s.instantCome_side x
  unfold State.refreshBegun
  by_cases h : s.heldBy x = none ∨ (s.point x).current = none ∨ (s.point x).st.delivering = false
  · rw [State.runningFigures_of_not (s := s.instantCome x) h]
    refine ⟨rfl, rfl, rfl, rfl, rfl, rfl, rfl, rfl, fun _ => rfl, rfl, rfl, ?_, by rw [hside], fun _ => rfl,
      fun m r hm hr hd => ?_⟩
    · cases hr : (s.point x).current with
      | none => exact .inl ⟨rfl, hr⟩
      | some r => exact .inr ⟨r, r, rfl, hr, rfl, rfl, rfl, rfl⟩
    · simp [hm, hr, hd] at h
  · simp only [not_or, Bool.not_eq_false] at h
    obtain ⟨hm, hr, hd⟩ := h
    obtain ⟨m, hm⟩ := Option.ne_none_iff_exists'.1 hm
    obtain ⟨r, hr⟩ := Option.ne_none_iff_exists'.1 hr
    rw [State.runningFigures_eq (s := s.instantCome x) hm hr hd]
    generalize hq : r.figured ((s.instantCome x).channel m).net ((s.instantCome x).channel m).reverse = q
    have hpoint (y : Point) := (s.instantCome x).withFigures_point x y q
    have hself := hpoint x
    rw [if_pos rfl] at hself
    refine ⟨rfl, rfl, rfl, rfl, rfl, rfl, rfl, rfl, fun y => ?_, by rw [hself]; rfl, by rw [hself]; rfl, ?_, ?_, fun h => ?_,
      fun m' r' hm' hr' _ => ?_⟩
    · rw [hpoint]
      split
      · rename_i hy
        rw [hy]
        rfl
      · rfl
    · refine .inr ⟨r, q, hr, by rw [hself], ?_⟩
      subst hq
      exact ⟨rfl, rfl, rfl, rfl⟩
    · rw [State.withFigures_side, DduSide.running_eq, hside]
    · simp [hm, hd] at h
    · obtain rfl : m = m' := Option.some.inj (hm.symm.trans hm')
      obtain rfl : r = r' := Option.some.inj (hr.symm.trans hr')
      rw [hself, ← hq]
      rfl

/-! ## What a refresh drives (R110) -/

theorem State.content_of_untested {s : State} {x : Side} (h : (s.side x).test = none) : s.content x =
    s.figureContent x ++ s.priceWindow x .p1 ++ s.priceWindow x .p2 ++ s.priceWindow x .p3 ++ s.priceWindow x .p4 := by
  have hwindows : Position.all.flatMap (s.priceWindow x) =
      s.priceWindow x .p1 ++ (s.priceWindow x .p2 ++ (s.priceWindow x .p3 ++ (s.priceWindow x .p4 ++ []))) := rfl
  simp only [State.content, h, hwindows, List.append_nil, List.append_assoc]

theorem State.figureContent_length (s : State) (x : Side) : (s.figureContent x).length = figurePositions := by
  unfold State.figureContent
  dsimp only
  split <;> simp [figureWindows, figureSymbols_length, figurePositions]

theorem State.content_length (s : State) (x : Side) : (s.content x).length = 28 := by
  have hwindow (k : Position) : (s.priceWindow x k).length = 4 := by
    unfold State.priceWindow
    dsimp only
    split
    · rfl
    · exact figureSymbols_length 4 _ _
  cases h : (s.side x).test with
  | some t => simp [State.content, h]
  | none => simp [State.content_of_untested h, State.figureContent_length, hwindow, figurePositions]

namespace State.RefreshBegun

variable {s u : State} {x : Side} (h : s.RefreshBegun u x)
include h

theorem faulted : (u.side x).faulted = (s.side x).faulted := by rw [h.side]

theorem hose (k : Position) : u.hose x k = s.hose x k := by
  rw [State.hose, h.dle]
  rfl

theorem windowCloses (g : Grade) : u.windowCloses x g = s.windowCloses x g := by
  simp only [State.windowCloses, h.hose, DduSide.windowFault, h.faulted]

theorem displayCloses (g : Grade) : u.displayCloses x g = s.displayCloses x g := by
  rw [State.displayCloses, h.windowCloses, h.side]
  rfl

theorem viewLevel : (u.point x).viewLevel = (s.point x).viewLevel := by
  have hcur : ((u.point x).current.map (·.level)).getD .one = ((s.point x).current.map (·.level)).getD .one := by
    rcases h.current with ⟨hs, hu⟩ | ⟨r, q, hs, hu, -, -, -, hlevel⟩
    · rw [hs, hu]
    · rw [hs, hu]
      exact hlevel
  simp only [PointData.viewLevel, h.st, h.auth, hcur]

theorem priceWindow (k : Position) : u.priceWindow x k = s.priceWindow x k := by
  have hentry (n : Nat) (g : Grade) : u.ptu.entry n g = s.ptu.entry n g := by rw [h.ptu]
  simp only [State.priceWindow, h.hose, hentry, h.generation, h.viewLevel, h.st, h.display, h.displayCloses]

theorem content (htest : (s.side x).test = none) : u.content x = u.figureContent x ++ s.priceWindow x .p1
    ++ s.priceWindow x .p2 ++ s.priceWindow x .p3 ++ s.priceWindow x .p4 := by
  rw [State.content_of_untested (by rw [h.side]; exact htest)]
  simp only [h.priceWindow]

theorem refreshing : u.refreshing x = s.refreshing x :=
  State.refreshing_congr (by rw [h.psc]) (by rw [h.side])

theorem good (c : Comparator) : u.good c = s.good c := by rw [State.good, h.psc]; rfl

theorem heldBy (p : Point) : u.heldBy p = s.heldBy p := State.heldBy_congr (by rw [h.dle]) p

theorem waiting : u.waiting x = s.waiting x := by
  rw [State.waiting, h.st, State.holds, h.heldBy]
  rfl

/-- A point that holds no meter, or does not deliver, is as it was. -/
theorem point (hidle : s.heldBy x = none ∨ (s.point x).st.delivering = false) : u.point x = s.point x := by
  rw [State.point, h.idle hidle]
  rfl

end State.RefreshBegun

/-! ## The faults that a judged refresh sets (R113 to R115) -/

/-- The state in which the counts and the faults are those of the refresh, reported, and marked at a FINISHED point. -/
def State.noted (s : State) (x : Side) (diff : List Bool) (noSense : Bool) : State :=
  if ((s.side x).newly diff).any id then
    ((s.mapSide x fun d => d.judgedSide diff).post (.side x)
      (.displayDigitFault ((s.side x).newly diff) noSense)).markDisplayFault x
  else s.mapSide x fun d => d.judgedSide diff

/-- The state in which the side fault is set, before the DLE has its event (R113). -/
def State.sideFaulted (s : State) (x : Side) : State :=
  (s.mapSide x fun d => { d with sideFault := true }).changed (.displayFault x) true

/-- The point waits with a grade of the list. -/
def State.waitsWith (s : State) (x : Side) (l : List Grade) : Bool :=
  s.waiting x && (s.point x).current.any fun r => decide (r.grade ∈ l)

theorem State.waiting_congr {s t : State} {x : Side} (hst : (t.point x).st = (s.point x).st)
    (hd : t.dle.holders = s.dle.holders) : t.waiting x = s.waiting x := by
  rw [State.waiting, hst, State.holds_congr hd]
  rfl

theorem State.refuseWaiter_not_waiting (s : State) (x : Side) (r : LiftRefusal) : (s.refuseWaiter x r).waiting x = false := by
  rw [State.waiting, State.refuseWaiter_point, if_pos rfl]
  rfl

theorem State.stopHolder_not_waiting {s : State} {x : Side} (h : s.waiting x = false) (c : StopCause) :
    (s.stopHolder x c).waiting x = false := by
  obtain heq | ⟨m, -, heq⟩ := s.stopHolder_cases x c <;> rw [heq]
  · exact h
  · rw [State.waiting, State.enterStopping_point]
    rfl

theorem State.sideFaultEvent_not_waiting (s : State) (x : Side) : (s.sideFaultEvent x).waiting x = false := by
  unfold State.sideFaultEvent
  split
  · exact s.refuseWaiter_not_waiting x _
  · rename_i h
    exact State.stopHolder_not_waiting (by simpa using h) _

/-- The grade-closed events of one refresh refuse a point that waits with one of the grades, once (R59, R114). -/
theorem State.gradesClosed_eq (s : State) (x : Side) (l : List Grade) :
    l.foldl (fun t g => t.gradeClosedEvent x g) s = if s.waitsWith x l then s.refuseWaiter x .gradeClosed else s := by
  have hquiet (l : List Grade) (t : State) (ht : t.waiting x = false) :
      l.foldl (fun t g => t.gradeClosedEvent x g) t = t := by
    induction l with
    | nil => rfl
    | cons g l ih => rw [List.foldl_cons, State.gradeClosedEvent, ht, Bool.false_and, if_neg (by simp), ih]
  induction l with
  | nil => simp [State.waitsWith]
  | cons g l ih =>
    have hsplit : s.waitsWith x (g :: l) =
        (s.waiting x && (s.point x).current.any (fun r => decide (r.grade = g)) || s.waitsWith x l) := by
      cases hcur : (s.point x).current <;> simp [State.waitsWith, hcur, Bool.and_or_distrib_left]
    rw [List.foldl_cons, State.gradeClosedEvent, hsplit]
    by_cases h : (s.waiting x && (s.point x).current.any fun r => decide (r.grade = g)) = true
    · rw [if_pos h, h, Bool.true_or, if_pos rfl, hquiet _ _ (s.refuseWaiter_not_waiting x _)]
    · rw [if_neg h, ih, eq_false_of_ne_true h, Bool.false_or]

/-- What follows from the counts and faults of a refresh. -/
theorem State.judgeRefresh_eq (s : State) (x : Side) (diff : List Bool) (noSense : Bool) :
    s.judgeRefresh x diff noSense =
      let y := s.noted x diff noSense
      if (s.side x).setsFault diff then (y.sideFaulted x).sideFaultEvent x
      else if ((s.side x).newly diff).any id && y.waitsWith x (y.newlyClosed s x) then y.refuseWaiter x .gradeClosed
      else y := by
  have heq : s.judgeRefresh x diff noSense =
      if ((s.side x).newly diff).any id then
        let y := ((s.mapSide x fun d => d.judgedSide diff).post (.side x)
          (.displayDigitFault ((s.side x).newly diff) noSense)).markDisplayFault x
        (y.newlyClosed s x).foldl (fun t g => t.gradeClosedEvent x g)
          (if (s.side x).setsFault diff then (y.sideFaulted x).sideFaultEvent x else y)
      else s.mapSide x fun d => d.judgedSide diff := rfl
  rw [heq, State.noted]
  by_cases hnew : ((s.side x).newly diff).any id = true
  · dsimp only
    simp only [hnew, if_true, State.gradesClosed_eq, Bool.true_and]
    by_cases hset : (s.side x).setsFault diff = true
    · simp only [hset, if_true]
      rw [State.waitsWith, State.sideFaultEvent_not_waiting, Bool.false_and, if_neg (by simp)]
    · simp only [eq_false_of_ne_true hset, Bool.false_eq_true, if_false]
  · have hset : (s.side x).setsFault diff = false := by
      by_contra hset
      rw [Bool.not_eq_false, DduSide.setsFault, Bool.and_eq_true, any_take_iff] at hset
      obtain ⟨⟨i, -, hi⟩, -⟩ := hset
      exact hnew (List.any_eq_true.2 ⟨true, List.mem_iff_getElem?.2 ⟨i, hi⟩, rfl⟩)
    simp [hnew, hset]

/-! ## The state with the faults of a refresh -/

/-- A side drives its content (R110). -/
def State.driveSide (s : State) (x : Side) : State := s.mapSide x fun d => { d with driven := s.content x }

/-- The positions that come back wrong (R112). -/
def State.wrongPositions (s : State) (x : Side) (sense : Option (List Byte)) : List Bool := differs (s.content x) sense

/-- The content is driven, and the counts and faults are those of the refresh where it is judged. -/
def State.faultsNoted (s : State) (x : Side) (sense : Option (List Byte)) : State :=
  if s.good .displaySupply then (s.driveSide x).noted x (s.wrongPositions x sense) sense.isNone else s.driveSide x

/-- The record of a FINISHED point with DISPLAY_FAULT_AT_FINISH set (R115). -/
def DeliveryRecord.displayMarked (r : DeliveryRecord) : DeliveryRecord := { r with flags := { r.flags with displayFault := true } }

/-- A point of whose side a position has become faulted (R115). -/
def PointData.displayMarked (d : PointData) : PointData :=
  if d.st = .finished then { d with current := d.current.map (·.displayMarked) } else d

theorem PointData.displayMarked_st (d : PointData) : d.displayMarked.st = d.st := by
  unfold PointData.displayMarked
  split <;> rfl

theorem State.markDisplayFault_eq (s : State) (p : Point) : s.markDisplayFault p = s.mapPoint p (·.displayMarked) := by
  unfold State.markDisplayFault
  split
  · rename_i h
    have h' : (s.points.get p).st = .finished := h
    simp [State.mapCurrent, State.mapPoint, PointData.displayMarked, h', DeliveryRecord.displayMarked]
  · rename_i h
    have h' : ¬ (s.points.get p).st = .finished := h
    cases p <;> simp_all [State.mapPoint, PointData.displayMarked]

/-- What the state with the faults of a refresh shares with the one before: of the points it may mark the side's record
alone. -/
structure State.FaultsNoted (s y : State) (x : Side) : Prop where
  keeps : s.KeepsSales y
  moves : s.Moves y
  dle : y.dle = s.dle
  crg : y.crg = s.crg
  psc : y.psc = s.psc
  st : ∀ p, (y.point p).st = (s.point p).st
  point : y.point x = s.point x ∨ y.point x = (s.point x).displayMarked

theorem State.driveSide_side (s : State) (x : Side) :
    (s.driveSide x).side x = { s.side x with driven := s.content x } := by
  rw [State.driveSide, State.side_mapSide_self]

theorem State.noted_side (s : State) (x : Side) (diff : List Bool) (noSense : Bool) :
    (s.noted x diff noSense).side x = (s.side x).judgedSide diff := by
  have h := s.side_mapSide_self x fun d => d.judgedSide diff
  unfold State.noted
  split
  · rw [State.markDisplayFault_eq]
    exact h
  · exact h

/-- A fault of any position marks the record of a FINISHED point (R115). -/
theorem State.noted_marked {s : State} {x : Side} {diff : List Bool} (h : ((s.side x).newly diff).any id = true)
    (noSense : Bool) : (s.noted x diff noSense).point x = (s.point x).displayMarked := by
  rw [State.noted, if_pos h, State.markDisplayFault_eq, State.point_mapPoint, if_pos rfl]
  rfl

theorem State.FaultsNoted.mapSide (s : State) (x : Side) (f : DduSide → DduSide)
    (hdue : (f (s.side x)).refreshDue = (s.side x).refreshDue) (hshown : (f (s.side x)).shown = (s.side x).shown) :
    s.FaultsNoted (s.mapSide x f) x :=
  ⟨(State.Stands.mapSide s x f hdue hshown).toKeepsSales, .mapSide s x f, rfl, rfl, rfl, fun _ => rfl, .inl rfl⟩

theorem State.FaultsNoted.mark {s y : State} {x : Side} (h : s.FaultsNoted y x) (hpoint : y.point x = s.point x)
    (target : ReportTarget) (data : ReportData) : s.FaultsNoted ((y.post target data).markDisplayFault x) x := by
  rw [State.markDisplayFault_eq]
  have hst (p : Point) : (((y.post target data).mapPoint x (·.displayMarked)).point p).st = (y.point p).st := by
    rw [State.point_mapPoint]
    split
    · rename_i hp
      rw [PointData.displayMarked_st, hp]
      rfl
    · rfl
  refine ⟨h.keeps.trans ((State.Stands.post y _ _).toKeepsSales.trans (.mapPoint _ x _ fun _ hd => ?_)), ?_, h.dle, h.crg,
    h.psc, fun p => (hst p).trans (h.st p), ?_⟩
  · refine ⟨by rwa [PointData.displayMarked_st], fun r hr => ⟨r, ?_, rfl, rfl, rfl, rfl, rfl⟩⟩
    rw [PointData.displayMarked, if_neg, hr]
    intro hfin
    rw [hfin] at hd
    cases hd
  · exact ⟨h.moves.psc, h.moves.valves, fun p hp => by rw [hst]; exact h.moves.selling p hp⟩
  · rw [State.point_mapPoint, if_pos rfl, ← hpoint]
    exact .inr rfl

theorem State.faultsNoted_spec (s : State) (x : Side) (sense : Option (List Byte)) :
    s.FaultsNoted (s.faultsNoted x sense) x := by
  have hdriven : s.FaultsNoted (s.driveSide x) x := .mapSide s x _ rfl rfl
  unfold State.faultsNoted State.noted
  split
  · have hjudged (u : State) (diff : List Bool) : u.FaultsNoted (u.mapSide x fun d => d.judgedSide diff) x :=
      .mapSide u x _ rfl rfl
    have hboth (diff : List Bool) : s.FaultsNoted ((s.driveSide x).mapSide x fun d => d.judgedSide diff) x :=
      ⟨hdriven.keeps.trans (hjudged _ diff).keeps, hdriven.moves.trans (hjudged _ diff).moves, rfl, rfl, rfl, fun _ => rfl,
        .inl rfl⟩
    split
    · exact (hboth _).mark rfl _ _
    · exact hboth _
  · exact hdriven

/-- Of its side, the faults of a refresh move the counts and the faults, and the content is driven. -/
theorem State.faultsNoted_side (s : State) (x : Side) (sense : Option (List Byte)) :
    (s.faultsNoted x sense).side x = { s.side x with
      driven := s.content x, counts := ((s.faultsNoted x sense).side x).counts
      faulted := ((s.faultsNoted x sense).side x).faulted } := by
  unfold State.faultsNoted
  split
  · rw [State.noted_side, DduSide.judgedSide_eq, State.driveSide_side]
  · rw [State.driveSide_side]

section
variable {s : State} {x : Side} {sense : Option (List Byte)}

theorem State.faultsNoted_unjudged (h : s.good .displaySupply = false) : (s.faultsNoted x sense).side x =
    { s.side x with driven := s.content x } := by
  rw [State.faultsNoted, h, if_neg (by simp), State.driveSide_side]

/-- The judgement of one position of a judged refresh (R112). -/
theorem State.faultsNoted_get {i c : Nat} {f : Bool} {y : Symbol} (hgood : s.good .displaySupply = true)
    (hc : (s.side x).counts[i]? = some c) (hf : (s.side x).faulted[i]? = some f) (hy : (s.content x)[i]? = some y) :
    let count := judgedCount c f (comesBackWrong sense i y)
    ((s.faultsNoted x sense).side x).counts[i]? = some count
      ∧ ((s.faultsNoted x sense).side x).faulted[i]? = some (f || decide (3 ≤ count))
      ∧ ((s.side x).newly (s.wrongPositions x sense))[i]? = some (decide (3 ≤ count) && !f) := by
  have hdiff : (s.wrongPositions x sense)[i]? = some (comesBackWrong sense i y) := by
    rw [State.wrongPositions, differs_get, hy, Option.map_some]
  have hside : (s.faultsNoted x sense).side x = DduSide.judgedSide { s.side x with driven := s.content x }
      (s.wrongPositions x sense) := by
    rw [State.faultsNoted, if_pos hgood, State.noted_side, State.driveSide_side]
  obtain ⟨hcount, hfaulted, hnew⟩ := DduSide.judge_get (d := { s.side x with driven := s.content x }) hc hf hdiff
  rw [hside]
  exact ⟨hcount, hfaulted, hnew⟩

theorem State.faultsNoted_marked (hgood : s.good .displaySupply = true)
    (h : ((s.side x).newly (s.wrongPositions x sense)).any id = true) :
    (s.faultsNoted x sense).point x = (s.point x).displayMarked := by
  rw [State.faultsNoted, if_pos hgood, State.noted_marked]
  · rfl
  · rw [State.driveSide_side]
    exact h

end

/-! ## What the DLE does with the faults (R59, R64, R113, R114) -/

/-- A refresh sets the side fault (R113). -/
def State.setsFault (s : State) (x : Side) (sense : Option (List Byte)) : Bool :=
  s.good .displaySupply && (s.side x).setsFault (s.wrongPositions x sense)

/-- A refresh closes the grade with which the side's point waits (R59, R114). -/
def State.closesGrade (s : State) (x : Side) (sense : Option (List Byte)) : Bool :=
  s.good .displaySupply && ((s.side x).newly (s.wrongPositions x sense)).any id
    && (s.faultsNoted x sense).waitsWith x ((s.faultsNoted x sense).newlyClosed s x)

/-- The faults of a refresh and what the DLE does with them. -/
def State.faultsTold (y : State) (x : Side) (sets closes : Bool) : State :=
  if sets then (y.sideFaulted x).sideFaultEvent x else if closes then y.refuseWaiter x .gradeClosed else y

/-- The exchange of a refresh, its faults first, then the zero check and the test. -/
theorem State.exchangeSide_eq (s : State) (x : Side) (sense : Option (List Byte)) :
    s.exchangeSide x sense =
      (((s.faultsNoted x sense).faultsTold x (s.setsFault x sense) (s.closesGrade x sense)).progressZero x
        (((listedPositions (s.good .displaySupply) (s.content x) sense).take figurePositions).any id)).progressTest x
        (listedPositions (s.good .displaySupply) (s.content x) sense) := by
  have hjudged : (if s.good .displaySupply then (s.driveSide x).judgeRefresh x (s.wrongPositions x sense) sense.isNone
      else s.driveSide x) = (s.faultsNoted x sense).faultsTold x (s.setsFault x sense) (s.closesGrade x sense) := by
    have hside := s.driveSide_side x
    have hcloses (y : State) : y.newlyClosed (s.driveSide x) x = y.newlyClosed s x := by
      simp only [State.newlyClosed, State.displayCloses, State.windowCloses, hside, DduSide.windowFault]
      rfl
    cases hgood : s.good .displaySupply with
    | false => simp [State.faultsTold, State.setsFault, State.closesGrade, State.faultsNoted, hgood]
    | true =>
      simp only [if_true, State.judgeRefresh_eq, State.faultsTold, State.setsFault, State.closesGrade, State.faultsNoted,
        hgood, Bool.true_and, hcloses, hside]
      rfl
  rw [← hjudged]
  rfl

end Sys2Proof.Machine
end

section
/-! PROOFS. What the DLE does with the faults of a refresh, and the zero check after it (R59, R64, R113, R114, R117). -/

namespace Sys2Proof.Machine

/-! ## The DLE's part of the faults of a refresh -/

/-- A stop leaves the hose table. -/
theorem State.stopHolder_hoses (s : State) (p : Point) (c : StopCause) : (s.stopHolder p c).dle.hoses = s.dle.hoses := by
  obtain h | ⟨m, -, h⟩ := s.stopHolder_cases p c <;> rw [h]
  have hdrop := congrArg Dle.hoses (State.Grants.dropMotor (s.shut p m c) m).dle
  rw [State.shut_dle] at hdrop
  rw [State.enterStopping_eq]
  simpa using hdrop

/-- A point that does not start stays out of STARTING with the flags of its record, and one that does not sell stays as it
is. -/
structure PointData.KeepsFlags (d e : PointData) : Prop where
  st : d.st ≠ .starting → e.st ≠ .starting
  flags : ∀ r, d.current = some r → d.st ≠ .starting → ∃ q, e.current = some q ∧ q.flags = r.flags
  settled : d.st.selling = false → e = d

theorem PointData.KeepsFlags.refl (d : PointData) : d.KeepsFlags d := ⟨id, fun r hr _ => ⟨r, hr, rfl⟩, fun _ => rfl⟩

/-- What follows at a side and its point, at `y`, from the faults of a refresh; `told` is the state after it. -/
structure State.FaultsTold (y told : State) (x : Side) (sets closes : Bool) : Prop where
  keeps : y.KeepsSales told
  moves : y.Moves told
  crg : told.crg = y.crg
  hoses : told.dle.hoses = y.dle.hoses
  side : told.side x = { y.side x with
    sideFault := (y.side x).sideFault || sets, zero := (told.side x).zero }
  zero : (told.side x).zero = (y.side x).zero ∨ sets = true ∧ (told.side x).zero = .none
  point : (y.point x).KeepsFlags (told.point x)
  quiet : sets = false → y.waiting x = false → told = y
  refused : sets = true ∨ closes = true → y.waiting x = true →
    told.point x = (y.point x).returned y.now ∧ ∀ m, told.dle.waiters.get m ≠ some x
  stopped : ∀ m, sets = true → y.heldBy x = some m → (y.point x).st = .starting ∨ (y.point x).st.flowing = true →
    (told.side x).zero = .none ∧ told.point x = (y.point x).stopped .displayFault y.now
      ∧ (told.channel m).mainOpen = false ∧ (told.channel m).slowOpen = false

theorem PointSt.selling_of_flowing {st : PointSt} (h : st.flowing = true) : st.selling = true := by
  cases st <;> simp [PointSt.flowing, PointSt.selling] at h ⊢

section
variable {y : State} {x : Side}

theorem State.refuseWaiter_keeps (h : y.waiting x = true) (r : LiftRefusal) : y.KeepsSales (y.refuseWaiter x r) := by
  have hholds : y.holds x = false := by
    simp only [State.waiting, Bool.and_eq_true, Bool.not_eq_true'] at h
    exact h.2
  refine ⟨by simp, by simp, by simp, ?_, (y.refuseWaiter_moves x r).valves, fun z => by rw [State.refuseWaiter_side],
    fun p hp => ?_⟩
  · rw [State.refuseWaiter_dle]
  · rw [State.refuseWaiter_point, if_neg]
    · exact .of_current id rfl
    · rintro rfl
      simp [hholds] at hp

theorem State.refuseWaiter_waits (y : State) (x : Side) (r : LiftRefusal) (m : Meter) :
    (y.refuseWaiter x r).dle.waiters.get m ≠ some x := by
  rw [State.refuseWaiter_dle, Quad.get_map]
  split
  · simp
  · assumption

/-- A point that waits is refused, by a side fault or by a closed grade (R59). -/
theorem State.FaultsTold.of_refused {u : State} {sets closes : Bool} (hwait : y.waiting x = true)
    (hkeeps : y.KeepsSales u) (hmoves : y.Moves u) (hcrg : u.crg = y.crg) (hdle : u.dle = y.dle)
    (hpoint : u.point x = y.point x) (hside : u.side x = { y.side x with sideFault := (y.side x).sideFault || sets })
    (r : LiftRefusal) : y.FaultsTold (u.refuseWaiter x r) x sets closes := by
  have hwait' : u.waiting x = true := by rw [State.waiting_congr (s := y) (by rw [hpoint]) (by rw [hdle]), hwait]
  have hstarting : (y.point x).st = .starting := by
    simp only [State.waiting, Bool.and_eq_true, decide_eq_true_eq] at hwait
    exact hwait.1
  have hheld : y.heldBy x = none := by
    simp only [State.waiting, State.holds, Bool.and_eq_true, Bool.not_eq_true', Option.isSome_eq_false_iff,
      Option.isNone_iff_eq_none] at hwait
    exact hwait.2
  have hafter : (u.refuseWaiter x r).point x = (y.point x).returned y.now := by
    rw [State.refuseWaiter_point, if_pos rfl, hpoint, hkeeps.now]
  refine ⟨hkeeps.trans (State.refuseWaiter_keeps hwait' r), hmoves.trans (u.refuseWaiter_moves x r), by simp [hcrg],
    by rw [State.refuseWaiter_dle, hdle], by rw [State.refuseWaiter_side, hside],
    .inl (by rw [State.refuseWaiter_side, hside]), ?_, fun _ h => ?_,
    fun _ _ => ⟨hafter, u.refuseWaiter_waits x r⟩, fun m _ hm => ?_⟩
  · exact ⟨fun h => absurd hstarting h, fun _ _ h => absurd hstarting h, fun h => by rw [hstarting] at h; cases h⟩
  · rw [hwait] at h
    cases h
  · rw [hheld] at hm
    cases hm

/-- A side fault at a point that does not wait (R64, R66). -/
theorem State.FaultsTold.of_stopped {u : State} {closes : Bool} (hwait : y.waiting x = false)
    (hkeeps : y.KeepsSales u) (hmoves : y.Moves u) (hcrg : u.crg = y.crg) (hdle : u.dle = y.dle)
    (hpoint : u.point x = y.point x) (hside : u.side x = { y.side x with sideFault := true }) :
    y.FaultsTold (u.stopHolder x .displayFault) x true closes := by
  have hstop := u.stopHolder_side x .displayFault
  refine ⟨hkeeps.trans (State.Stands.stopHolder u x _).toKeepsSales, hmoves.trans (u.stopHolder_moves x _), by simp [hcrg],
    by rw [State.stopHolder_hoses, hdle], ?_, ?_, ?_, by simp, fun _ h => ?_, fun m _ hm hst => ?_⟩
  · rw [hstop, hside]
    simp
  · obtain heq | ⟨m, -, heq⟩ := u.stopHolder_cases x .displayFault <;> rw [heq]
    · exact .inl (by rw [hside])
    · exact .inr ⟨rfl, by rw [State.enterStopping_side]⟩
  · by_cases hst : (u.point x).st = .starting ∨ (u.point x).st.flowing = true
    · cases hm : u.heldBy x with
      | none =>
        have heq : u.stopHolder x .displayFault = u := by simp [State.stopHolder, hm]
        rw [heq, hpoint]
        exact .refl _
      | some m =>
        rw [State.stopHolder_eq hm hst, State.enterStopping_point, hpoint]
        refine ⟨fun _ => by simp [PointData.stopped], fun r hr _ =>
          ⟨{ r with cause := some .displayFault }, by simp [PointData.stopped, hr], rfl⟩, fun h => ?_⟩
        rw [← hpoint] at h
        rcases hst with hst | hst
        · rw [hst] at h
          cases h
        · rw [PointSt.selling_of_flowing hst] at h
          cases h
    · rw [State.stopHolder_of_not hst, hpoint]
      exact .refl _
  · rw [hwait] at h
    cases h
  · have hm' : u.heldBy x = some m := by rw [State.heldBy_congr (s := y) (by rw [hdle]), hm]
    rw [State.stopHolder_eq hm' (by rwa [hpoint])]
    refine ⟨by rw [State.enterStopping_side], ?_, u.enterStopping_valves x m _ (State.holder_of_heldBy u hm')⟩
    rw [State.enterStopping_point, hpoint, hkeeps.now]

theorem State.faultsTold_spec (y : State) (x : Side) (sets closes : Bool) (hcloses : closes = true → y.waiting x = true) :
    y.FaultsTold (y.faultsTold x sets closes) x sets closes := by
  have hset : y.KeepsSales (y.sideFaulted x) :=
    ((State.Stands.mapSide y x _ rfl rfl).trans (.changed _ _ _)).toKeepsSales
  have hmoves : y.Moves (y.sideFaulted x) := (State.Moves.mapSide y x _).trans (.changed _ _ _)
  have hdle : (y.sideFaulted x).dle = y.dle := by simp [State.sideFaulted]
  have hcrg : (y.sideFaulted x).crg = y.crg := by simp [State.sideFaulted]
  have hpoint : (y.sideFaulted x).point x = y.point x := by
    rw [State.sideFaulted, State.changed_point]
    rfl
  have hside : (y.sideFaulted x).side x = { y.side x with sideFault := true } := by
    rw [State.sideFaulted, State.changed_side, State.side_mapSide_self]
  have hwaiting : (y.sideFaulted x).waiting x = y.waiting x := State.waiting_congr (by rw [hpoint]) (by rw [hdle])
  unfold State.faultsTold
  cases sets with
  | true =>
    rw [if_pos rfl, State.sideFaultEvent, hwaiting]
    cases hw : y.waiting x with
    | true =>
      rw [if_pos rfl]
      exact .of_refused hw hset hmoves hcrg hdle hpoint (by rw [hside, Bool.or_true]) _
    | false =>
      rw [if_neg (by simp)]
      exact .of_stopped hw hset hmoves hcrg hdle hpoint hside
  | false =>
    rw [if_neg (by simp)]
    cases closes with
    | true =>
      rw [if_pos rfl]
      exact .of_refused (hcloses rfl) (State.Stands.refl y).toKeepsSales (.refl y) rfl rfl rfl (by rw [Bool.or_false]) _
    | false =>
      rw [if_neg (by simp)]
      exact ⟨(State.Stands.refl y).toKeepsSales, .refl y, rfl, rfl, by rw [Bool.or_false], .inl rfl, .refl _, fun _ _ => rfl,
        by simp, by simp⟩

end

/-! ## The zero check after a refresh (R117) -/

/-- The zero check of a side after a refresh. -/
def ZeroCheck.after (z : ZeroCheck) (bad : Bool) : ZeroCheck :=
  match z with
  | .none => .none
  | .waiting => .waiting
  | .allOn n => if n + 1 < 3 then .allOn (n + 1) else if bad then .none else .zeros 0
  | .zeros n => if n + 1 < 2 then .zeros (n + 1) else .none

/-- What a refresh does with the zero check of its side. -/
structure State.ZeroMoved (w z : State) (x : Side) (bad : Bool) : Prop where
  keeps : w.KeepsSales z
  moves : w.Moves z
  crg : z.crg = w.crg
  hoses : z.dle.hoses = w.dle.hoses
  side : z.side x = { w.side x with zero := (w.side x).zero.after bad }
  none : (w.side x).zero = .none → z = w
  later : (w.point x).st ≠ .starting → z.dle = w.dle ∧ (bad = true → z.point x = w.point x)
    ∧ ∃ b, z.point x = { w.point x with zeroPassed := b }
  failed : ∀ m, bad = true → (w.side x).zero = .allOn 2 ∨ (w.side x).zero = .zeros 1 → (w.point x).st = .starting →
    w.heldBy x = some m → z.point x = (w.point x).stopped .displayFault w.now
  passed : bad = false → (w.side x).zero ≠ .none → (w.side x).zero.after bad = .none → (z.point x).zeroPassed = true

section
variable {w : State} {x : Side} {bad : Bool}

/-- The zero check goes on, or is none. -/
theorem State.ZeroMoved.of_mapSide {f : DduSide → DduSide}
    (h : f (w.side x) = { w.side x with zero := (w.side x).zero.after bad })
    (hfail : bad = true → (w.side x).zero ≠ .allOn 2 ∧ (w.side x).zero ≠ .zeros 1)
    (hpass : (w.side x).zero ≠ .none → (w.side x).zero.after bad ≠ .none)
    (hnone : (w.side x).zero ≠ .none) : w.ZeroMoved (w.mapSide x f) x bad := by
  refine ⟨(State.Stands.mapSide w x f (by rw [h]) (by rw [h])).toKeepsSales, .mapSide w x f, rfl, rfl, ?_,
    fun hz => absurd hz hnone, fun _ => ⟨rfl, fun _ => rfl, _, rfl⟩, fun m hbad hz => ?_, fun _ hz hafter =>
    absurd hafter (hpass hz)⟩
  · rw [State.side_mapSide_self, h]
  · rcases hz with hz | hz
    · exact absurd hz (hfail hbad).1
    · exact absurd hz (hfail hbad).2

theorem State.zeroFailed_moved (hafter : (w.side x).zero.after true = .none) (hnone : (w.side x).zero ≠ .none) :
    w.ZeroMoved (w.zeroFailed x) x true := by
  have hside : (w.withdrawZero x).side x = { w.side x with zero := .none } := w.side_mapSide_self x _
  have hpoint : (w.withdrawZero x).point x = w.point x := by simp [State.point]
  have heq : w.zeroFailed x = if (w.point x).st = .starting then (w.withdrawZero x).stopHolder x .displayFault
      else w.withdrawZero x := rfl
  refine ⟨(State.Stands.zeroFailed w x).toKeepsSales, ?_, by simp, ?_, ?_, fun h => absurd h hnone, fun hst => ?_,
    fun m _ _ hst hm => ?_, by simp⟩
  · rw [heq]
    split
    · exact (State.Moves.mapSide w x _).trans (State.stopHolder_moves _ x _)
    · exact .mapSide w x _
  · rw [heq]
    split
    · rw [State.stopHolder_hoses]
      simp
    · simp
  · rw [hafter, heq]
    split
    · obtain h | ⟨m, -, h⟩ := (w.withdrawZero x).stopHolder_cases x .displayFault <;> rw [h]
      · exact hside
      · rw [State.enterStopping_side, hside]
    · exact hside
  · rw [heq, if_neg hst]
    exact ⟨by simp, fun _ => hpoint, _, hpoint⟩
  · have hm' : (w.withdrawZero x).heldBy x = some m := by rw [State.heldBy_congr (s := w) (by simp), hm]
    rw [heq, if_pos hst, State.stopHolder_eq hm' (.inl (by rw [hpoint, hst])), State.enterStopping_point, hpoint]
    simp

/-- A point that does not start opens no valves (R63). -/
theorem State.tryOpen_of_not_starting (h : (w.point x).st ≠ .starting) : w.tryOpen x = w := by
  unfold State.tryOpen
  dsimp only
  split
  · rw [if_neg fun hopen => h hopen.1]
  · rfl

theorem State.openValves_zeroPassed (w : State) (x : Side) (m : Meter) (r : DeliveryRecord) :
    ((w.openValves x m r).point x).zeroPassed = (w.point x).zeroPassed := by
  unfold State.openValves
  simp [State.point]

theorem State.tryOpen_zeroPassed (w : State) (x : Side) : ((w.tryOpen x).point x).zeroPassed = (w.point x).zeroPassed := by
  unfold State.tryOpen
  dsimp only
  split
  · split
    · rw [State.openValves_zeroPassed]
    · rfl
  · rfl

theorem State.zeroPassed_moved (hafter : (w.side x).zero.after false = .none) (hnone : (w.side x).zero ≠ .none) :
    w.ZeroMoved (w.zeroPassed x) x false := by
  have hwithdrawn : w.Stands (w.withdrawZero x) := .withdrawZero w x
  have hside : (w.withdrawZero x).side x = { w.side x with zero := .none } := w.side_mapSide_self x _
  have hpoint : (w.withdrawZero x).point x = w.point x := by simp [State.point]
  have heq : w.zeroPassed x = ((w.withdrawZero x).mapPoint x fun d => { d with zeroPassed := true }).tryOpen x := rfl
  have hmarked : ((w.withdrawZero x).mapPoint x fun d => { d with zeroPassed := true }).point x =
      { w.point x with zeroPassed := true } := by
    rw [State.point_mapPoint, if_pos rfl, hpoint]
  refine ⟨?_, ?_, by simp, by simp, ?_, fun h => absurd h hnone, fun hst => ?_, by simp, fun _ _ _ => ?_⟩
  · exact hwithdrawn.toKeepsSales.trans ((State.KeepsSales.mapPoint _ x _ fun _ => .of_current id rfl).trans
      (State.Stands.tryOpen _ x).toKeepsSales)
  · exact (State.Moves.mapSide w x _).trans ((State.Moves.mapPoint _ x _ id).trans (State.Grants.tryOpen _ x).moves)
  · rw [hafter, ← hside, heq]
    simp [State.side]
  · rw [heq, State.tryOpen_of_not_starting (by rw [hmarked]; exact hst)]
    exact ⟨by simp, by simp, _, hmarked⟩
  · rw [heq, State.tryOpen_zeroPassed, hmarked]

theorem State.progressZero_spec (w : State) (x : Side) (bad : Bool) : w.ZeroMoved (w.progressZero x bad) x bad := by
  have hstays (h : (w.side x).zero = .none ∨ (w.side x).zero = .waiting) : w.ZeroMoved w x bad := by
    refine ⟨(State.Stands.refl w).toKeepsSales, .refl w, rfl, rfl, ?_, fun _ => rfl,
      fun _ => ⟨rfl, fun _ => rfl, _, rfl⟩, ?_, ?_⟩
    · rcases h with h | h <;> rw [h, ZeroCheck.after, ← h]
    · rcases h with h | h <;> simp [h]
    · rcases h with h | h <;> simp [h, ZeroCheck.after]
  unfold State.progressZero
  split
  case h_1 h => exact hstays (.inl h)
  case h_2 h => exact hstays (.inr h)
  case h_3 n h =>
    split
    · rename_i hn
      exact .of_mapSide (by simp [h, ZeroCheck.after, hn]) (by simp [h]; omega)
        (by simp [h, ZeroCheck.after, hn]) (by simp [h])
    · rename_i hn
      cases bad with
      | true => exact State.zeroFailed_moved (by simp [h, ZeroCheck.after, hn]) (by simp [h])
      | false =>
        rw [if_neg (by simp)]
        exact .of_mapSide (by simp [h, ZeroCheck.after, hn]) (by simp) (by simp [h, ZeroCheck.after, hn]) (by simp [h])
  case h_4 n h =>
    split
    · rename_i hn
      exact .of_mapSide (by simp [h, ZeroCheck.after, hn]) (by simp [h]; omega)
        (by simp [h, ZeroCheck.after, hn]) (by simp [h])
    · rename_i hn
      cases bad with
      | true => exact State.zeroFailed_moved (by simp [h, ZeroCheck.after, hn]) (by simp [h])
      | false => exact State.zeroPassed_moved (by simp [h, ZeroCheck.after, hn]) (by simp [h])

end

end Sys2Proof.Machine
end

section
/-! PROOFS. The refresh instant (R22, R59, R64, R108 to R117): its parts put together, with no test in
flight and with one. -/

namespace Sys2Proof.Machine

/-! ## A refresh without a test -/

/-- The refresh would make a phase of the zero check bad (R117). -/
def State.refreshBad (s : State) (x : Side) (sense : Option (List Byte)) : Bool :=
  ((listedPositions (s.good .displaySupply) (s.content x) sense).take figurePositions).any id

theorem State.refreshBad_of_setsFault {u : State} {x : Side} {sense : Option (List Byte)} (hset : u.setsFault x sense = true) :
    u.refreshBad x sense = true := by
  rw [State.setsFault, Bool.and_eq_true] at hset
  have hany := DduSide.any_of_setsFault hset.2
  rw [State.refreshBad, hset.1, listedPositions, if_pos rfl]
  exact hany

theorem State.setsFault_of_good {u : State} {x : Side} {sense : Option (List Byte)}
    (hbad : u.refreshBad x sense = false) : u.setsFault x sense = false := by
  by_contra hset
  rw [State.refreshBad_of_setsFault (by simpa using hset)] at hbad
  cases hbad

/-- The exchange of a refresh before its part of a display test. -/
def State.untestedExchange (s : State) (x : Side) (sense : Option (List Byte)) : State :=
  ((s.faultsNoted x sense).faultsTold x (s.setsFault x sense) (s.closesGrade x sense)).progressZero x (s.refreshBad x sense)

/-- The parts of a refresh: its begin, the faults, what the DLE does with them, and the zero check. -/
structure State.Refreshed (s u w z : State) (x : Side) (sense : Option (List Byte)) : Prop where
  begun : s.RefreshBegun u x
  noted : u.FaultsNoted (u.faultsNoted x sense) x
  told : (u.faultsNoted x sense).FaultsTold w x (u.setsFault x sense) (u.closesGrade x sense)
  moved : w.ZeroMoved z x (u.refreshBad x sense)

theorem State.refreshed (s : State) (x : Side) (sense : Option (List Byte)) :
    ∃ w, s.Refreshed (s.refreshBegun x) w ((s.refreshBegun x).untestedExchange x sense) x sense := by
  refine ⟨_, s.refreshBegun_spec x, State.faultsNoted_spec _ x sense, State.faultsTold_spec _ x _ _ fun h => ?_,
    State.progressZero_spec _ x _⟩
  rw [State.closesGrade, State.waitsWith, Bool.and_eq_true, Bool.and_eq_true (State.waiting _ _)] at h
  obtain ⟨-, hwait, -⟩ := h
  exact hwait

namespace State.Refreshed

variable {s u w z : State} {x : Side} {sense : Option (List Byte)} (h : s.Refreshed u w z x sense)
include h

/-! ### The side, and what the event's end hands over -/

theorem side : z.side x = { s.side x with
    counts := ((u.faultsNoted x sense).side x).counts, faulted := ((u.faultsNoted x sense).side x).faulted
    sideFault := (s.side x).sideFault || u.setsFault x sense, shown := (u.side x).shown, driven := u.content x
    zero := (w.side x).zero.after (u.refreshBad x sense), refreshDue := (s.side x).refreshDue + 100 } := by
  have hbegun := h.begun.side
  have hnoted := u.faultsNoted_side x sense
  have htold := h.told.side
  rw [h.moved.side]
  generalize u.faultsNoted x sense = y at hnoted htold ⊢
  rw [hbegun] at hnoted
  rw [hnoted] at htold
  rw [htold, hnoted]

theorem keeps : u.KeepsSales z := h.noted.keeps.trans (h.told.keeps.trans h.moved.keeps)

theorem notedSide : ((u.faultsNoted x sense).side x).zero = (s.side x).zero := by
  rw [u.faultsNoted_side x sense, h.begun.side]

theorem zeroBefore (hset : u.setsFault x sense = false) : (w.side x).zero = (s.side x).zero := by
  rcases h.told.zero with hzero | ⟨hset', -⟩
  · exact hzero.trans h.notedSide
  · rw [hset] at hset'
    cases hset'

/-- A side without a zero check has none after the faults, and the refresh has nothing more to do. -/
theorem unchecked (hzero : (s.side x).zero = .none) : z = w := by
  refine h.moved.none ?_
  rcases h.told.zero with heq | ⟨-, heq⟩
  · rw [heq, h.notedSide, hzero]
  · exact heq

theorem setsFault_of_same (hsame : (z.side x).sideFault = (s.side x).sideFault) : u.setsFault x sense = false := by
  rw [h.side] at hsame
  have hclear : (s.side x).sideFault = true → u.setsFault x sense = false := by
    intro hf
    rw [State.setsFault, DduSide.setsFault, h.begun.side]
    simp [hf]
  cases hf : (s.side x).sideFault with
  | true => exact hclear hf
  | false => simpa [hf] using hsame

theorem settle (hr : s.runs = true) : z.settle s = z.commit := by
  have hmoves := h.noted.moves.trans (h.told.moves.trans h.moved.moves)
  refine State.settle_eq_commit hr ?_ ?_ fun p hp => hmoves.selling p (by rw [h.begun.st, hp])
  · rw [h.moved.crg, h.told.crg, h.noted.crg, h.begun.crg]
  · have hpsc := hmoves.psc
    rwa [h.begun.psc] at hpsc

/-! ### What is driven, and what comes back (R110, R112) -/

theorem figures : u.figureContent x = (match (s.side x).zero with
    | .allOn _ => List.replicate 12 .all
    | .zeros _ => figureWindows s.display 0 0
    | .waiting => figureWindows s.display (z.side x).shown.volume (z.side x).shown.amount
    | .none => figureWindows s.display (z.side x).shown.volume (z.side x).shown.amount) := by
  have hzero : (u.side x).zero = (s.side x).zero := by rw [h.begun.side]
  have hshown : (z.side x).shown = (u.side x).shown := by rw [h.side]
  rw [hshown, ← h.begun.display, State.figureContent, hzero] <;> rfl

theorem refreshBad_eq : u.refreshBad x sense = (List.range 12).any fun i =>
    !s.good .displaySupply || senseDiffers sense i ((z.side x).driven[i]?.map (·.segments)) := by
  have hdriven : (z.side x).driven = u.content x := by rw [h.side]
  rw [Bool.eq_iff_iff, State.refreshBad, any_take_iff, List.any_eq_true, hdriven, h.begun.good]
  simp only [List.mem_range, listedPositions_get]
  refine exists_congr fun i => and_congr_right fun hi => ?_
  obtain ⟨y, hy⟩ : ∃ y, (u.content x)[i]? = some y :=
    ⟨_, List.getElem?_eq_getElem (by rw [State.content_length]; exact hi.trans (by decide))⟩
  rw [hy, Option.map_some, Option.some.injEq, Option.map_some]
  rfl

/-! ### The zero check (R117) -/

theorem zero (hset : u.setsFault x sense = false) :
    (z.side x).zero = (s.side x).zero.after (u.refreshBad x sense) := by
  rw [h.side, h.zeroBefore hset]

/-- A good second phase passes the check (R117). -/
theorem zeroPassed (hbad : u.refreshBad x sense = false) {n : Nat} (hn : ¬ n + 1 < 2) (hz : (s.side x).zero = .zeros n) :
    (z.point x).zeroPassed = true := by
  have hw := h.zeroBefore (State.setsFault_of_good hbad)
  refine h.moved.passed hbad ?_ ?_
  · rw [hw, hz]
    simp
  · rw [hw, hz, ZeroCheck.after, if_neg hn]

/-- The faults mark the record of a FINISHED point alone (R115). -/
theorem notedPoint (hst : (s.point x).st ≠ .finished) : (u.faultsNoted x sense).point x = u.point x := by
  rcases h.noted.point with heq | heq
  · exact heq
  · rw [heq, PointData.displayMarked, if_neg (by rwa [h.begun.st])]

theorem notedHeldBy (p : Point) : (u.faultsNoted x sense).heldBy p = s.heldBy p := by
  rw [State.heldBy_congr (s := u) (by rw [h.noted.dle]), h.begun.heldBy]

theorem notedWaiting : (u.faultsNoted x sense).waiting x = s.waiting x := by
  rw [State.waiting_congr (s := u) (h.noted.st x) (by rw [h.noted.dle]), h.begun.waiting]

/-- The record of a point that starts or delivers, stopped with DISPLAY_FAULT. -/
theorem stopped_current {d : PointData} {r : DeliveryRecord} (hcur : (s.point x).current = some r)
    (hd : d = u.point x) (now : Nat) :
    ∃ q, (d.stopped .displayFault now).current = some q ∧ q.cause = some .displayFault ∧ q.seq = r.seq := by
  rcases h.begun.current with ⟨hs, -⟩ | ⟨r', q, hs, hu, hseq, -⟩
  · rw [hs] at hcur
    cases hcur
  · obtain rfl : r' = r := Option.some.inj (hs.symm.trans hcur)
    refine ⟨{ q with cause := some .displayFault }, ?_, rfl, hseq⟩
    rw [hd]
    simp [PointData.stopped, hu]

/-- A side fault stops the holder (R64, R66). -/
theorem sideFault_stops {m : Meter} {r : DeliveryRecord} (hset : u.setsFault x sense = true) (hheld : s.heldBy x = some m)
    (hcur : (s.point x).current = some r)
    (hst : (s.point x).st = .starting ∨ (s.point x).st = .fuelling ∨ (s.point x).st = .slowing) :
    (z.point x).st = .stopping ∧ (z.side x).zero = .none ∧ (z.channel m).mainOpen = false
      ∧ (z.channel m).slowOpen = false
      ∧ ∃ q, (z.point x).current = some q ∧ q.cause = some .displayFault ∧ q.seq = r.seq := by
  have hnoted := h.notedPoint (by rcases hst with hst | hst | hst <;> rw [hst] <;> decide)
  obtain ⟨hzero, hpoint, hmain, hslow⟩ := h.told.stopped m hset (by rw [h.notedHeldBy, hheld]) (by
    rw [h.noted.st, h.begun.st]
    rcases hst with hst | hst | hst <;> simp [hst, PointSt.flowing])
  rw [h.moved.none hzero, hpoint]
  exact ⟨rfl, hzero, hmain, hslow, h.stopped_current hcur hnoted _⟩

/-- A bad refresh that decides a phase stops a holder in STARTING, be it by a side fault (R64, R117). -/
theorem zeroFailed_stops {m : Meter} {r : DeliveryRecord} (hbad : u.refreshBad x sense = true)
    (hz : (s.side x).zero = .allOn 2 ∨ (s.side x).zero = .zeros 1) (hst : (s.point x).st = .starting)
    (hheld : s.heldBy x = some m) (hcur : (s.point x).current = some r) :
    (z.side x).zero = .none ∧ (z.point x).st = .stopping
      ∧ ∃ q, (z.point x).current = some q ∧ q.cause = some .displayFault ∧ q.seq = r.seq := by
  cases hset : u.setsFault x sense with
  | true =>
    obtain ⟨hstop, hzero, -, -, hq⟩ := h.sideFault_stops hset hheld hcur (.inl hst)
    exact ⟨hzero, hstop, hq⟩
  | false =>
    have hwait : (u.faultsNoted x sense).waiting x = false := by
      rw [h.notedWaiting, State.waiting, State.holds, hheld]
      simp
    have hw := h.told.quiet hset hwait
    have hnoted := h.notedPoint (x := x) (by rw [hst]; decide)
    have hpoint := h.moved.failed m hbad (by rwa [h.zeroBefore hset]) (by rw [hw, hnoted, h.begun.st, hst])
      (by rw [hw, h.notedHeldBy, hheld])
    refine ⟨?_, by rw [hpoint]; rfl, ?_⟩
    · rw [h.zero hset, hbad]
      rcases hz with hz | hz <;> rw [hz] <;> rfl
    · rw [hpoint, hw]
      exact h.stopped_current hcur hnoted _

end State.Refreshed

namespace State.Refreshed

variable {s u w z : State} {x : Side} {sense : Option (List Byte)} (h : s.Refreshed u w z x sense)
include h

/-! ### The judgement of a position (R112) -/

theorem judged {i c : Nat} {f : Bool} {y : Symbol} (hgood : s.good .displaySupply = true)
    (hc : (s.side x).counts[i]? = some c) (hf : (s.side x).faulted[i]? = some f) (hy : (z.side x).driven[i]? = some y) :
    (z.side x).counts[i]? = some (judgedCount c f (comesBackWrong sense i y))
      ∧ (z.side x).faulted[i]? = some (f || decide (3 ≤ judgedCount c f (comesBackWrong sense i y)))
      ∧ ((u.side x).newly (u.wrongPositions x sense))[i]? =
        some (decide (3 ≤ judgedCount c f (comesBackWrong sense i y)) && !f) := by
  rw [h.side] at hy ⊢
  exact State.faultsNoted_get (s := u) (by rw [h.begun.good, hgood]) (by rw [h.begun.side]; exact hc)
    (by rw [h.begun.side]; exact hf) hy

theorem unjudged (hgood : s.good .displaySupply = false) :
    (z.side x).counts = (s.side x).counts ∧ (z.side x).faulted = (s.side x).faulted := by
  have hnoted := u.faultsNoted_unjudged (sense := sense) (x := x) (by rw [h.begun.good, hgood])
  rw [h.side, hnoted, h.begun.side]
  exact ⟨rfl, rfl⟩

theorem notedHose (k : Position) : (u.faultsNoted x sense).hose x k = s.hose x k := by
  rw [State.hose, h.noted.dle, h.begun.dle]
  rfl

theorem hose (k : Position) : z.hose x k = s.hose x k := by
  rw [State.hose, h.moved.hoses, h.told.hoses, h.noted.dle, h.begun.dle]
  rfl

/-! ### A point that waits (R59) -/

theorem waiterReturned_of {v : State} (hpoint : v.point x = (u.point x).returned u.now) (hnow : v.now = u.now)
    (hwaits : ∀ m, v.dle.waiters.get m ≠ some x) (hheld : s.heldBy x = none) : s.waiterReturned v x := by
  refine ⟨?_, hwaits⟩
  rw [hpoint, hnow, h.begun.point (.inl hheld)]
  rfl

theorem waiting_of (hst : (s.point x).st = .starting) (hheld : s.heldBy x = none) :
    (u.faultsNoted x sense).waiting x = true := by
  rw [h.notedWaiting, State.waiting, State.holds, hst, hheld]
  rfl

theorem refused (hst : (s.point x).st = .starting) (hheld : s.heldBy x = none)
    (hcause : u.setsFault x sense = true ∨ u.closesGrade x sense = true) : s.waiterReturned w x := by
  obtain ⟨hpoint, hwaits⟩ := h.told.refused hcause (h.waiting_of hst hheld)
  rw [h.notedPoint (by rw [hst]; decide), h.noted.keeps.now] at hpoint
  exact h.waiterReturned_of hpoint (h.told.keeps.now.trans h.noted.keeps.now) hwaits hheld

/-- A side fault refuses a point that waits, and its zero check, if any, writes nothing of it (R59, R113). -/
theorem sideFault_refuses (hst : (s.point x).st = .starting) (hheld : s.heldBy x = none)
    (hset : u.setsFault x sense = true) : s.waiterReturned z x := by
  obtain ⟨hpoint, hwaits⟩ := h.refused hst hheld (.inl hset)
  obtain ⟨hdle, hbad, -⟩ := h.moved.later (by simp [hpoint])
  refine ⟨?_, fun m => by rw [hdle]; exact hwaits m⟩
  rw [hbad (State.refreshBad_of_setsFault hset), h.moved.keeps.now, hpoint]

end State.Refreshed

/-! ## A position that faults (R112 to R115) -/

/-- A position of a side that faults at this refresh. -/
structure State.Faults (u z : State) (x : Side) (sense : Option (List Byte)) (i : Nat) : Prop where
  good : u.good .displaySupply = true
  inRange : i < 28
  faulted : (z.side x).faulted[i]? = some true
  newly : ((u.side x).newly (u.wrongPositions x sense))[i]? = some true

/-- The window of a position from the thirteenth on. -/
def windowOf (i : Nat) : Position := if i < 16 then .p1 else if i < 20 then .p2 else if i < 24 then .p3 else .p4

theorem windowOf_start {i : Nat} (hi : 12 ≤ i) (hlt : i < 28) :
    windowStart (windowOf i) ≤ i ∧ i < windowStart (windowOf i) + 4 := by
  unfold windowOf
  (repeat' split) <;> simp [windowStart, figurePositions, Position.number] <;> omega

theorem DduSide.windowFault_of {d : DduSide} {i : Nat} (hi : 12 ≤ i) (hlt : i < 28) (h : d.faulted[i]? = some true) :
    d.windowFault (windowOf i) = true := by
  obtain ⟨hle, hlt'⟩ := windowOf_start hi hlt
  rw [DduSide.windowFault, any_take_iff]
  refine ⟨i - windowStart (windowOf i), by omega, ?_⟩
  rw [List.getElem?_drop, Nat.add_sub_cancel' hle, h]

namespace State.Faults

variable {s u w z : State} {x : Side} {sense : Option (List Byte)} {i : Nat} (hf : u.Faults z x sense i)

include hf in
theorem any_newly : ((u.side x).newly (u.wrongPositions x sense)).any id = true :=
  List.any_eq_true.2 ⟨true, List.mem_iff_getElem?.2 ⟨i, hf.newly⟩, rfl⟩

variable (h : s.Refreshed u w z x sense)
include hf h

theorem setsFault (hi : i < 12) (hclear : (s.side x).sideFault = false) : u.setsFault x sense = true := by
  rw [State.setsFault, DduSide.setsFault, hf.good, Bool.true_and, Bool.and_eq_true]
  refine ⟨(any_take_iff _ _).2 ⟨i, hi, hf.newly⟩, ?_⟩
  rw [h.begun.side]
  simpa using hclear

theorem sideFault (hi : i < 12) : (z.side x).sideFault = true := by
  rw [h.side]
  dsimp only
  cases hclear : (s.side x).sideFault with
  | true => rfl
  | false => rw [hf.setsFault h hi hclear, Bool.or_true]

theorem windowCloses (hi : 12 ≤ i) : z.windowCloses x (s.hose x (windowOf i)).grade = true := by
  refine List.any_eq_true.2 ⟨windowOf i, by cases windowOf i <;> decide, ?_⟩
  rw [h.hose, decide_eq_true rfl, Bool.true_and]
  exact DduSide.windowFault_of hi hf.inRange hf.faulted

/-- A grade that the refresh closes refuses the point that waits with it (R59, R114). -/
theorem closesGrade (hi : 12 ≤ i) (hst : (s.point x).st = .starting) (hheld : s.heldBy x = none)
    (hcur : (s.point x).current.any (fun r => decide (r.grade = (s.hose x (windowOf i)).grade)) = true)
    (hopen : s.displayCloses x (s.hose x (windowOf i)).grade = false) : u.closesGrade x sense = true := by
  have hcloses := hf.windowCloses h hi
  have hnoted : (u.faultsNoted x sense).windowCloses x (s.hose x (windowOf i)).grade = true := by
    rw [← hcloses, State.windowCloses, State.windowCloses, h.side]
    simp only [DduSide.windowFault, h.hose, h.notedHose]
  have hmem : (s.hose x (windowOf i)).grade ∈ (u.faultsNoted x sense).newlyClosed u x := by
    rw [State.newlyClosed, List.mem_filter, hnoted, h.begun.displayCloses, hopen]
    exact ⟨by cases (s.hose x (windowOf i)).grade <;> decide, rfl⟩
  rw [State.closesGrade, hf.good, hf.any_newly, State.waitsWith, h.waiting_of hst hheld, h.notedPoint (by rw [hst]; decide),
    h.begun.point (.inl hheld)]
  rw [Option.any_eq_true] at hcur
  obtain ⟨r, hr, hgrade⟩ := hcur
  rw [Bool.true_and, Bool.true_and, Bool.true_and, Option.any_eq_true]
  exact ⟨r, hr, by rw [of_decide_eq_true hgrade]; exact decide_eq_true hmem⟩

end State.Faults

theorem State.priceWindow_eq (s : State) (x : Side) (k : Position) : s.priceWindow x k =
    if (s.point x).st = .closed ∨ (s.ptu.entry (s.point x).generation (s.hose x k).grade).price (s.point x).viewLevel = 0
        ∨ (s.side x).sideFault = true ∨ s.windowCloses x (s.hose x k).grade = true then List.replicate 4 .dash
      else figureSymbols 4 s.display.priceDecimals
        ((s.ptu.entry (s.point x).generation (s.hose x k).grade).price (s.point x).viewLevel) := by
  simp only [State.priceWindow, State.displayCloses, Bool.or_eq_true]

theorem State.commit_windowCloses (s : State) (x : Side) (g : Grade) : s.commit.windowCloses x g = s.windowCloses x g := by
  have hhose (k : Position) : s.commit.hose x k = s.hose x k := by simp [State.hose]
  simp only [State.windowCloses, hhose, State.commit_side]

namespace State.Refreshed

variable {s u w z : State} {x : Side} {sense : Option (List Byte)} (h : s.Refreshed u w z x sense)
include h

theorem faults {i c : Nat} {y : Symbol} (hgood : s.good .displaySupply = true) (hlen : (s.side x).counts.length = 28)
    (hc : (s.side x).counts[i]? = some c) (hf : (s.side x).faulted[i]? = some false) (hy : (z.side x).driven[i]? = some y)
    (hle : 2 ≤ c) (hwrong : comesBackWrong sense i y = true) : u.Faults z x sense i := by
  obtain ⟨-, hfaulted, hnew⟩ := h.judged hgood hc hf hy
  have hthree : 3 ≤ judgedCount c false (comesBackWrong sense i y) := by
    rw [hwrong]
    exact Nat.succ_le_succ hle
  refine ⟨by rw [h.begun.good, hgood], ?_, ?_, ?_⟩
  · rw [← hlen]
    exact (List.getElem?_eq_some_iff.1 hc).1
  · rw [hfaulted, decide_eq_true hthree, Bool.false_or]
  · rw [hnew, decide_eq_true hthree, Bool.not_false, Bool.and_true]

/-- A holder goes on through a closed grade: nothing moves at its point (R114). -/
theorem holder_goes_on (hset : u.setsFault x sense = false) (hzero : (s.side x).zero = .none)
    (hheld : (s.heldBy x).isSome = true) : (z.point x).st = (s.point x).st ∧ z.dle.holders = s.dle.holders := by
  have hwait : (u.faultsNoted x sense).waiting x = false := by
    rw [h.notedWaiting, State.waiting, State.holds, hheld]
    simp
  rw [h.unchecked hzero, h.told.quiet hset hwait, h.noted.st, h.begun.st, h.noted.dle, h.begun.dle]
  exact ⟨rfl, rfl⟩

/-- The record of a point that does not start has the flags it had, unless it is FINISHED and marked (R115). -/
theorem flags_kept {r : DeliveryRecord} (hfin : (s.point x).st ≠ .finished) (hst : (s.point x).st ≠ .starting)
    (hcur : (s.point x).current = some r) : ∃ q, (z.point x).current = some q ∧ q.flags = r.flags := by
  rcases h.begun.current with ⟨hs, -⟩ | ⟨r', q, hs, hu, -, hflags, -⟩
  · rw [hs] at hcur
    cases hcur
  · obtain rfl : r' = r := Option.some.inj (hs.symm.trans hcur)
    have hnoted := h.notedPoint hfin
    have hst' : ((u.faultsNoted x sense).point x).st ≠ .starting := by rw [hnoted, h.begun.st]; exact hst
    obtain ⟨q', hq', hflags'⟩ := h.told.point.flags q (by rw [hnoted, hu]) hst'
    obtain ⟨-, -, b, hz⟩ := h.moved.later (h.told.point.st hst')
    exact ⟨q', by rw [hz]; exact hq', hflags'.trans hflags⟩

end State.Refreshed

namespace State.Faults

variable {s u w z : State} {x : Side} {sense : Option (List Byte)} {i : Nat} (hf : u.Faults z x sense i)
  (h : s.Refreshed u w z x sense)
include hf h

/-- A fault of any position marks the record of a FINISHED point, which stays as it is otherwise (R115). -/
theorem finished_marked {r : DeliveryRecord} (hst : (s.point x).st = .finished) (hcur : (s.point x).current = some r) :
    (z.point x).current = some r.displayMarked := by
  have hnoted := State.faultsNoted_marked hf.good hf.any_newly
  rw [h.begun.point (.inr (by rw [hst]; rfl)), PointData.displayMarked, if_pos hst] at hnoted
  have htold := h.told.point.settled (by rw [hnoted, hst]; rfl)
  obtain ⟨-, -, b, hz⟩ := h.moved.later (by rw [htold, hnoted, hst]; decide)
  rw [hz, htold, hnoted, hcur]
  rfl

/-- A closed grade refuses the point that waits with it (R59, R114). -/
theorem grade_refuses (hi : 12 ≤ i) (hst : (s.point x).st = .starting) (hheld : s.heldBy x = none)
    (hzero : (s.side x).zero = .none)
    (hcur : (s.point x).current.any (fun r => decide (r.grade = (s.hose x (windowOf i)).grade)) = true)
    (hopen : s.displayCloses x (s.hose x (windowOf i)).grade = false) : s.waiterReturned z x := by
  rw [h.unchecked hzero]
  exact h.refused hst hheld (.inr (hf.closesGrade h hi hst hheld hcur hopen))

end State.Faults

/-! ## The refresh instant (R22, R109) -/

theorem exec_refreshInstant (x : Side) (sense : Option (List Byte)) (s : State) (hr : s.runs = true) :
    exec (.refreshInstant x sense) s = .next ((s.refresh x sense).settle s) :=
  State.event_some (State.powered_of_runs hr)

theorem State.refresh_eq (s : State) (x : Side) (sense : Option (List Byte)) : s.refresh x sense =
    if s.refreshing x then (s.refreshBegun x).exchangeSide x sense else s.refreshBegun x := by
  rw [← (s.refreshBegun_spec x).refreshing]
  rfl

theorem State.progressTest_stands (s : State) (x : Side) (diff : List Bool) : s.Stands (s.progressTest x diff) := by
  have hrelease (u : State) : u.Stands (u.releaseZero x) := by
    unfold State.releaseZero
    split
    · split
      · exact .zeroFailed u x
      · exact .mapSide u x _ rfl rfl
    · exact .refl u
  unfold State.progressTest
  split
  · exact .refl s
  · rename_i t _
    have hlisted (t : DisplayTest) : s.Stands (s.mapSide x fun d => { d with test := some t }) := .mapSide s x _ rfl rfl
    dsimp only
    split
    · exact hlisted _
    · have hended := fun t r => (hlisted t).trans ((State.Stands.endTest _ x r).trans (hrelease _))
      split
      · exact (hended _ _).trans (.testNotice _ x _)
      · exact hended _ _

/-- From its begin on, a refresh keeps the sales. -/
theorem State.refresh_keeps (s : State) (x : Side) (sense : Option (List Byte)) :
    (s.refreshBegun x).KeepsSales ((s.refresh x sense).settle s) := by
  refine State.KeepsSales.trans ?_ (.settle _ s)
  rw [State.refresh_eq]
  split
  · obtain ⟨w, h⟩ := s.refreshed x sense
    rw [State.exchangeSide_eq]
    exact h.keeps.trans (State.progressTest_stands _ x _).toKeepsSales
  · exact (State.Stands.refl _).toKeepsSales

section
variable {s : State} {x : Side} (sense : Option (List Byte))

/-- Without a test the exchange is all there is, and its changes are handed over. -/
theorem State.refresh_untested (hr : s.runs = true) (hon : s.refreshing x = true) (htest : (s.side x).test = none) :
    ∃ w z, s.Refreshed (s.refreshBegun x) w z x sense ∧ (s.refresh x sense).settle s = z.commit := by
  obtain ⟨w, h⟩ := s.refreshed x sense
  refine ⟨w, _, h, ?_⟩
  have hexchange (l : List Bool) : ((s.refreshBegun x).untestedExchange x sense).progressTest x l =
      (s.refreshBegun x).untestedExchange x sense := by
    have hnone : (((s.refreshBegun x).untestedExchange x sense).side x).test = none := by rw [h.side, ← htest]
    simp only [State.progressTest, hnone]
  rw [State.refresh_eq, if_pos hon, State.exchangeSide_eq]
  exact (congrArg (State.settle · s) (hexchange _)).trans (h.settle hr)

/-- At a side that is dark, and whose point holds no meter, the next instant is set and that is all (R109). -/
theorem State.refresh_dark (hr : s.runs = true) (hoff : s.refreshing x = false) (hheld : s.heldBy x = none) :
    (s.refresh x sense).settle s = s.instantCome x := by
  obtain ⟨-, hc, hd, hn⟩ := State.runs_iff.1 hr
  rw [State.refresh_eq, hoff, if_neg (by simp), State.refreshBegun,
    State.runningFigures_of_not (s := s.instantCome x) (.inl hheld)]
  exact State.settle_plain hn rfl rfl hc hd

end

/-- Settles O46: the parts of a refresh in their order, the begin, the faults noted, the DLE's part and the zero check; what
each leaves to the next is said once above. -/
theorem refreshJudges : Obligations.RefreshJudges := by
  refine ⟨fun w p figure i hi => figureSymbols_get w p figure i hi, fun s x sense hr hon htest => ?_,
    fun s x sense hr hon hgood htest hlen _ => ?_, fun s x sense hr => ⟨?_, fun hoff hheld => ?_⟩⟩
  · intro figures window
    obtain ⟨w, z, h, hz⟩ := State.refresh_untested sense hr hon htest
    refine ⟨_, exec_refreshInstant x sense s hr, ?_⟩
    rw [hz, State.commit_side, State.commit_point]
    refine ⟨?_, ?_⟩
    · have hdriven : (z.side x).driven = (s.refreshBegun x).content x := by rw [h.side]
      rw [hdriven, h.begun.content htest, h.figures]
      simp only [State.priceWindow_eq]
      rfl
    · intro wrong bad
      have hbad : (s.refreshBegun x).refreshBad x sense = bad := h.refreshBad_eq
      clear_value bad
      subst hbad
      refine ⟨fun hbad => ⟨fun n hn => ?_, fun n hn => ?_⟩, fun m r hbad hzero hst hheld hcur =>
        h.zeroFailed_stops hbad hzero hst hheld hcur, fun hbad hsame => ⟨fun n hn hlt => ?_, fun n hn hlt => ?_⟩⟩
      · rw [h.zero (State.setsFault_of_good hbad), hbad, hn, ZeroCheck.after]
        simp
      · have hzero := h.zero (State.setsFault_of_good hbad)
        rw [hn, ZeroCheck.after] at hzero
        split
        · rename_i hlt
          rw [hzero, if_pos hlt]
        · rename_i hlt
          exact ⟨by rw [hzero, if_neg hlt], h.zeroPassed hbad hlt hn⟩
      · rw [h.zero (h.setsFault_of_same hsame), hn, ZeroCheck.after, if_pos hlt]
      · rw [h.zero (h.setsFault_of_same hsame), hn, ZeroCheck.after, if_pos hlt]
  · obtain ⟨w, z, h, hz⟩ := State.refresh_untested sense hr hon htest
    refine ⟨_, exec_refreshInstant x sense s hr, ?_⟩
    rw [hz]
    intro i c y hc hfaulted hy hle hwrong
    rw [State.commit_side] at hy
    have hf : (s.refreshBegun x).Faults z x sense i :=
      h.faults hgood hlen hc hfaulted hy hle (by cases sense <;> exact hwrong)
    have hreturned : s.waiterReturned z x → s.waiterReturned z.commit x := by
      rintro ⟨hpoint, hwaits⟩
      exact ⟨by simpa using hpoint, by simpa using hwaits⟩
    dsimp only
    simp only [State.commit_side, State.commit_point, State.commit_channel, State.commit_frame]
    refine ⟨fun hi => ⟨hf.sideFault h hi, fun hclear => ⟨fun hst hheld =>
        hreturned (h.sideFault_refuses hst hheld (hf.setsFault h hi hclear)), fun m r hheld hcur hst =>
        h.sideFault_stops (hf.setsFault h hi hclear) hheld hcur hst⟩⟩,
      fun hi => ⟨?_, fun hst hheld hzero hcur hopen => hreturned (hf.grade_refuses h hi hst hheld hzero hcur hopen),
        fun hsame hzero hheld => h.holder_goes_on (h.setsFault_of_same hsame) hzero hheld⟩,
      fun r hst hcur => hf.finished_marked h hst hcur, fun r hfin hst hcur => h.flags_kept hfin hst hcur⟩
    rw [State.commit_windowCloses]
    exact hf.windowCloses h hi
  · have hkeeps := s.refresh_keeps x sense
    have hbegun := s.refreshBegun_spec x
    refine ⟨_, exec_refreshInstant x sense s hr, hkeeps.now.trans hbegun.now, ?_, hkeeps.pins.trans hbegun.pins,
      hkeeps.display.trans hbegun.display, fun m => ?_, fun m r hheld hcur hst => ?_, fun hon hgood htest _ _ => ?_,
      fun hon hgood htest => ?_⟩
    · rw [hkeeps.due, hbegun.side]
    · obtain ⟨hcounter, -⟩ := (hkeeps.valves m).counts
      rw [hcounter, State.channel, hbegun.miu]
      rfl
    · have hholds : (s.refreshBegun x).holds x = true := by
        rw [State.holds, hbegun.heldBy, hheld]
        rfl
      obtain ⟨-, hsale⟩ := hkeeps.sale x hholds (by rw [hbegun.st, hst])
      obtain ⟨q, hq, hnet, hreverse, hvolume, hamount, hfinal⟩ := hsale _ (hbegun.figured m r hheld hcur hst)
      exact ⟨q, hq, hnet, hreverse, hvolume, by rw [hamount, hvolume]; rfl, hfinal⟩
    · obtain ⟨w, z, h, hz⟩ := State.refresh_untested sense hr hon htest
      rw [hz]
      simp only [State.commit_side]
      refine ⟨?_, fun i c f y hc hf hy => ?_⟩
      · rw [h.side]
        exact State.content_length _ x
      · obtain ⟨hcount, hfaulted, -⟩ := h.judged hgood hc hf hy
        cases sense <;> exact ⟨hcount, hfaulted⟩
    · obtain ⟨w, z, h, hz⟩ := State.refresh_untested sense hr hon htest
      rw [hz, State.commit_side]
      exact h.unjudged hgood
  · rw [exec_refreshInstant x sense s hr, State.refresh_dark sense hr hoff hheld]
    rfl

end Sys2Proof.Machine
end

section
/-! PROOFS. Family 3, prices: the published set as a law, and the operations of the Price Table Unit that make and keep it:
adoption, retirement and publication (R33, R36 to R39). -/

namespace Sys2Proof.Machine

/-! ## The law of the published set -/

/-- No number is published twice, and the newest generation and those of the points are published (R33, R39). -/
structure State.PricesPublished (s : State) : Prop where
  nodup : (s.ptu.published.map (·.number)).Nodup
  newest : s.ptu.holds s.ptu.newest = true
  points : ∀ p, s.ptu.holds (s.point p).generation = true

/-- `State.pricesLawful` by its parts: besides, nothing is published that is neither the newest generation nor a point's. -/
structure State.PricesLawful (s : State) : Prop extends State.PricesPublished s where
  kept : ∀ g ∈ s.ptu.published, s.keeps g.number = true

theorem State.pricesLawful_iff (s : State) : s.pricesLawful = true ↔ s.PricesLawful := by
  simp only [State.pricesLawful, Bool.and_eq_true, decide_eq_true_eq, List.all_eq_true]
  constructor
  · rintro ⟨⟨⟨⟨hnodup, hnewest⟩, ha⟩, hb⟩, hkept⟩
    exact ⟨⟨hnodup, hnewest, fun p => by cases p <;> assumption⟩, hkept⟩
  · rintro ⟨⟨hnodup, hnewest, hpoints⟩, hkept⟩
    exact ⟨⟨⟨⟨hnodup, hnewest⟩, hpoints .a⟩, hpoints .b⟩, hkept⟩

theorem Ptu.holds_iff (t : Ptu) (n : Nat) : t.holds n = true ↔ n ∈ t.published.map (·.number) := by
  simp [Ptu.holds]

theorem State.keeps_iff (s : State) (n : Nat) :
    s.keeps n = true ↔ n = s.ptu.newest ∨ ∃ p, (s.point p).generation = n := by
  simp only [State.keeps, State.refersTo, Bool.or_eq_true, decide_eq_true_eq, List.any_eq_true]
  refine or_congr_right ⟨fun ⟨p, _, hp⟩ => ⟨p, hp⟩, fun ⟨p, hp⟩ => ⟨p, ?_, hp⟩⟩
  cases p <;> simp [Point.all]

/-- The law looks at the published numbers, the newest one and the points' generations alone. -/
theorem State.PricesLawful.congr {s t : State} (h : s.PricesLawful) (hpublished : t.ptu.published = s.ptu.published)
    (hnewest : t.ptu.newest = s.ptu.newest) (hgen : ∀ p, (t.point p).generation = (s.point p).generation) :
    t.PricesLawful := by
  have hholds (n : Nat) : t.ptu.holds n = s.ptu.holds n := by rw [Ptu.holds, hpublished, ← Ptu.holds]
  refine ⟨⟨by rw [hpublished]; exact h.nodup, by rw [hholds, hnewest]; exact h.newest, fun p => ?_⟩, fun g hg => ?_⟩
  · rw [hholds, hgen]
    exact h.points p
  · rw [State.keeps_iff, hnewest]
    simp only [hgen]
    exact (s.keeps_iff _).1 (h.kept g (hpublished ▸ hg))

/-- At most three generations are published (R39). -/
theorem State.PricesLawful.length_le {s : State} (h : s.PricesLawful) : s.ptu.published.length ≤ 3 := by
  have hsub : s.ptu.published.map (·.number) ⊆ [s.ptu.newest, (s.point .a).generation, (s.point .b).generation] := by
    intro n hn
    obtain ⟨g, hg, rfl⟩ := List.mem_map.1 hn
    rcases (s.keeps_iff _).1 (h.kept g hg) with hnew | ⟨p, hp⟩
    · simp [hnew]
    · cases p <;> simp [hp]
  simpa using (h.nodup.subperm hsub).length_le

/-! ## Retirement and adoption (R38, R39) -/

/-- Retirement removes what the law forbids and nothing else (R39). -/
theorem State.PricesPublished.retire {s : State} (h : s.PricesPublished) : s.retire.PricesLawful := by
  have hkeeps (n : Nat) : s.ptu.holds n = true → s.keeps n = true →
      (s.ptu.published.filter fun g => s.keeps g.number).any (fun g => decide (g.number = n)) = true := by
    simp only [Ptu.holds, List.any_eq_true, decide_eq_true_eq, List.mem_filter]
    rintro ⟨g, hg, rfl⟩ hk
    exact ⟨g, ⟨hg, hk⟩, rfl⟩
  unfold State.retire
  split
  · rename_i hnone
    refine ⟨h, fun g hg => ?_⟩
    by_contra hk
    have hgone : g.number ∈ s.retirable := List.mem_map.2 ⟨g, List.mem_filter.2 ⟨hg, by simpa using hk⟩, rfl⟩
    simp [hnone] at hgone
  · refine ⟨⟨h.nodup.sublist (List.filter_sublist.map _), hkeeps _ h.newest ?_, fun p => hkeeps _ (h.points p) ?_⟩,
      fun g hg => (List.mem_filter.1 hg).2⟩
    · exact (s.keeps_iff _).2 (.inl rfl)
    · exact (s.keeps_iff _).2 (.inr ⟨p, rfl⟩)

/-- A point that takes the newest generation takes a published one (R37, R38). -/
theorem State.PricesPublished.mapPoint_newest {s : State} (h : s.PricesPublished) (p : Point) :
    (s.mapPoint p fun d => { d with generation := s.ptu.newest }).PricesPublished := by
  refine ⟨h.nodup, h.newest, fun q => ?_⟩
  rw [State.point_mapPoint]
  split
  · exact h.newest
  · exact h.points q

theorem State.PricesLawful.adopt {s : State} {p : Point} (h : s.PricesLawful) : (s.adopt p).PricesLawful := by
  unfold State.adopt
  dsimp only
  split
  · exact h
  · exact (h.toPricesPublished.mapPoint_newest p).retire.congr rfl rfl fun _ => rfl

/-! ## Publication (R36, R37) -/

/-- The search for a free number passes over held numbers alone, and ends at one only when its fuel is used up (R36). -/
theorem Ptu.freeNumber_spec (t : Ptu) (fuel n : Nat) (hn : n < 65536) :
    ∃ k ≤ fuel, t.freeNumber fuel n = (n + k) % 65536 ∧ (∀ j < k, t.holds ((n + j) % 65536) = true)
      ∧ (t.holds (t.freeNumber fuel n) = false ∨ k = fuel) := by
  induction fuel generalizing n with
  | zero => exact ⟨0, le_rfl, by simp [Ptu.freeNumber, Nat.mod_eq_of_lt hn], by simp, .inr rfl⟩
  | succ fuel ih =>
    unfold Ptu.freeNumber
    split
    · rename_i hheld
      obtain ⟨k, hk, hnumber, hheld', hend⟩ := ih ((n + 1) % 65536) (Nat.mod_lt _ (by norm_num))
      refine ⟨k + 1, by omega, by rw [hnumber]; omega, fun j hj => ?_, hend.imp_right (by omega)⟩
      cases j with
      | zero => simpa [Nat.mod_eq_of_lt hn] using hheld
      | succ j =>
        have := hheld' j (by omega)
        rwa [show ((n + 1) % 65536 + j) % 65536 = (n + (j + 1)) % 65536 by omega] at this
    · rename_i hfree
      exact ⟨0, by omega, by simp [Nat.mod_eq_of_lt hn], by simp, .inl (by simpa using hfree)⟩

/-- With fewer generations than numbers, the next publication takes the first number that none of them holds (R36). -/
theorem Ptu.nextNumber_spec (t : Ptu) (hlen : t.published.length < 65536) :
    t.holds t.nextNumber = false ∧ ∃ k, t.nextNumber = (t.newest + 1 + k) % 65536
      ∧ ∀ j < k, t.holds ((t.newest + 1 + j) % 65536) = true := by
  obtain ⟨k, -, hnumber, hheld, hend⟩ := t.freeNumber_spec 65536 ((t.newest + 1) % 65536) (Nat.mod_lt _ (by norm_num))
  simp only [Nat.mod_add_mod] at hnumber hheld
  refine ⟨hend.resolve_right fun hk => ?_, k, hnumber, hheld⟩
  subst hk
  have hsub : (List.range 65536).map (fun j => (t.newest + 1 + j) % 65536) ⊆ t.published.map (·.number) := by
    intro n hn
    obtain ⟨j, hj, rfl⟩ := List.mem_map.1 hn
    exact (t.holds_iff _).1 (hheld j (List.mem_range.1 hj))
  have hnodup : ((List.range 65536).map fun j => (t.newest + 1 + j) % 65536).Nodup := by
    refine List.Nodup.map_on (fun i hi j hj hij => ?_) List.nodup_range
    rw [List.mem_range] at hi hj
    omega
  have := (hnodup.subperm hsub).length_le
  simp only [List.length_map, List.length_range] at this
  omega

/-- A new generation under a free number is published beside the others, and is the newest (R36). -/
theorem State.PricesPublished.publish {s : State} (h : s.PricesPublished) {n : Nat} (hn : s.ptu.holds n = false)
    (table : PriceTable) :
    State.PricesPublished { s with ptu := { s.ptu with published := s.ptu.published ++ [⟨n, table⟩], newest := n } } := by
  refine ⟨?_, by simp [Ptu.holds], fun p => ?_⟩
  · have hnot : n ∉ s.ptu.published.map (·.number) := by simp [← Ptu.holds_iff, hn]
    simpa [List.nodup_append, h.nodup] using hnot
  · have := h.points p
    simp only [Ptu.holds, List.any_append, Bool.or_eq_true] at this ⊢
    exact .inl this

theorem State.PricesPublished.adoptAtApply {s : State} (h : s.PricesPublished) (p : Point) :
    (s.adoptAtApply p).PricesPublished := by
  unfold State.adoptAtApply
  dsimp only
  split
  · have hadopted := h.mapPoint_newest p
    exact ⟨hadopted.nodup, hadopted.newest, hadopted.points⟩
  · exact h

/-- A publication leaves a lawful set (R36, R37, R39). -/
theorem State.PricesLawful.publish {s : State} (h : s.PricesLawful) : s.publish.1.PricesLawful := by
  have hfree := (s.ptu.nextNumber_spec (by have := h.length_le; omega)).1
  exact (((h.toPricesPublished.publish hfree s.ptu.staging).adoptAtApply .a).adoptAtApply .b).retire.congr rfl rfl
    fun _ => rfl

end Sys2Proof.Machine
end

section
/-! PROOFS. Every operation that an event is made of keeps the published set lawful: only entries to the free states touch it,
by adoption (R38, R39). The proofs follow the operations' definitions step by step. -/

namespace Sys2Proof.Machine

namespace State.PricesLawful

variable {s t u : State} {p : Point} {m : Meter} {x : Side}

/-! ## Updates that leave the set and the points' generations -/

/-- An update that leaves the PTU and the points as they are. -/
theorem same {s t : State} (h : s.PricesLawful) (hsame : (t.ptu, t.points) = (s.ptu, s.points)) : t.PricesLawful := by
  obtain ⟨hptu, hpoints⟩ := Prod.mk.injEq .. ▸ hsame
  exact h.congr (by rw [hptu]) (by rw [hptu]) fun p => by rw [State.point, hpoints, State.point]

/-- An update of a point that leaves its generation. -/
theorem mapPoint {f : PointData → PointData} (h : s.PricesLawful) (hf : ∀ d, (f d).generation = d.generation) :
    (s.mapPoint p f).PricesLawful := by
  refine h.congr rfl rfl fun q => ?_
  rw [State.point_mapPoint]
  split
  · rename_i hq
    rw [hf, hq]
  · rfl

theorem mapCurrent {f : DeliveryRecord → DeliveryRecord} (h : s.PricesLawful) : (s.mapCurrent p f).PricesLawful :=
  h.mapPoint fun _ => rfl

theorem post {target : ReportTarget} {data : ReportData} (h : s.PricesLawful) : (s.post target data).PricesLawful :=
  h.same rfl

theorem touchDeliveries (h : s.PricesLawful) : s.touchDeliveries.PricesLawful := h.same rfl

theorem mapPou {f : Pou → Pou} (h : s.PricesLawful) : (s.mapPou p f).PricesLawful := h.same rfl

theorem mapSide {f : DduSide → DduSide} (h : s.PricesLawful) : (s.mapSide x f).PricesLawful := h.same rfl

theorem mapPsc {f : Psc → Psc} (h : s.PricesLawful) : (s.mapPsc f).PricesLawful := h.same rfl

theorem commandValves {open₁ open₂ : Bool} (h : s.PricesLawful) : (s.commandValves m open₁ open₂).PricesLawful := h.same (by simp)

theorem withdrawZero (h : s.PricesLawful) : (s.withdrawZero x).PricesLawful := h.same rfl

theorem removeWaiter (h : s.PricesLawful) : (s.removeWaiter p).PricesLawful := h.same rfl

theorem handFinalization {r : DeliveryRecord} (h : s.PricesLawful) : (s.handFinalization p r).PricesLawful := h.same (by simp)

theorem askZero (h : s.PricesLawful) : (s.askZero x).1.PricesLawful := h.same (by simp)

theorem allMotorsOff (h : s.PricesLawful) : s.allMotorsOff.PricesLawful := h.same rfl

theorem endTest {r : TestResult} (h : s.PricesLawful) : (s.endTest x r).PricesLawful := h.same (by simp)

theorem takeHold {hold : Hold} (h : s.PricesLawful) : (s.takeHold x hold).PricesLawful := h.same (by simp)

theorem endHold {r : HoldEnd} (h : s.PricesLawful) : (s.endHold x r).PricesLawful := h.same (by simp)

theorem holdFinished (h : s.PricesLawful) : (s.holdFinished x).PricesLawful := h.same (by simp)

/-- Both branches of a test are lawful. -/
theorem branch {c : Prop} [Decidable c] (ht : t.PricesLawful) (hu : u.PricesLawful) :
    (if c then t else u).PricesLawful := by
  split
  · exact ht
  · exact hu

/-- A run of lawful acts, one for each entry of a list. -/
theorem foldl {α : Type} {f : State → α → State} (hf : ∀ s a, s.PricesLawful → (f s a).PricesLawful) (l : List α)
    (h : s.PricesLawful) : (l.foldl f s).PricesLawful := by
  induction l generalizing s with
  | nil => exact h
  | cons a l ih => exact ih (hf s a h)

/-! ## Pulses (R87 to R90) -/

theorem emit (h : s.PricesLawful) : (s.emit p).PricesLawful := by
  unfold State.emit
  split
  · exact h.same rfl
  · have hsame (d : PointData) (tag : Nat) : (d.credit tag).generation = d.generation := by
      unfold PointData.credit
      dsimp only
      split
      · rfl
      · split <;> rfl
    have hcredited {f : Pou → Pou} (tag : Nat) : ((s.mapPou p f).mapPoint p (·.credit tag)).PricesLawful :=
      mapPoint h.mapPou (hsame · tag)
    exact branch (hcredited _).touchDeliveries (hcredited _)

theorem makePulse {tag : Nat} (h : s.PricesLawful) : (s.makePulse p tag).PricesLawful :=
  branch (branch (emit (h.same rfl)) (h.same rfl)) h.mapCurrent

theorem advance {net : Int} (h : s.PricesLawful) : (s.advance p m net).PricesLawful := by
  unfold State.advance
  dsimp only
  split
  · exact h
  · exact branch (branch (branch (h.same rfl) (makePulse (h.same rfl))) (h.same rfl)) h

/-! ## The opening of valves and the motors (R62, R63, R176, R177) -/

theorem openValves {r : DeliveryRecord} (h : s.PricesLawful) : (s.openValves p m r).PricesLawful :=
  post (touchDeliveries (mapPou (mapPoint h.commandValves fun _ => rfl)))

theorem tryOpen (h : s.PricesLawful) : (s.tryOpen p).PricesLawful := by
  unfold State.tryOpen
  dsimp only
  split
  · exact branch h.openValves h
  · exact h

theorem tryOpenHolder (h : s.PricesLawful) : (s.tryOpenHolder m).PricesLawful := by
  unfold State.tryOpenHolder
  split
  · exact h.tryOpen
  · exact h

theorem testHead (fuel : Nat) (h : s.PricesLawful) : (s.testHead fuel).PricesLawful := by
  induction fuel generalizing s with
  | zero => exact h
  | succ fuel ih =>
    unfold State.testHead
    split
    · exact h
    · refine branch (ih ?_) h
      exact tryOpenHolder (h.same rfl)

theorem requestStart (h : s.PricesLawful) : (s.requestStart m).PricesLawful := testHead _ (h.same rfl)

theorem withdrawStart (h : s.PricesLawful) : (s.withdrawStart m).PricesLawful := branch (testHead _ (h.same rfl)) (h.same rfl)

theorem demandMotor (h : s.PricesLawful) : (s.demandMotor m).PricesLawful := by
  unfold State.demandMotor
  dsimp only
  split
  · exact requestStart (h.same rfl)
  · exact h.same rfl
  · exact h
  · exact h

theorem dropMotor (h : s.PricesLawful) : (s.dropMotor m).PricesLawful := by
  unfold State.dropMotor
  dsimp only
  split
  · exact withdrawStart (h.same rfl)
  · exact h.same rfl
  · exact h
  · exact h

/-! ## The free states (R38, R57, R71, R72) -/

theorem callIfUp (h : s.PricesLawful) : (s.callIfUp p).PricesLawful := by
  unfold State.callIfUp
  split
  · exact h
  · exact post (h.mapPoint fun _ => rfl)

theorem enterIdle (h : s.PricesLawful) : (s.enterIdle p).PricesLawful := callIfUp (adopt (h.mapPoint fun _ => rfl))

theorem enterClosed (h : s.PricesLawful) : (s.enterClosed p).PricesLawful := adopt (h.mapPoint fun _ => rfl)

theorem enterFree (h : s.PricesLawful) : (s.enterFree p).PricesLawful := branch h.enterIdle h.enterClosed

theorem clearRecord (h : s.PricesLawful) : (s.clearRecord p).PricesLawful :=
  enterFree (touchDeliveries (h.mapPoint fun _ => rfl))

/-! ## Leaving STARTING before the meter is held (R59, R64) -/

theorem leaveStarting (h : s.PricesLawful) : (s.leaveStarting p).PricesLawful :=
  touchDeliveries (mapPoint h.removeWaiter fun _ => rfl)

theorem returnToAuthorized (h : s.PricesLawful) : (s.returnToAuthorized p).PricesLawful := mapPoint h.leaveStarting fun _ => rfl

theorem refuseWaiter {r : LiftRefusal} (h : s.PricesLawful) : (s.refuseWaiter p r).PricesLawful :=
  h.returnToAuthorized.post

theorem endAuthorization {r : AuthEnd} (h : s.PricesLawful) : (s.endAuthorization p r).PricesLawful := h.post.enterIdle

/-! ## Stops (R66, R68) -/

theorem enterStopping {c : StopCause} (h : s.PricesLawful) : (s.enterStopping p m c).PricesLawful := by
  rw [State.enterStopping_eq]
  exact post (touchDeliveries (withdrawZero (dropMotor (commandValves (h.mapPoint fun _ => rfl)))))

theorem stopHolder {c : StopCause} (h : s.PricesLawful) : (s.stopHolder p c).PricesLawful := by
  unfold State.stopHolder
  split
  · exact branch h.enterStopping h
  · exact h

/-! ## The meter hold arbiter (R58 to R61) -/

theorem becomeHolder (h : s.PricesLawful) : (s.becomeHolder p m).PricesLawful := by
  unfold State.becomeHolder
  split
  · exact h
  · dsimp only
    have hdemand {t : State} {f : DeliveryRecord → DeliveryRecord} {g : Pou → Pou} (ht : t.PricesLawful) :
        ((((t.mapCurrent p f).mapPou p g).touchDeliveries.askZero p).1.demandMotor m).PricesLawful :=
      ht.mapCurrent.mapPou.touchDeliveries.askZero.demandMotor
    exact branch (hdemand (h.same (by rfl))).stopHolder (hdemand (h.same (by rfl)))

theorem claim (h : s.PricesLawful) : (s.claim p m).PricesLawful := by
  unfold State.claim
  split
  · exact becomeHolder (h.same (by simp))
  · exact h.same (by simp)

theorem releaseMeter (h : s.PricesLawful) : (s.releaseMeter m).PricesLawful := by
  unfold State.releaseMeter
  split
  · exact becomeHolder (h.same rfl)
  · exact h.same (by simp)

/-! ## Lifts and finalization (R54, R70, R71) -/

theorem judgeLift {k : Position} (h : s.PricesLawful) : (s.judgeLift p k).PricesLawful := by
  unfold State.judgeLift
  split
  · exact h
  · split
    · exact h.post
    · exact claim (touchDeliveries (h.mapPoint fun _ => rfl))

theorem finalize {r : DeliveryRecord} (h : s.PricesLawful) : (s.finalize p m r).PricesLawful := by
  unfold State.finalize
  exact holdFinished (mapPou (mapSide (releaseMeter (handFinalization (h.mapPoint fun _ => rfl)))))

theorem finish (h : s.PricesLawful) : (s.finish p).PricesLawful := by
  unfold State.finish
  split
  · dsimp only
    split
    · exact h.finalize
    · exact branch h.finalize.post.clearRecord h.finalize.post
  · exact h

/-! ## Events of the meters and the displays (R59, R64 to R69, R113 to R117) -/

theorem stepNotice {b : Bool} (h : s.PricesLawful) : (s.stepNotice p b).PricesLawful := h.mapPoint fun _ => rfl

theorem slowEvent (h : s.PricesLawful) : (s.slowEvent p m).PricesLawful :=
  branch (touchDeliveries (mapPoint h.commandValves fun _ => rfl)) h

theorem stopEvent (h : s.PricesLawful) : (s.stopEvent p).PricesLawful := by
  unfold State.stopEvent
  split
  · exact h.stopHolder
  · exact h

theorem meterEvent {c : StopCause} (h : s.PricesLawful) : (s.meterEvent m c).PricesLawful := by
  have hstop : (match s.dle.holders.get m with
      | some p => s.stopHolder p c
      | none => s).PricesLawful := by
    split
    · exact h.stopHolder
    · exact h
  unfold State.meterEvent
  dsimp only
  split
  · exact refuseWaiter hstop
  · exact hstop

theorem sideFaultEvent (h : s.PricesLawful) : (s.sideFaultEvent x).PricesLawful := branch h.refuseWaiter h.stopHolder

theorem gradeClosedEvent {g : Grade} (h : s.PricesLawful) : (s.gradeClosedEvent x g).PricesLawful :=
  branch h.refuseWaiter h

theorem zeroFailed (h : s.PricesLawful) : (s.zeroFailed x).PricesLawful := branch (stopHolder (h.same rfl)) (h.same rfl)

theorem zeroPassed (h : s.PricesLawful) : (s.zeroPassed x).PricesLawful :=
  tryOpen (mapPoint h.withdrawZero fun _ => rfl)

/-! ## Ends of authorizations, and power at the points (R66, R73 to R80) -/

theorem cancelPoint (h : s.PricesLawful) : (s.cancelPoint p).PricesLawful :=
  branch h.enterIdle (branch h.leaveStarting.enterIdle h.stopHolder)

theorem endPermission {r : AuthEnd} {c : StopCause} (h : s.PricesLawful) : (s.endPermission p r c).PricesLawful :=
  branch h.endAuthorization (branch h.leaveStarting.endAuthorization (branch h.stopHolder h))

theorem emergencyStop (h : s.PricesLawful) : s.emergencyStop.PricesLawful := by
  have hdelivery {t : State} {p : Point} (h : t.PricesLawful) : (t.emergencyDelivery p).PricesLawful :=
    branch h.stopHolder (branch h.endPermission h)
  have hauthorized {t : State} {p : Point} (h : t.PricesLawful) : (t.emergencyAuthorized p).PricesLawful :=
    branch h.endAuthorization h
  exact hauthorized (hauthorized (hdelivery (hdelivery h)))

theorem sessionEnd {n : Nat} (h : s.PricesLawful) : (s.sessionEnd n).PricesLawful := by
  have hpoint {t : State} {p : Point} (h : t.PricesLawful) : (t.sessionEndPoint p n).PricesLawful :=
    branch h.endPermission h
  exact hpoint (hpoint h)

theorem silencePoint (h : s.PricesLawful) : (s.silencePoint p).PricesLawful := branch h.endAuthorization h

theorem openPoints (h : s.PricesLawful) : s.openPoints.PricesLawful := by
  have hpoint {t : State} {p : Point} (h : t.PricesLawful) : (t.openPoint p).PricesLawful := branch h.enterIdle h
  exact hpoint (hpoint h)

theorem drainPoints (h : s.PricesLawful) : s.drainPoints.PricesLawful := by
  have hpoint {t : State} {p : Point} (h : t.PricesLawful) : (t.drainPoint p).PricesLawful := branch h.enterClosed h
  exact hpoint (hpoint h)

theorem closePoints (h : s.PricesLawful) : s.closePoints.PricesLawful := by
  have hauthorized {t : State} {p : Point} (h : t.PricesLawful) : (t.closeAuthorized p).PricesLawful :=
    branch h.post.enterClosed h
  have hdelivery {t : State} {p : Point} (h : t.PricesLawful) : (t.closeDelivery p).PricesLawful :=
    branch h.leaveStarting.post.enterClosed h.stopHolder
  exact hdelivery (hdelivery (hauthorized (hauthorized h.drainPoints)))

theorem valveSupplyEvent {good : Bool} (h : s.PricesLawful) : (s.valveSupplyEvent good).PricesLawful := by
  have hlost {t : State} {p : Point} (h : t.PricesLawful) : (t.supplyLostPoint p).PricesLawful := branch h.stopHolder h
  exact branch h.tryOpen.tryOpen (hlost (hlost h))

/-! ## The gate (8.2 to 8.10) -/

theorem flushOutbound (h : s.PricesLawful) : s.flushOutbound.PricesLawful :=
  same (foldl (fun _ _ h => h.post) s.crg.outbound h) rfl

theorem tellSessionEnd {session : Option Nat} (h : s.PricesLawful) : (s.tellSessionEnd session).PricesLawful := by
  unfold State.tellSessionEnd
  split
  · exact h.sessionEnd
  · exact h

theorem moveGate {c : GateCause} {f : Crg → Crg} (h : s.PricesLawful) : (s.moveGate c f).PricesLawful :=
  tellSessionEnd (same h.flushOutbound rfl)

theorem openSession {c : GateCause} {id : Identity} (h : s.PricesLawful) : (s.openSession c id).PricesLawful :=
  tellSessionEnd (same h.flushOutbound rfl)

theorem quarantine {c : QuarantineCause} (h : s.PricesLawful) : (s.quarantine c).PricesLawful :=
  tellSessionEnd (same h.flushOutbound (by simp))

theorem tamperAct (h : s.PricesLawful) : s.tamperAct.PricesLawful := branch h.quarantine (branch h (h.same rfl))

theorem powerGate {c : GateCause} {f : Crg → Crg} (h : s.PricesLawful) : (s.powerGate c f).PricesLawful := by
  unfold State.powerGate
  exact h.moveGate

theorem readerOnFromOff {c : GateCause} (h : s.PricesLawful) : (s.readerOnFromOff c).PricesLawful := h.powerGate

theorem readerOffAct {c : GateCause} (h : s.PricesLawful) : (s.readerOffAct c).PricesLawful := branch h h.moveGate

theorem attemptFailed (h : s.PricesLawful) : s.attemptFailed.PricesLawful := branch h.quarantine h.moveGate

theorem readerSupplyEvent {good : Bool} (h : s.PricesLawful) : (s.readerSupplyEvent good).PricesLawful := by
  unfold State.readerSupplyEvent
  split
  · exact branch h (h.same rfl)
  · exact branch h h.powerGate
  · exact branch h h.powerGate
  · exact branch h h.powerGate
  · exact h
  · exact h

theorem linkLost (h : s.PricesLawful) : s.linkLost.PricesLawful := branch h.quarantine h.moveGate

theorem violation (h : s.PricesLawful) : s.violation.PricesLawful := branch (quarantine (h.same rfl)) (h.same rfl)

theorem sendOwed (h : s.PricesLawful) : s.sendOwed.PricesLawful := h.same rfl

theorem refusePacket (h : s.PricesLawful) : s.refusePacket.PricesLawful := violation (h.same rfl)

theorem judgeInSync {k : ReaderPacket} (h : s.PricesLawful) : (s.judgeInSync k).PricesLawful := by
  have hbroken : (s.breakOther k.kind).PricesLawful := branch h (h.same rfl)
  unfold State.judgeInSync
  dsimp only
  split
  · exact hbroken.openSession
  · exact hbroken
  all_goals exact hbroken.refusePacket

theorem outboundVerdict {v : Verdict} (h : s.PricesLawful) : (s.outboundVerdict v).PricesLawful := by
  unfold State.outboundVerdict
  dsimp only
  split
  · exact h
  · split
    · exact h.same rfl
    · exact h.same rfl
    · exact h
    · exact h

theorem takePass {n : Nat} {payload : List Byte} (h : s.PricesLawful) : (s.takePass n payload).PricesLawful :=
  branch (branch (h.same rfl) (h.same rfl)) (h.same rfl)

theorem takePresence {n : Nat} {payload : List Byte} (h : s.PricesLawful) : (s.takePresence n payload).PricesLawful :=
  branch (h.same rfl) (branch (h.same rfl) (violation (h.same rfl)))

theorem takeLoopOn (h : s.PricesLawful) : s.takeLoopOn.PricesLawful := branch (moveGate (h.same rfl)) (h.same rfl)

theorem takeLoopOff (h : s.PricesLawful) : s.takeLoopOff.PricesLawful := branch (moveGate (h.same rfl)) (h.same rfl)

theorem judgeInOpen {n : Nat} {k : ReaderPacket} (h : s.PricesLawful) : (s.judgeInOpen n k).PricesLawful := by
  have hbroken : s.breakRun.PricesLawful := h.same rfl
  unfold State.judgeInOpen
  dsimp only
  split
  · exact h.openSession
  · exact branch hbroken.takePass (hbroken.same rfl)
  · exact branch hbroken.takePresence (hbroken.same rfl)
  · exact hbroken.same rfl
  · exact h.takeLoopOn
  · exact hbroken.same rfl
  · exact hbroken.refusePacket

theorem judgeInEcho {k : ReaderPacket} (h : s.PricesLawful) : (s.judgeInEcho k).PricesLawful := by
  have hbroken : s.breakRun.PricesLawful := h.same rfl
  unfold State.judgeInEcho
  split
  · exact h.takeLoopOff
  · exact hbroken.violation
  all_goals exact hbroken

theorem judgePacket {pass : Bool} {bytes : List Byte} {k : ReaderPacket} (h : s.PricesLawful) :
    (s.judgePacket pass bytes k).PricesLawful := by
  unfold State.judgePacket
  split
  · exact h.judgeInSync
  · exact judgeInOpen (branch (outboundVerdict (h.same rfl)) (h.same rfl))
  · exact judgeInEcho (h.same rfl)
  · exact h

theorem badPacket (h : s.PricesLawful) : s.badPacket.PricesLawful := violation (h.same rfl)

/-! ## The loads and the step sequence (R121, R158 to R163) -/

theorem darken (h : s.PricesLawful) : (s.darken x).PricesLawful :=
  branch h (branch h.endTest h.endTest.zeroFailed)

theorem setDrive {l : Load} {on : Bool} (h : s.PricesLawful) : (s.setDrive l on).PricesLawful := by
  unfold State.setDrive
  dsimp only
  split
  · exact branch (h.same rfl) (readerOffAct (h.same rfl))
  · split
    · exact darken (h.same rfl)
    · exact h.same rfl

theorem allOff (h : s.PricesLawful) : s.allOff.PricesLawful :=
  h.mapPsc.darken.darken.readerOffAct

theorem driveHeaters (h : s.PricesLawful) : s.driveHeaters.PricesLawful := branch (h.same rfl) h

theorem enterPower {w : PowerSt} {c : PowerCause} (h : s.PricesLawful) : (s.enterPower w c).PricesLawful := h.same rfl

theorem intend {i : Intended} (h : s.PricesLawful) : (s.intend i).PricesLawful := branch h (h.same rfl)

theorem sequenceDone (h : s.PricesLawful) : s.sequenceDone.PricesLawful :=
  h.mapPsc.enterPower.openPoints.driveHeaters

theorem halt (h : s.PricesLawful) : s.halt.PricesLawful := h.mapPsc.enterPower.allOff

theorem applyAction {st : PowerStep} (h : s.PricesLawful) : (s.applyAction st).1.PricesLawful := by
  unfold State.applyAction
  split
  · exact h
  · dsimp only
    split
    · exact h.setDrive.readerOnFromOff
    · exact h.setDrive (l := .reader) (on := st.turnOn)
  · exact h.setDrive

theorem enterCheck {st : PowerStep} (h : s.PricesLawful) : (s.enterCheck st).1.PricesLawful := by
  unfold State.enterCheck
  dsimp only
  split
  · exact h
  · exact h
  · exact h
  · split
    · exact h
    · exact h.same rfl

theorem reportFailure {n : Nat} {st : PowerStep} {r : StepReason} {ddu : Nat} {a : StepAction} (h : s.PricesLawful) :
    (s.reportFailure n st r ddu a).PricesLawful := h.same rfl

theorem enterRetryWait {n : Nat} {st : PowerStep} (h : s.PricesLawful) : (s.enterRetryWait n st).PricesLawful := by
  have hwait : ((s.mapPsc fun c => { c with retries := c.retries + 1 }).place n .retryWait).PricesLawful := h.same rfl
  unfold State.enterRetryWait
  dsimp only
  split
  · exact hwait.setDrive
  · exact hwait

theorem runSteps (fuel : Nat) (move : StepMove) (h : s.PricesLawful) : (s.runSteps fuel move).PricesLawful := by
  induction fuel generalizing move s with
  | zero => exact h
  | succ fuel ih =>
    cases move with
    | begins n =>
      unfold State.runSteps
      split
      · exact h.sequenceDone
      · rename_i st _
        have hbegun : ((s.place n .settle).applyAction st).1.PricesLawful := applyAction (h.same rfl)
        exact branch (ih _ hbegun) (branch (ih _ hbegun) hbegun)
    | checks =>
      unfold State.runSteps
      split
      · exact h
      · rename_i n st _
        have hchecked : ((s.place n .check).enterCheck st).1.PricesLawful := enterCheck (h.same rfl)
        split
        · rename_i heq
          exact ih _ (by rw [heq] at hchecked; exact hchecked)
        · rename_i heq
          rw [heq] at hchecked
          exact hchecked
    | passes =>
      unfold State.runSteps
      split
      · exact h
      · exact ih _ (h.same rfl)
    | fails r ddu =>
      unfold State.runSteps
      split
      · exact h
      · split
        · exact h.reportFailure.halt
        · exact ih _ h.reportFailure.mapPsc
        · split
          · exact branch (ih _ h.reportFailure.enterRetryWait) h.reportFailure.enterRetryWait
          · exact h.reportFailure.halt

theorem advanceSteps {move : StepMove} (h : s.PricesLawful) : (s.advanceSteps move).PricesLawful := runSteps _ move h

theorem gateNotice (h : s.PricesLawful) : s.gateNotice.PricesLawful :=
  branch (branch h.advanceSteps (branch h.advanceSteps h)) h

theorem testNotice {r : TestResult} (h : s.PricesLawful) : (s.testNotice x r).PricesLawful := by
  unfold State.testNotice
  split
  · split <;> exact h.advanceSteps
  · exact h

/-! ## Waking, sleep and mains (R164 to R175) -/

theorem wakeNow {c : WakeCause} (h : s.PricesLawful) : (s.wakeNow c).PricesLawful := by
  have hintend : ((s.post .none (.wake c .waking)).drivesFromOutputs.intend .run).PricesLawful := intend (h.same rfl)
  exact advanceSteps (hintend.same rfl)

theorem wakeLater {c : WakeCause} (h : s.PricesLawful) : (s.wakeLater c).PricesLawful := h.same rfl

theorem backToRun {c : WakeCause} (h : s.PricesLawful) : (s.backToRun c).PricesLawful := h.intend.post.enterPower

theorem wakeOrDefer {c : WakeCause} (h : s.PricesLawful) : (s.wakeOrDefer c).PricesLawful := branch h.wakeNow h.wakeLater

theorem wakeMinute (h : s.PricesLawful) : s.wakeMinute.PricesLawful := by
  unfold State.wakeMinute
  split
  · exact h.wakeOrDefer
  · exact h.wakeOrDefer
  · exact h.backToRun
  · exact h.wakeLater
  · exact h
  · exact h

theorem wakeLine {c : WakeCause} {enabled : Bool} (h : s.PricesLawful) : (s.wakeLine c enabled).PricesLawful :=
  branch h.wakeOrDefer h

theorem shutNext (h : s.PricesLawful) : s.shutNext.PricesLawful := by
  unfold State.shutNext
  split
  · exact h.same rfl
  · exact setDrive (h.same rfl)

theorem completeDrain (h : s.PricesLawful) : s.completeDrain.PricesLawful :=
  shutNext (mapPsc (enterPower (allMotorsOff h.drainPoints)))

theorem drainTest {before : State} (h : s.PricesLawful) : (s.drainTest before).PricesLawful := branch h.completeDrain h

theorem sleepAct {c : PowerCause} (h : s.PricesLawful) : (s.sleepAct c).PricesLawful := by
  have hintend : (s.intend .night).PricesLawful := h.intend
  unfold State.sleepAct
  split
  · exact hintend.enterPower
  · exact h
  · exact completeDrain (hintend.same rfl)
  · exact enterPower (hintend.same rfl)
  · exact hintend.same rfl
  · exact hintend.same rfl

theorem mainsLoss (h : s.PricesLawful) : s.mainsLoss.PricesLawful := by
  have hlost : ((s.mapPsc fun c => { c with cursor := none, retries := 0 }).enterPower .mainsLost .mainsLoss).PricesLawful :=
    h.mapPsc.enterPower
  exact hlost.endTest.endTest.takeHold.takeHold.allMotorsOff.closePoints.allOff

theorem endHolds {r : HoldEnd} (h : s.PricesLawful) : (s.endHolds r).PricesLawful :=
  darken (darken (endHold (endHold h)))

theorem mainsRise (h : s.PricesLawful) : s.mainsRise.PricesLawful := by
  unfold State.mainsRise
  split
  · exact h.wakeNow
  · exact branch h.wakeNow h
  · exact h.wakeNow
  · refine branch (wakeNow (endHolds (h.same rfl))) ?_
    dsimp only
    split
    · exact h.endHolds.enterPower.wakeNow
    · exact h.endHolds.enterPower
  · exact h

theorem mainsFall (h : s.PricesLawful) : s.mainsFall.PricesLawful := by
  unfold State.mainsFall
  split
  · exact h.mainsLoss
  · exact h.mainsLoss
  · exact h.mainsLoss
  all_goals exact h

/-! ## The comparators and the day clock (R154, R155, R178, R179) -/

theorem handCondition {c : Comparator} {good : Bool} (h : s.PricesLawful) : (s.handCondition c good).PricesLawful := by
  unfold State.handCondition
  split
  · exact branch h.mainsRise h.mainsFall
  · exact branch h.endHolds h
  · exact valveSupplyEvent (foldl (fun _ _ h => h.same (by simp)) Meter.all h)
  · exact branch h (h.same (by simp))
  · exact h.readerSupplyEvent
  · exact h
  · exact h.driveHeaters
  · exact h.driveHeaters

theorem conditionBecomes {c : Comparator} {value : Bool} (h : s.PricesLawful) :
    (s.conditionBecomes c value).PricesLawful := by
  have hhanded {f : Psc → Psc} : (((s.mapPsc f).changed (.sense c) value).handCondition c value).PricesLawful :=
    handCondition (h.same (by simp))
  exact branch hhanded.advanceSteps hhanded

theorem clockSecond (h : s.PricesLawful) : s.clockSecond.PricesLawful := by
  have hnext : (s.mapPsc fun c => { c with clock := c.clock.next, secondDue := c.secondDue + 1000 }).PricesLawful := h.same rfl
  exact branch hnext (branch hnext.sleepAct (branch hnext.wakeMinute hnext))

/-! ## The end of an event (R97, R161, R169) -/

theorem commit (h : s.PricesLawful) : s.commit.PricesLawful := h.same (by simp)

theorem settle {before : State} (h : s.PricesLawful) : (s.settle before).PricesLawful := h.gateNotice.drainTest.commit

end State.PricesLawful

end Sys2Proof.Machine
end

section
/-! PROOFS. A start publishes the newest generation that it found and those of the FINISHED points (R45, R46), and a warm
start is a power-on start but for the reports of the deliveries that RESTART finalized (R81, R104). -/

namespace Sys2Proof.Machine

/-! ## The set at a start (R45, R46) -/

/-- The kept generations are those of the FINISHED points' sales, under numbers of their own (R45). -/
theorem keptGenerations_spec (d : DeliveriesImage) :
    ((keptGenerations d).map (·.number)).Nodup
      ∧ (∀ g ∈ keptGenerations d, ∃ p, (d.get p).kept = some g)
      ∧ ∀ p g, (d.get p).kept = some g → g.number ∈ (keptGenerations d).map (·.number) := by
  obtain ⟨da, db⟩ := d
  unfold keptGenerations
  dsimp only
  split
  · rename_i x y ha hb
    split
    · rename_i hxy
      refine ⟨by simp, fun g hg => ⟨.a, ?_⟩, fun p g hp => ?_⟩
      · rw [List.mem_singleton.1 hg]
        exact ha
      · cases p with
        | a => simp [Option.some.inj (ha.symm.trans hp)]
        | b => simp [hxy, Option.some.inj (hb.symm.trans hp)]
    · rename_i hxy
      refine ⟨by simpa using hxy, fun g hg => ?_, fun p g hp => ?_⟩
      · rcases List.mem_pair.1 hg with rfl | rfl
        · exact ⟨.a, ha⟩
        · exact ⟨.b, hb⟩
      · cases p with
        | a => simp [Option.some.inj (ha.symm.trans hp)]
        | b => simp [Option.some.inj (hb.symm.trans hp)]
  · rename_i x ha hb
    refine ⟨by simp, fun g hg => ⟨.a, by rw [List.mem_singleton.1 hg]; exact ha⟩, fun p g hp => ?_⟩
    cases p with
    | a => simp [Option.some.inj (ha.symm.trans hp)]
    | b => cases hb.symm.trans hp
  · rename_i y ha hb
    refine ⟨by simp, fun g hg => ⟨.b, by rw [List.mem_singleton.1 hg]; exact hb⟩, fun p g hp => ?_⟩
    cases p with
    | a => cases ha.symm.trans hp
    | b => simp [Option.some.inj (hb.symm.trans hp)]
  · rename_i ha hb
    refine ⟨by simp, by simp, fun p g hp => ?_⟩
    cases p with
    | a => cases ha.symm.trans hp
    | b => cases hb.symm.trans hp

/-- The set of a start is lawful with the generations that its points refer to (R45, R46). -/
theorem State.PricesLawful.of_startPtu {s : State} {t : Ptu} {vc : Validity} {d : DeliveriesImage}
    (hptu : s.ptu = startPtu t vc d)
    (hpoints : ∀ p, (s.point p).generation = (d.get p).reference (startPtu t vc d).newest) : s.PricesLawful := by
  obtain ⟨hnodup, hkept, hmem⟩ := keptGenerations_spec d
  have hnumbers : s.ptu.published.map (·.number) = s.ptu.newest ::
      ((keptGenerations d).filter fun g => decide (g.number ≠ s.ptu.newest)).map (·.number) := by
    rw [hptu]
    rfl
  refine ⟨⟨?_, ?_, fun p => ?_⟩, fun g hg => ?_⟩
  · rw [hnumbers, List.nodup_cons]
    exact ⟨by simp [List.mem_filter], hnodup.sublist (List.filter_sublist.map _)⟩
  · rw [Ptu.holds_iff, hnumbers]
    exact List.mem_cons_self
  · rw [Ptu.holds_iff, hnumbers, hpoints, SavedPoint.reference, ← hptu]
    cases hp : (d.get p).kept with
    | none => exact List.mem_cons_self
    | some g =>
      rw [List.mem_cons]
      by_cases hg : g.number = s.ptu.newest
      · exact .inl hg
      · obtain ⟨g', hg', hnumber⟩ := List.mem_map.1 (hmem p g hp)
        exact .inr (List.mem_map.2 ⟨g', by simpa [hg', hnumber] using hg, hnumber⟩)
  · rw [State.keeps_iff]
    rcases List.mem_cons.1 (hnumbers ▸ List.mem_map_of_mem hg) with hnewest | hrest
    · exact .inl hnewest
    · obtain ⟨g', hg', hnumber⟩ := List.mem_map.1 hrest
      obtain ⟨p, hp⟩ := hkept g' (List.mem_of_mem_filter hg')
      exact .inr ⟨p, by rw [hpoints, SavedPoint.reference, hp]; exact hnumber⟩

/-! ## The deliveries that a restart finalized (R81, R104) -/

/-- The records of a point that a start reports, with the one of a delivery that a restart finalized (R81, R104). -/
def Recovery.told (x : Recovery) (vd : Validity) (owed : Bool) : List DeliveryRecord :=
  if vd = .defaulted then x.reports else (x.restarted owed).reports

theorem Recovery.restarted_eq (x : Recovery) (owed : Bool) :
    x.restarted owed = { x with reports := (x.restarted owed).reports } := by
  unfold Recovery.restarted
  split
  · split <;> rfl
  · rfl

theorem Recovery.told_length (x : Recovery) (vd : Validity) (owed : Bool) :
    (x.told vd owed).length ≤ x.reports.length + 1 := by
  unfold Recovery.told Recovery.restarted
  (repeat' split) <;> simp

/-- A delivery that a restart finalized is recovered as any other, but for its report. -/
theorem recoverPoint_owed (p : Point) (saved : SavedPoint) (t : Totals) (vt vd : Validity) (owed : Bool) :
    recoverPoint p saved t vt vd owed =
      { recoverPoint p saved t vt vd false with reports := (recoverPoint p saved t vt vd false).told vd owed } := by
  unfold recoverPoint Recovery.told
  dsimp only
  by_cases hvd : vd = .defaulted
  · simp only [if_pos hvd]
  · simp only [if_neg hvd, Recovery.restarted_false]
    exact Recovery.restarted_eq _ owed

/-- The part as a start leaves it before it looks at the tamper line, with these records reported. -/
def State.startReported (s : State) (cause : StartCause) (la lb : List DeliveryRecord) : State :=
  ((((s.startBlocks cause).postFinished .a la).postFinished .b lb).sealConfig).writeRecovered s.rtm.foundDeliveries
    s.rtm.finished (s.rtm.recoveryA.before ++ s.rtm.recoveryB.before) (s.rtm.recoveryA.after ++ s.rtm.recoveryB.after)

theorem State.start_owed (s : State) (cause : StartCause) (owed : Pair Bool) :
    let t := s.startReported cause (s.rtm.recoveryA.told s.rtm.foundValidity.2.2 owed.a)
      (s.rtm.recoveryB.told s.rtm.foundValidity.2.2 owed.b)
    s.start cause owed = if t.pins.tamper = true then t.tamperAct else t := by
  unfold State.start
  simp only [recoverPoint_owed _ _ _ _ _ (Pair.a owed), recoverPoint_owed _ _ _ _ _ (Pair.b owed)]
  rfl

namespace State.PricesLawful

variable {s : State}

/-- Every start publishes a lawful set, whatever the part held before (R45, R46). -/
theorem start (s : State) (cause : StartCause) (owed : Pair Bool) : (s.start cause owed).PricesLawful := by
  have hblocks : (s.startBlocks cause).PricesLawful :=
    .of_startPtu (d := s.rtm.cleared) rfl fun p => by cases p <;> rfl
  have hreported (la lb : List DeliveryRecord) : (s.startReported cause la lb).PricesLawful := by
    rw [State.startReported, State.writeRecovered_eq]
    exact same (foldl (fun _ _ h => h.post) lb (foldl (fun _ _ h => h.post) la hblocks)) rfl
  rw [State.start_owed]
  exact branch (hreported _ _).tamperAct (hreported _ _)

/-! ## RESTART and the warm start (R81, R105, R194) -/

theorem restartFinalize (h : s.PricesLawful) : s.restartFinalize.PricesLawful := by
  have hwaiter {t : State} {p : Point} (h : t.PricesLawful) : (t.restartWaiter p).PricesLawful :=
    branch h.leaveStarting.enterClosed h
  have hholder {t : State} {p : Point} (h : t.PricesLawful) : (t.restartHolder p).PricesLawful := by
    unfold State.restartHolder
    split
    · exact mapPoint (h.commandValves.dropMotor.withdrawZero.finalize) fun _ => rfl
    · exact h
  exact hholder (hholder (hwaiter (hwaiter (h.same rfl))))

theorem retainDeliveries (h : s.PricesLawful) : s.retainDeliveries.PricesLawful := h.same (by simp)

theorem restartReply (h : s.PricesLawful) : s.restartReply.PricesLawful := branch (h.same rfl) h

theorem takeRestart (h : s.PricesLawful) : s.takeRestart.PricesLawful :=
  restartReply (commit (same h.restartFinalize.drainTest.retainDeliveries rfl))

end State.PricesLawful

end Sys2Proof.Machine
end

section
/-! PROOFS. Every step keeps the published set lawful (R33, R38, R39): the commands, one by one, and the step. -/

namespace Sys2Proof.Machine

/-! ## Answers and outcomes -/

/-- An answer whose changed state, if it has one, has a lawful set. -/
def Answer.PricesLawful : Answer → Prop
  | .only _ => True
  | .acts t _ => t.PricesLawful

/-- An outcome whose next state, if there is one, has a lawful set. -/
def LeavesPricesLawful (o : Host.Outcome State Fault Refusal) : Prop := ∀ t, o = .next t → t.PricesLawful

theorem LeavesPricesLawful.next {t : State} (h : t.PricesLawful) : LeavesPricesLawful (.next t) := by
  intro u hu
  cases hu
  exact h

theorem LeavesPricesLawful.branch {c : Prop} [Decidable c] {o o' : Host.Outcome State Fault Refusal}
    (h : LeavesPricesLawful o) (h' : LeavesPricesLawful o') : LeavesPricesLawful (if c then o else o') := by
  split
  · exact h
  · exact h'

theorem Answer.PricesLawful.branch {c : Prop} [Decidable c] {a b : Answer} (ha : a.PricesLawful) (hb : b.PricesLawful) :
    (if c then a else b).PricesLawful := by
  split
  · exact ha
  · exact hb

theorem Answer.PricesLawful.orBadField {α : Type} {x : Option α} {f : α → Answer} (hf : ∀ v, (f v).PricesLawful) :
    (orBadField x f).PricesLawful := by
  unfold Machine.orBadField
  split
  · exact hf _
  · trivial

namespace State.PricesLawful

variable {s t : State}

theorem answered {kind : Nat} {a : Answer} (h : s.PricesLawful) (ha : a.PricesLawful) :
    (s.answered kind a).PricesLawful := by
  cases a with
  | only reply => exact h.same rfl
  | acts t reply => exact commit (same (drainTest (gateNotice ha)) rfl)

theorem request {i : Instr} {a : Answer} (h : s.PricesLawful) (ha : a.PricesLawful) :
    LeavesPricesLawful (s.request i a) := .branch (.next (h.answered ha)) (.next h)

theorem event {r : Option State} (h : s.PricesLawful) (hr : ∀ t ∈ r, t.PricesLawful) : LeavesPricesLawful (s.event r) := by
  cases r with
  | none => exact .next h
  | some t => exact .branch (.next (hr t rfl).settle) (.next h)

theorem event_some (h : s.PricesLawful) (ht : t.PricesLawful) : LeavesPricesLawful (s.event (some t)) :=
  h.event fun _ hu => Option.some.inj hu ▸ ht

theorem event_map {α : Type} {x : Option α} {f : α → State} (h : s.PricesLawful) (hf : ∀ a, (f a).PricesLawful) :
    LeavesPricesLawful (s.event (x.map f)) := by
  refine h.event fun t ht => ?_
  obtain ⟨a, -, rfl⟩ := Option.map_eq_some_iff.1 ht
  exact hf a

theorem event_if {c : Prop} [Decidable c] (h : s.PricesLawful) (ht : t.PricesLawful) :
    LeavesPricesLawful (s.event (if c then some t else none)) := by
  split
  · exact h.event_some ht
  · exact h.event (by simp)

theorem inputEvent {f : State → State} (ht : t.PricesLawful) (hf : ∀ u, u.PricesLawful → (f u).PricesLawful) :
    LeavesPricesLawful (s.inputEvent t f) := .branch (.next (hf t ht).settle) (.next ht)

/-! ## What the commands do -/

theorem changed {c : Condition} {v : Bool} (h : s.PricesLawful) : (s.changed c v).PricesLawful := h.same (by simp)

theorem retime {m : Meter} (h : s.PricesLawful) : (s.retime m).PricesLawful := h.same (by simp)

theorem touchConfig (h : s.PricesLawful) : s.touchConfig.PricesLawful := h.same rfl

theorem resetMeter {m : Meter} (h : s.PricesLawful) : (s.resetMeter m).PricesLawful := by
  have hclear {t : State} {c : Condition} {was : Bool} (h : t.PricesLawful) : (t.clearedLatch c was).PricesLawful :=
    branch h.changed h
  exact hclear (hclear (hclear (same (s := s.mapChannel m (·.cleared)) (h.same rfl) (by simp))))

theorem forwardStep {m : Meter} (h : s.PricesLawful) : (s.forwardStep m).PricesLawful := by
  have hfire {t : State} {p : Point} {net : Int} (h : t.PricesLawful) : (t.fireCompares p m net).PricesLawful := by
    have hslow {f : Channel → Channel} {c : Bool} :
        (if c then (t.mapChannel m f).slowEvent p m else t.mapChannel m f).PricesLawful :=
      branch (slowEvent (h.same rfl)) (h.same rfl)
    exact branch hslow.stopEvent hslow
  unfold State.forwardStep
  dsimp only
  split
  · exact branch (changed (h.same rfl)) (h.same rfl)
  · exact hfire (advance (stepNotice (h.same rfl)))

theorem backwardStep {m : Meter} (h : s.PricesLawful) : (s.backwardStep m).PricesLawful := by
  have hstep {p : Point} : ((s.mapChannel m (·.stepBackward)).stepNotice p false).PricesLawful := stepNotice (h.same rfl)
  unfold State.backwardStep
  dsimp only
  split
  · exact h.same rfl
  · exact branch (branch (stopHolder (hstep.same rfl)) (hstep.same rfl)) hstep

theorem sample {m : Meter} {x : Bool × Bool} (h : s.PricesLawful) : ∀ t ∈ s.sample m x, t.PricesLawful := by
  have htaken : (s.mapChannel m fun c => { c with reference := some x }).PricesLawful := h.same rfl
  unfold State.sample
  dsimp only
  intro t ht
  split at ht
  · cases ht
  · split at ht
    · cases ht
      exact htaken
    · split at ht
      · cases ht
      · cases ht
        exact htaken.forwardStep
      · cases ht
        exact htaken.backwardStep
      · cases ht
        exact htaken.same rfl

theorem endWindow {m : Meter} (h : s.PricesLawful) : (s.endWindow m).PricesLawful :=
  branch (meterEvent (changed (h.same rfl))) (h.same rfl)

theorem mismatchLasted {m : Meter} (h : s.PricesLawful) : ∀ t ∈ s.mismatchLasted m, t.PricesLawful := by
  unfold State.mismatchLasted
  intro t ht
  split at ht
  · cases ht
  · split at ht
    · cases ht
    · cases ht
      exact meterEvent (changed (h.same rfl))

theorem grantAuthorization {p : Point} {a : Authorization} (h : s.PricesLawful) :
    (s.grantAuthorization p a).PricesLawful := by
  unfold State.grantAuthorization
  dsimp only
  split
  · exact judgeLift (h.mapPoint fun _ => rfl)
  · exact h.mapPoint fun _ => rfl

theorem lift {p : Point} {k : Position} (h : s.PricesLawful) : (s.lift p k).PricesLawful := by
  unfold State.lift
  split
  · exact h.post.wakeLine
  · exact post (h.mapPoint fun _ => rfl)
  · exact h.judgeLift
  all_goals exact h.post

theorem moveNozzle {p : Point} {k : Position} {up : Bool} (h : s.PricesLawful) : (s.moveNozzle p k up).PricesLawful :=
  h.same rfl

theorem hang {p : Point} {k : Position} (h : s.PricesLawful) : (s.hang p k).PricesLawful :=
  branch (branch h.post.enterIdle (branch h.returnToAuthorized.post h.stopHolder)) h

theorem runningFigures {p : Point} (h : s.PricesLawful) : (s.runningFigures p).PricesLawful := by
  unfold State.runningFigures
  split
  · exact branch (touchDeliveries (mapSide (h.mapPoint fun _ => rfl))) h
  · exact h

theorem judgeRefresh {x : Side} {diff : List Bool} {noSense : Bool} (h : s.PricesLawful) :
    (s.judgeRefresh x diff noSense).PricesLawful := by
  have hmarked {f : DduSide → DduSide} {target : ReportTarget} {data : ReportData} :
      (((s.mapSide x f).post target data).markDisplayFault x).PricesLawful := branch h.mapSide.post.mapCurrent h.mapSide.post
  have hfault {t : State} (h : t.PricesLawful) : (t.setSideFault x).PricesLawful := h.mapSide.changed.sideFaultEvent
  exact branch (foldl (fun _ _ h => h.gradeClosedEvent) _ (branch (hfault hmarked) hmarked)) h.mapSide

theorem progressZero {x : Side} {bad : Bool} (h : s.PricesLawful) : (s.progressZero x bad).PricesLawful := by
  unfold State.progressZero
  split
  · exact h
  · exact h
  · exact branch h.mapSide (branch h.zeroFailed h.mapSide)
  · exact branch h.mapSide (branch h.zeroFailed h.zeroPassed)

theorem progressTest {x : Side} {diff : List Bool} (h : s.PricesLawful) : (s.progressTest x diff).PricesLawful := by
  have hrelease {t : State} (h : t.PricesLawful) : (t.releaseZero x).PricesLawful :=
    branch (branch h.zeroFailed h.mapSide) h
  have hended {f : DduSide → DduSide} {r : TestResult} : (((s.mapSide x f).endTest x r).releaseZero x).PricesLawful :=
    hrelease h.mapSide.endTest
  unfold State.progressTest
  split
  · exact h
  · exact branch h.mapSide (branch hended.testNotice hended)

theorem refresh {x : Side} {sense : Option (List Byte)} (h : s.PricesLawful) : (s.refresh x sense).PricesLawful := by
  have hexchange {t : State} (h : t.PricesLawful) : (t.exchangeSide x sense).PricesLawful :=
    (progressZero (branch h.mapSide.judgeRefresh h.mapSide)).progressTest
  have hbegun {due : Nat} {f : DduSide → DduSide} : (((s.reach due).mapSide x f).runningFigures x).PricesLawful :=
    runningFigures (h.same rfl)
  exact branch (hexchange hbegun) hbegun

theorem poll (h : s.PricesLawful) : ∀ t ∈ s.poll, t.PricesLawful := by
  unfold State.poll
  intro t ht
  split at ht
  · cases ht
    exact h.same rfl
  · cases ht

theorem takeReply {bytes : List Byte} (h : s.PricesLawful) : ∀ t ∈ s.takeReply bytes, t.PricesLawful := by
  have hended : s.endExchange.PricesLawful := h.same rfl
  unfold State.takeReply
  intro t ht
  split at ht
  · cases ht
  · dsimp only at ht
    split at ht
    · cases ht
      exact hended.judgePacket.sendOwed
    · cases ht
      exact hended.badPacket.sendOwed

theorem missReply (h : s.PricesLawful) : ∀ t ∈ s.missReply, t.PricesLawful := by
  have hcount {t : State} (h : t.PricesLawful) : t.countMiss.PricesLawful := branch (branch (linkLost (h.same rfl)) (h.same rfl)) h
  unfold State.missReply
  intro t ht
  split at ht
  · cases ht
  · cases ht
    exact sendOwed (hcount (h.same rfl))

theorem gapReply (h : s.PricesLawful) : ∀ t ∈ s.gapReply, t.PricesLawful := by
  unfold State.gapReply
  intro t ht
  split at ht
  · cases ht
  · cases ht
    exact sendOwed (badPacket (h.same rfl))

theorem followInput {c : Comparator} (h : s.PricesLawful) : (s.followInput c).PricesLawful :=
  branch h.conditionBecomes h.mapPsc

theorem displayHoldExpiry {x : Side} (h : s.PricesLawful) : LeavesPricesLawful (execDisplayHoldExpiry x s) := by
  refine h.event fun t ht => ?_
  split at ht
  · rename_i due _
    cases ht
    exact darken (endHold (s := s.reach due) (h.same rfl))
  · cases ht
  · cases ht

theorem endWrite {region : RegionName} (h : s.PricesLawful) : (s.endWrite region).PricesLawful := by
  cases region
  · exact h.same (t := s.endConfigWrite) (by simp)
  · exact h.same (t := s.endTotalsWrite) (by simp)
  · exact h.same (t := s.endDeliveriesWrite) (by simp)

/-! ## The commands whose effects branch -/

theorem loadMeter {cal : Bool} {meter : Nat} {f : MeterFields} (h : s.PricesLawful) :
    LeavesPricesLawful (execLoadMeter cal meter f s) := by
  have hcal : (s.calibrate cal).PricesLawful := h.same rfl
  refine h.request (.branch hcal ?_)
  split
  · exact .branch hcal (touchConfig (retime (hcal.same rfl)))
  · exact hcal

theorem setRounding {cal : Bool} {mode : Nat} (h : s.PricesLawful) : LeavesPricesLawful (execSetRounding cal mode s) := by
  have hcal : (s.calibrate cal).PricesLawful := h.same rfl
  refine h.request (.branch hcal ?_)
  split
  · exact hcal.same rfl
  · exact hcal

theorem readPrices {k n : Nat} (h : s.PricesLawful) : LeavesPricesLawful (execReadPrices k n s) := by
  refine h.request ?_
  split
  · trivial
  · trivial
  · split <;> trivial
  · trivial

theorem readDelivery {point k : Nat} (h : s.PricesLawful) : LeavesPricesLawful (execReadDelivery point k s) := by
  refine h.request (.orBadField fun p => ?_)
  dsimp only
  split
  · split <;> trivial
  · split <;> trivial
  · trivial

theorem displayTest {side : Nat} (h : s.PricesLawful) : LeavesPricesLawful (execDisplayTest side s) := by
  refine h.request (.orBadField fun l => ?_)
  split
  · trivial
  · exact foldl (fun _ _ h => h.mapSide) l h

theorem readerPost {tag : Nat} {payload : List Byte} (h : s.PricesLawful) :
    LeavesPricesLawful (execReaderPost tag payload s) := by
  refine h.request (.branch trivial ?_)
  split
  · exact .branch trivial (h.same rfl)
  · trivial

theorem readerFetch (h : s.PricesLawful) : LeavesPricesLawful (execReaderFetch s) := by
  refine h.request ?_
  split
  · trivial
  · exact h.same rfl

theorem wake (h : s.PricesLawful) : LeavesPricesLawful (execWake s) := by
  refine h.request ?_
  split
  · exact .branch h.wakeNow trivial
  · exact .branch h.wakeNow trivial
  · exact h.backToRun
  all_goals trivial

theorem requestRefused {kind : Byte} {payload : List Byte} (h : s.PricesLawful) :
    LeavesPricesLawful (execRequestRefused kind payload s) := by
  unfold execRequestRefused
  split
  · exact .branch (.next (h.answered trivial)) (.next h)
  · exact .next h

theorem replySent (h : s.PricesLawful) : LeavesPricesLawful (execReplySent s) := by
  unfold execReplySent
  split
  · exact .branch (.next (start _ _ _)) (.next (h.same rfl))
  · exact .next h

/-! ## The commands that move an input -/

theorem valveSenseChange {m : Meter} {v : Valve} {isOpen : Bool} (h : s.PricesLawful) :
    LeavesPricesLawful (execValveSenseChange m v isOpen s) := by
  have hmoved : (s.moveSense m v isOpen).PricesLawful := by cases v <;> exact h.same rfl
  exact hmoved.inputEvent fun _ h => h.retime

theorem nozzleLift {p : Point} {k : Position} {together : Option Position} (h : s.PricesLawful) :
    LeavesPricesLawful (execNozzleLift p k together s) := by
  have hmoved := foldl (f := fun t (x : Point × Position) => t.moveNozzle x.1 x.2 true) (fun _ _ h => h.moveNozzle)
    (s.freshLifts p k together) h
  unfold execNozzleLift
  exact hmoved.inputEvent fun t h => foldl (fun _ _ h => h.lift) (t.orderLifts _) h

theorem nozzleHang {p : Point} {k : Position} (h : s.PricesLawful) : LeavesPricesLawful (execNozzleHang p k s) :=
  h.moveNozzle.inputEvent fun _ h => branch h.hang h

theorem emergencyStopAssert (h : s.PricesLawful) : LeavesPricesLawful (execEmergencyStopAssert s) :=
  inputEvent (h.same rfl) fun _ h => branch h h.changed.emergencyStop

theorem emergencyStopRelease (h : s.PricesLawful) : LeavesPricesLawful (execEmergencyStopRelease s) :=
  inputEvent (h.same rfl) fun _ h => branch h.changed h

theorem tamperAssert (h : s.PricesLawful) : LeavesPricesLawful (execTamperAssert s) :=
  inputEvent (h.same rfl) fun _ h => branch h h.changed.tamperAct

theorem tamperRelease (h : s.PricesLawful) : LeavesPricesLawful (execTamperRelease s) :=
  inputEvent (h.same rfl) fun _ h => branch h.changed h

theorem senseInputChange {c : Comparator} {mv : Nat} (h : s.PricesLawful) :
    LeavesPricesLawful (execSenseInputChange c mv s) := inputEvent (h.same rfl) fun _ h => h.followInput

/-! ## The commands and the step -/

/-- Every command keeps the published set lawful (R33, R38, R39). -/
theorem exec_next (h : s.PricesLawful) (i : Instr) : LeavesPricesLawful (exec i s) := by
  cases i with
  | loadMeter cal meter fields => exact h.loadMeter
  | meterReset meter => exact h.request (.orBadField fun l => foldl (fun _ _ h => h.resetMeter) l h)
  | readMeter meter => exact h.request (.orBadField fun _ => trivial)
  | setRounding cal mode => exact h.setRounding
  | stagePrices base entries =>
    exact h.request (.orBadField fun _ => .orBadField fun _ => h.congr rfl rfl fun _ => rfl)
  | applyPrices => exact h.request h.publish
  | readPrices k n => exact h.readPrices
  | loadHoses entries => exact h.request (.orBadField fun _ => .branch (h.same rfl) trivial)
  | readHoses => exact h.request trivial
  | loadPointTiming point fields => exact h.request (.orBadField fun _ => .orBadField fun _ => h.same rfl)
  | readPointTiming point => exact h.request (.orBadField fun _ => trivial)
  | authorize point fields =>
    exact h.request (.orBadField fun _ => .orBadField fun _ => .branch trivial (.branch trivial (.branch trivial
      (.branch trivial h.grantAuthorization))))
  | cancel point => exact h.request (.orBadField fun l => foldl (fun _ _ h => h.cancelPoint) l h)
  | clear point presence sequence =>
    exact h.request (.orBadField fun _ => .orBadField fun _ => .branch trivial h.clearRecord)
  | stopAll => exact h.request h.emergencyStop
  | readDelivery point k => exact h.readDelivery
  | readPulseOutput point => exact h.request (.orBadField fun _ => trivial)
  | readTotals => exact h.request trivial
  | loadDisplay fields => exact h.request (.orBadField fun _ => h.same rfl)
  | displayTest side => exact h.displayTest
  | readDisplay side => exact h.request (.orBadField fun _ => trivial)
  | readerOn => exact h.request (.branch trivial (.branch trivial (.branch h.readerOnFromOff trivial)))
  | readerOff => exact h.request h.readerOffAct
  | readerRelease => exact h.request (.branch trivial (.branch trivial (.branch trivial h.powerGate)))
  | readerPost tag payload => exact h.readerPost
  | readerFetch => exact h.readerFetch
  | loadGate fields => exact h.request (.orBadField fun _ => h.same rfl)
  | readGate => exact h.request trivial
  | loadSense comparator fields => exact h.request (.orBadField fun _ => .orBadField fun _ => h.same rfl)
  | loadSequence steps => exact h.request (.orBadField fun _ => .branch trivial (h.same rfl))
  | readSequence => exact h.request trivial
  | wake => exact h.wake
  | sleep => exact h.request h.sleepAct
  | setStartSpacing spacing => exact h.request (.orBadField fun _ => testHead _ h.mapPsc.touchConfig)
  | setClock day second => exact h.request (.orBadField fun _ => .orBadField fun _ => h.same rfl)
  | setSchedule fields => exact h.request (.orBadField fun _ => h.same rfl)
  | readPower => exact h.request trivial
  | fetchReports maximum again =>
    exact h.request (.orBadField fun _ => .orBadField fun _ => .branch trivial (h.same rfl))
  | setReportModes policy modes => exact h.request (.orBadField fun _ => .orBadField fun _ => h.same rfl)
  | setHostSilence seconds => exact h.request (.orBadField fun _ => h.same rfl)
  | identify => exact h.request trivial
  | readStatus => exact h.request trivial
  | restart => exact .branch (.next h.takeRestart) (.next h)
  | requestRefused kind payload => exact h.requestRefused
  | hostFrameReceived bytes => exact .branch (.next (h.same rfl)) (.next h)
  | frameDiscarded bytes faultyStop => exact .branch (.next (h.same rfl)) (.next h)
  | frameGapTimeout => exact .branch (.next (h.same rfl)) (.next h)
  | replySent => exact h.replySent
  | hostSilenceExpiry => exact h.event_map fun _ => silencePoint (silencePoint (h.same rfl))
  | powerOnStart cause spoiled => exact .next (start _ _ _)
  | supplyFallOrReset fates => exact .branch (.next (h.same rfl)) (.next h)
  | retainedWriteEnd region => exact .branch (.next (restartReply (same h.endWrite rfl))) (.next h)
  | pulserSample meter phase1 phase2 => exact h.event h.sample
  | phaseWindowEnd meter => exact h.event_some h.endWindow
  | valveSenseChange meter valve isOpen => exact h.valveSenseChange
  | valveMismatchTimeout meter => exact h.event h.mismatchLasted
  | nozzleLift point position together => exact h.nozzleLift
  | nozzleHang point position => exact h.nozzleHang
  | startSpacingElapsed =>
    refine h.event fun t ht => ?_
    split at ht
    · cases ht
    · cases ht
      exact testHead _ (h.same rfl)
  | runUpElapsed meter => exact h.event_if (tryOpenHolder (h.same rfl))
  | noFlowExpiry point => exact h.event_map fun _ => stopHolder (h.same rfl)
  | quietExpiry point => exact h.event_map fun _ => finish (h.same rfl)
  | runOnExpiry meter => exact h.event_map fun _ => h.same rfl
  | authorizationTimeout point => exact h.event_map fun _ => endAuthorization (h.same rfl)
  | emergencyStopAssert => exact h.emergencyStopAssert
  | emergencyStopRelease => exact h.emergencyStopRelease
  | pulseHighEnd point => exact h.event_if (h.same rfl)
  | pulseLowEnd point => exact h.event_if (emit (h.same rfl))
  | refreshInstant side sense => exact h.event_some h.refresh
  | displayHoldExpiry side => exact h.displayHoldExpiry
  | pollInstant => exact h.event h.poll
  | readerReplyReceived bytes => exact h.event h.takeReply
  | readerReplyMiss => exact h.event h.missReply
  | readerReplyGap => exact h.event h.gapReply
  | errorWindowEnd => exact h.event_some (h.same rfl)
  | attemptTimeout => exact h.event_if (attemptFailed (h.same rfl))
  | offIntervalEnd => exact h.event_map fun _ => h.same rfl
  | bootTimeElapsed => exact h.event_map fun _ => moveGate (h.same rfl)
  | tamperAssert => exact h.tamperAssert
  | tamperRelease => exact h.tamperRelease
  | senseInputChange comparator millivolts => exact h.senseInputChange
  | sensePersistenceExpiry comparator => exact h.event_map fun _ => conditionBecomes (h.same rfl)
  | cardPresentAssert => exact h.event_some h.wakeLine
  | settleTimeElapsed => exact h.event_map fun _ => advanceSteps (h.same rfl)
  | checkTimeout => exact h.event_map fun _ => advanceSteps (h.same rfl)
  | retryWaitEnd => exact h.event_map fun _ => advanceSteps (h.same rfl)
  | shutdownRunTick =>
    refine h.event fun t ht => ?_
    split at ht
    · cases ht
    · cases ht
      exact shutNext (mapPsc (h.same rfl))
  | dayClockSecond => exact h.event_some (clockSecond (h.same rfl))

/-- Every step keeps the published set lawful. -/
theorem step_next (h : s.PricesLawful) : LeavesPricesLawful (step s) := by
  unfold step
  split
  · exact .next (h.same rfl)
  · exact exec_next (h.same (by rfl)) _

end State.PricesLawful

/-- Settles O20: the law of the published set is kept by every command, and so by every step. -/
theorem pricesLawKept : Obligations.PricesLawKept := fun s t h hstep =>
  (t.pricesLawful_iff).2 (((s.pricesLawful_iff).1 h).step_next t hstep)

end Sys2Proof.Machine
end

section
/-! PROOFS. Family 3, prices: the requests STAGE_PRICES, APPLY_PRICES and READ_PRICES (R33 to R43). -/

namespace Sys2Proof.Machine

/-! ## The entries of STAGE_PRICES (R33, R35) -/

/-- The fields of an entry in their ranges (R33). -/
def EntryInRange (f : GradeFields) : Prop :=
  1 ≤ f.grade ∧ f.grade ≤ 8 ∧ f.price1 ≤ 9999 ∧ f.price2 ≤ 9999 ∧ f.slowDown ≤ 999 ∧ f.vapour ≤ 1

/-- The entry that the fields spell. -/
def entryOf (f : GradeFields) : GradeEntry :=
  { price1 := f.price1, price2 := f.price2, slowDown := f.slowDown, vapour := decide (f.vapour = 1) }

theorem Grade.ofNumber_eq_some (n : Nat) (g : Grade) : Grade.ofNumber n = some g ↔ n = g.number := by
  constructor
  · intro h
    unfold Grade.ofNumber at h
    split at h <;> cases h <;> rfl
  · rintro rfl
    cases g <;> rfl

theorem Grade.ofNumber_isSome (n : Nat) : (∃ g, Grade.ofNumber n = some g) ↔ 1 ≤ n ∧ n ≤ 8 := by
  simp only [Grade.ofNumber_eq_some]
  constructor
  · rintro ⟨g, rfl⟩
    cases g <;> decide
  · rintro ⟨hlow, hhigh⟩
    interval_cases n
    exacts [⟨.g1, rfl⟩, ⟨.g2, rfl⟩, ⟨.g3, rfl⟩, ⟨.g4, rfl⟩, ⟨.g5, rfl⟩, ⟨.g6, rfl⟩, ⟨.g7, rfl⟩, ⟨.g8, rfl⟩]

theorem inRange_eq_some (lo hi n m : Nat) : inRange lo hi n = some m ↔ (lo ≤ n ∧ n ≤ hi) ∧ n = m := by
  simp [inRange]

theorem flagOf_eq_some (n : Nat) (b : Bool) : flagOf n = some b ↔ n ≤ 1 ∧ decide (n = 1) = b := by
  unfold flagOf
  split
  · simp
  · simp
  · rename_i h0 h1
    simp only [reduceCtorEq, false_iff]
    rintro ⟨hle, -⟩
    interval_cases n
    · exact h0 rfl
    · exact h1 rfl

/-- An entry is read exactly from fields in range, as its grade and the entry they spell (R33). -/
theorem gradeEntryOf_eq_some (f : GradeFields) (x : Grade × GradeEntry) :
    gradeEntryOf f = some x ↔ EntryInRange f ∧ f.grade = x.1.number ∧ x.2 = entryOf f := by
  obtain ⟨g, e⟩ := x
  simp only [gradeEntryOf, Option.bind_eq_bind, Option.bind_eq_some_iff, inRange_eq_some, flagOf_eq_some,
    Grade.ofNumber_eq_some, Option.pure_def, Option.some.injEq, Prod.mk.injEq]
  constructor
  · rintro ⟨g', hg, _, ⟨⟨-, h1⟩, rfl⟩, _, ⟨⟨-, h2⟩, rfl⟩, _, ⟨⟨-, h3⟩, rfl⟩, _, ⟨hv, rfl⟩, rfl, rfl⟩
    obtain ⟨hlow, hhigh⟩ := (Grade.ofNumber_isSome _).1 ⟨_, (Grade.ofNumber_eq_some _ _).2 hg⟩
    exact ⟨⟨hlow, hhigh, h1, h2, h3, hv⟩, hg, rfl⟩
  · rintro ⟨⟨-, -, h1, h2, h3, hv⟩, hg, rfl⟩
    exact ⟨g, hg, _, ⟨⟨Nat.zero_le _, h1⟩, rfl⟩, _, ⟨⟨Nat.zero_le _, h2⟩, rfl⟩, _,
      ⟨⟨Nat.zero_le _, h3⟩, rfl⟩, _, ⟨hv, rfl⟩, rfl, rfl⟩

/-- The entries read from a list of fields, one by one. -/
abbrev EntriesRead (l : List GradeFields) (es : List (Grade × GradeEntry)) : Prop :=
  List.Forall₂ (fun f x => gradeEntryOf f = some x) l es

theorem mapM_gradeEntryOf (l : List GradeFields) (es : List (Grade × GradeEntry)) :
    l.mapM gradeEntryOf = some es ↔ EntriesRead l es := by
  induction l generalizing es with
  | nil => simp [eq_comm]
  | cons f l ih =>
    simp only [List.mapM_cons, Option.bind_eq_bind, Option.bind_eq_some_iff, Option.pure_def, Option.some.injEq, ih,
      List.forall₂_cons_left_iff]
    constructor
    · rintro ⟨x, hx, es', hes, rfl⟩
      exact ⟨x, es', hx, hes, rfl⟩
    · rintro ⟨x, es', hx, hes, rfl⟩
      exact ⟨x, hx, es', hes, rfl⟩

/-- A list is read whole exactly where every entry of it is in range. -/
theorem exists_entriesRead (l : List GradeFields) : (∃ es, EntriesRead l es) ↔ ∀ f ∈ l, EntryInRange f := by
  induction l with
  | nil => exact ⟨fun _ _ hf => absurd hf List.not_mem_nil, fun _ => ⟨[], .nil⟩⟩
  | cons f l ih =>
    simp only [List.forall₂_cons_left_iff, List.forall_mem_cons, ← ih]
    constructor
    · rintro ⟨_, x, es, hx, hes, -⟩
      exact ⟨((gradeEntryOf_eq_some f x).1 hx).1, es, hes⟩
    · rintro ⟨hf, es, hes⟩
      obtain ⟨g, hg⟩ := (Grade.ofNumber_isSome f.grade).2 ⟨hf.1, hf.2.1⟩
      exact ⟨_, (g, entryOf f), es, (gradeEntryOf_eq_some f _).2 ⟨hf, (Grade.ofNumber_eq_some _ g).1 hg, rfl⟩, hes, rfl⟩

theorem EntriesRead.grades {l : List GradeFields} {es : List (Grade × GradeEntry)} (h : EntriesRead l es) :
    l.map (·.grade) = (es.map (·.1)).map Grade.number := by
  induction h with
  | nil => rfl
  | cons hx _ ih =>
    simp only [List.map_cons, ih]
    rw [((gradeEntryOf_eq_some _ _).1 hx).2.1]

theorem distinctGrades_iff (es : List (Grade × GradeEntry)) : distinctGrades es = true ↔ (es.map (·.1)).Nodup := by
  induction es with
  | nil => simp [distinctGrades]
  | cons x es ih =>
    simp only [distinctGrades, Bool.and_eq_true, ih, List.map_cons, List.nodup_cons]
    refine and_congr_left fun _ => ?_
    simp only [Bool.not_eq_true', List.any_eq_false, decide_eq_true_eq, List.mem_map, not_exists, not_and]

theorem Grade.number_injective : Function.Injective Grade.number := by
  intro g g' h
  have hg : Grade.ofNumber g.number = some g := (Grade.ofNumber_eq_some _ g).2 rfl
  rw [h, (Grade.ofNumber_eq_some _ g').2 rfl] at hg
  exact (Option.some.inj hg).symm

/-- The entries of STAGE_PRICES are taken exactly where there are at most eight, in range, and no grade twice (R35). -/
theorem gradeEntriesOf_eq_some (l : List GradeFields) (es : List (Grade × GradeEntry)) :
    gradeEntriesOf l = some es ↔ l.length ≤ 8 ∧ EntriesRead l es ∧ (l.map (·.grade)).Nodup := by
  have hnodup (h : EntriesRead l es) : distinctGrades es = true ↔ (l.map (·.grade)).Nodup := by
    rw [distinctGrades_iff, h.grades, List.nodup_map_iff Grade.number_injective]
  unfold gradeEntriesOf
  split
  · simp only [reduceCtorEq, false_iff]
    omega
  · rename_i hlen
    rw [← mapM_gradeEntryOf] at hnodup ⊢
    cases hes : l.mapM gradeEntryOf with
    | none => simp
    | some es' =>
      simp only [Option.ite_none_right_eq_some, Option.some.injEq]
      constructor
      · rintro ⟨hdistinct, rfl⟩
        exact ⟨by omega, rfl, (hnodup hes).1 hdistinct⟩
      · rintro ⟨-, rfl, hgrades⟩
        exact ⟨(hnodup hes).2 hgrades, rfl⟩

/-- The whole entry of each grade named is replaced, and every other entry stays (R35). -/
theorem EntriesRead.writeEntries_get {l : List GradeFields} {es : List (Grade × GradeEntry)} (h : EntriesRead l es)
    (hnodup : (l.map (·.grade)).Nodup) (t : PriceTable) (g : Grade) :
    (writeEntries t es).get g = match l.find? fun f => decide (f.grade = g.number) with
      | none => t.get g
      | some f => entryOf f := by
  induction h generalizing t with
  | nil => rfl
  | @cons f x l es hx _ ih =>
    obtain ⟨-, hgrade, hentry⟩ := (gradeEntryOf_eq_some f x).1 hx
    obtain ⟨hfresh, hnodup⟩ := List.nodup_cons.1 hnodup
    have hcons : (writeEntries t (x :: es)).get g = (writeEntries (t.set x.1 x.2) es).get g := rfl
    rw [hcons, ih hnodup, List.find?_cons]
    by_cases hg : g = x.1
    · subst hg
      have hnone : l.find? (fun f => decide (f.grade = x.1.number)) = none := by
        refine List.find?_eq_none.2 fun f' hf' heq => hfresh ?_
        exact List.mem_map.2 ⟨f', hf', (of_decide_eq_true heq).trans hgrade.symm⟩
      simp [hnone, hgrade, hentry]
    · have hne : f.grade ≠ g.number := by
        rw [hgrade]
        exact fun heq => hg (Grade.number_injective heq).symm
      simp only [hne, decide_false, Oct.get_set, if_neg hg]

/-! ## STAGE_PRICES (R35) -/

theorem exec_stagePrices (base : Nat) (l : List GradeFields) (s : State) :
    exec (.stagePrices base l) s = execStagePrices base l s := rfl

theorem resetOf_eq_some (n : Nat) (b : Bool) : resetOf n = some b ↔ (n = 1 ∨ n = 2) ∧ b = decide (n = 2) := by
  unfold resetOf
  split
  · simp [eq_comm]
  · simp [eq_comm]
  · rename_i h1 h2
    simp only [reduceCtorEq, false_iff]
    rintro ⟨rfl | rfl, -⟩
    · exact h1 rfl
    · exact h2 rfl

/-- Settles O17: the base and the entries are read exactly where they fit, and a request that does not fit is refused before
anything is written. -/
theorem stagePricesJudged : Obligations.StagePricesJudged := by
  intro s base l ht
  dsimp only
  rw [exec_stagePrices, execStagePrices, State.request_taken ht]
  refine ⟨fun hnot => ?_, fun hr ⟨hbase, hlen, hnodup, hranges⟩ => ?_⟩
  · refine congrArg Host.Outcome.next ?_
    cases hreset : resetOf base with
    | none => rfl
    | some reset =>
      cases hes : gradeEntriesOf l with
      | none => rfl
      | some es =>
        obtain ⟨hlen, hread, hnodup⟩ := (gradeEntriesOf_eq_some l es).1 hes
        exact absurd ⟨((resetOf_eq_some base reset).1 hreset).1, hlen, hnodup,
          (exists_entriesRead l).1 ⟨es, hread⟩⟩ hnot
  · obtain ⟨-, hc, hd, hdue⟩ := State.runs_iff.1 hr
    obtain ⟨es, hread⟩ := (exists_entriesRead l).2 hranges
    rw [(resetOf_eq_some base _).2 ⟨hbase, rfl⟩, (gradeEntriesOf_eq_some l es).2 ⟨hlen, hread, hnodup⟩]
    simp only [orBadField, decide_eq_true_eq]
    have hanswer := State.answered_config (s := s) (t := { s with ptu := { s.ptu with
      staging := writeEntries (if base = 2 then s.ptu.newestTable else s.ptu.staging) es } }) hdue rfl rfl hc hd 8 [0]
    exact ⟨_, congrArg Host.Outcome.next hanswer, rfl, hread.writeEntries_get hnodup _⟩

/-! ## READ_PRICES (R43) -/

theorem exec_readPrices (k n : Nat) (s : State) : exec (.readPrices k n) s = execReadPrices k n s := rfl

/-- Settles O19: the selector names the table, and the reply is the list of its items. -/
theorem readPricesAnswers : Obligations.ReadPricesAnswers := by
  intro s k n ht
  have hpublished : s.publishedBytes = u8 s.ptu.published.length ++ s.ptu.published.flatMap fun g => u16 g.number
      ++ u8 (if (s.point .a).generation = g.number then 1 else 0)
      ++ u8 (if (s.point .b).generation = g.number then 1 else 0) ++ u8 (if g.number = s.ptu.newest then 1 else 0) := by
    simp only [State.publishedBytes, listBytes, flagBytes, decide_eq_true_eq]
  have htable (number : Option Nat) (t : PriceTable) : s.answered 0x0A (.only (s.pricesReply number t)) =
      s.replies 0x0A (u8 0 ++ optionBytes 2 u16 number ++ priceTableBytes t ++ s.publishedBytes) := by
    rw [State.answered_only, State.pricesReply, okReply]
    simp only [List.append_assoc]
  have hexec : exec (.readPrices k n) s = .next (s.answered 0x0A _) :=
    (exec_readPrices k n s).trans (State.request_taken ht)
  dsimp only
  rw [hexec, ← hpublished]
  refine ⟨?_, ?_, fun t => ?_, ?_, fun hk => ?_⟩
  · rintro rfl
    exact congrArg Host.Outcome.next (htable none _)
  · rintro rfl
    exact congrArg Host.Outcome.next (htable (some _) _)
  · rintro rfl hfind
    rw [hfind]
    exact congrArg Host.Outcome.next (htable (some n) t)
  · rintro rfl hheld
    have hnone : s.ptu.find n = none := by simpa [Ptu.find, Ptu.holds] using hheld
    rw [hnone]
    rfl
  · split
    · omega
    · omega
    · omega
    · rfl

/-! ## APPLY_PRICES (R36, R37, R39) -/

/-- Two CLOSED points on older generations, which no run of the part leaves (R37, R38), while the law of the published set
allows it. -/
def freeOnOlderGenerations : State :=
  let s := State.reset
  { s with
    points := ⟨{ s.points.a with generation := 1 }, { s.points.b with generation := 2 }⟩
    ptu := { s.ptu with published := [⟨0, defaultPrices⟩, ⟨1, defaultPrices⟩, ⟨2, defaultPrices⟩] } }

/-- Refutes O18: with both points free and on older generations, APPLY_PRICES retires three numbers, where the statement has
two at most. -/
theorem not_applyPricesPublishes : ¬ Obligations.ApplyPricesPublishes := by
  intro h
  have htakes : freeOnOlderGenerations.takes .applyPrices = true := by decide +kernel
  obtain ⟨t, hexec, -, -, -, -, -, -, -, ⟨hgone, -⟩, -⟩ :=
    h freeOnOlderGenerations (by decide +kernel) htakes (by decide +kernel)
  obtain rfl := Host.Outcome.next.inj (hexec.symm.trans (State.request_taken htakes))
  exact absurd hgone (by decide +kernel)

end Sys2Proof.Machine
end

section
/-! PROOFS. The end of a drain where no point sells (R79, R158, R169, R170): the loads go off, and neither the meters nor the
points that no drain closes are moved. -/

namespace Sys2Proof.Machine

/-! ## Events that only a selling point takes -/

theorem State.selling_of_anySelling {s : State} (h : s.anySelling = false) (p : Point) : (s.point p).st.selling = false := by
  simp only [State.anySelling, List.any_eq_false, Bool.not_eq_true] at h
  exact h p (by cases p <;> decide)

theorem State.anySelling_of_selling {s : State} (h : ∀ p, (s.point p).st.selling = false) : s.anySelling = false := by
  simp [State.anySelling, h]

section
variable {s : State} {p : Point} (h : (s.point p).st.selling = false)
include h

theorem State.stopHolder_of_not_selling (c : StopCause) : s.stopHolder p c = s := by
  unfold State.stopHolder
  split
  · refine if_neg ?_
    rintro (hst | hst)
    · rw [hst] at h
      cases h
    · cases hp : (s.point p).st <;> simp_all [PointSt.flowing, PointSt.selling]
  · rfl

theorem State.endPermission_of_not_selling (r : AuthEnd) (c : StopCause) : s.endPermission p r c = s := by
  have hne (st : PointSt) (hsells : st.selling = true) : (s.point p).st ≠ st := by
    rintro rfl
    rw [h] at hsells
    cases hsells
  have hwait : s.waiting p = false := by simp [State.waiting, hne .starting rfl]
  simp [State.endPermission, hne .authorized rfl, hne .starting rfl, hwait]

theorem State.sessionEndPoint_of_not_selling (n : Nat) : s.sessionEndPoint p n = s := by
  rw [State.sessionEndPoint, State.endPermission_of_not_selling h, ite_self]

theorem State.zeroFailed_of_not_selling : s.zeroFailed p = s.withdrawZero p := by
  have hne : ((s.withdrawZero p).point p).st ≠ .starting := by
    rw [State.point, (s.withdrawZero_frame p).2.2.2.2.2.2.1]
    rintro hst
    rw [State.point, hst] at h
    cases h
  simp [State.zeroFailed, hne]

end

/-! ## What stands while loads go off -/

/-- Neither the meters nor the points are moved, the power state stands, and no zero check begins. -/
structure State.Rests (s t : State) : Prop where
  miu : t.miu = s.miu
  dle : t.dle = { s.dle with motors := t.dle.motors }
  points : t.points = s.points
  power : t.psc.power = s.psc.power
  zero : ∀ x, (s.side x).zero = .none → (t.side x).zero = .none

namespace State.Rests

variable {s t u : State}

theorem refl (s : State) : s.Rests s := ⟨rfl, rfl, rfl, rfl, fun _ h => h⟩

theorem trans (h : s.Rests t) (k : t.Rests u) : s.Rests u where
  miu := k.miu.trans h.miu
  dle := by rw [k.dle, h.dle]
  points := k.points.trans h.points
  power := k.power.trans h.power
  zero x hx := k.zero x (h.zero x hx)

theorem selling (h : s.Rests t) (hidle : ∀ p, (s.point p).st.selling = false) (p : Point) : (t.point p).st.selling = false := by
  rw [State.point, h.points]
  exact hidle p

theorem post (s : State) (target : ReportTarget) (data : ReportData) : s.Rests (s.post target data) :=
  { State.Rests.refl s with miu := rfl }

theorem mapCrg (s : State) (f : Crg → Crg) : s.Rests (s.mapCrg f) := { State.Rests.refl s with miu := rfl }

theorem mapPsc (s : State) {f : Psc → Psc} (h : (f s.psc).power = s.psc.power) : s.Rests (s.mapPsc f) :=
  { State.Rests.refl s with power := h }

theorem mapSide (s : State) (x : Side) {f : DduSide → DduSide}
    (h : (s.side x).zero = .none → (f (s.side x)).zero = .none) : s.Rests (s.mapSide x f) := by
  refine ⟨rfl, rfl, rfl, rfl, fun y hy => ?_⟩
  rw [State.side_mapSide]
  split
  · rename_i hyx
    exact h (hyx ▸ hy)
  · exact hy

theorem changed (s : State) (c : Condition) (v : Bool) : s.Rests (s.changed c v) := by
  unfold State.changed
  split
  · exact .post s _ _
  · exact .refl s

theorem endTest (s : State) (x : Side) (r : TestResult) : s.Rests (s.endTest x r) := by
  unfold State.endTest
  split
  · exact .refl s
  · have hended : s.Rests (s.mapSide x fun d => { d with test := none }) := .mapSide s x id
    dsimp only
    split
    · have hcleared := hended.trans (.mapSide _ x (f := (·.clearFaults)) id)
      split
      · exact hcleared.trans ((State.Rests.changed _ _ _).trans (.post _ _ _))
      · exact hcleared.trans (.post _ _ _)
    · exact hended.trans (.post _ _ _)

section
variable (hidle : ∀ p, (s.point p).st.selling = false)
include hidle

theorem zeroFailed (x : Side) : s.Rests (s.zeroFailed x) := by
  rw [State.zeroFailed_of_not_selling (hidle x)]
  exact .mapSide s x fun _ => rfl

theorem darken (x : Side) : s.Rests (s.darken x) := by
  have htest := State.Rests.endTest s x .aborted
  unfold State.darken
  split
  · exact .refl s
  · dsimp only
    split
    · exact htest
    · exact htest.trans (.zeroFailed (htest.selling hidle) x)

theorem tellSessionEnd (session : Option Nat) : s.Rests (s.tellSessionEnd session) := by
  have hend (n : Nat) : s.sessionEnd n = s := by
    rw [State.sessionEnd, State.sessionEndPoint_of_not_selling (hidle .a), State.sessionEndPoint_of_not_selling (hidle .b)]
  unfold State.tellSessionEnd
  split
  · rw [hend]
    exact .refl s
  · exact .refl s

omit hidle in
theorem flushOutbound (s : State) : s.Rests s.flushOutbound := by
  have hposts (l : List Outbound) (u : State) :
      u.Rests (l.foldl (fun s e => s.post .none (.readerOutboundEnd e.tag .flushed)) u) := by
    induction l generalizing u with
    | nil => exact .refl u
    | cons e l ih => exact (State.Rests.post u _ _).trans (ih _)
  unfold State.flushOutbound
  exact (hposts s.crg.outbound s).trans (.mapCrg _ _)

theorem moveGate (c : GateCause) (f : Crg → Crg) : s.Rests (s.moveGate c f) := by
  have hmove (f : Crg → Crg) (target : ReportTarget) (data : ReportData) :
      s.Rests ((s.flushOutbound.mapCrg f).post target data) :=
    (State.Rests.flushOutbound s).trans ((State.Rests.mapCrg _ _).trans (.post _ _ _))
  unfold State.moveGate
  exact (hmove _ _ _).trans (.tellSessionEnd ((hmove _ _ _).selling hidle) _)

theorem readerOffAct (c : GateCause) : s.Rests (s.readerOffAct c) := by
  unfold State.readerOffAct
  split
  · exact .refl s
  · exact .moveGate hidle c _

theorem setDrive (l : Load) (on : Bool) : s.Rests (s.setDrive l on) := by
  have hdrive : s.Rests (s.mapPsc fun c => { c with drives := c.drives.with l on }) := .mapPsc s rfl
  unfold State.setDrive
  dsimp only
  split
  · split
    · exact hdrive
    · exact hdrive.trans (.readerOffAct (hdrive.selling hidle) _)
  · split
    · exact hdrive.trans (.darken (hdrive.selling hidle) _)
    · exact hdrive

theorem shutNext : s.Rests s.shutNext := by
  unfold State.shutNext
  split
  · exact .mapPsc s rfl
  · rename_i rest _
    have hlist : s.Rests (s.mapPsc fun c => { c with shutdown := rest }) := .mapPsc s rfl
    exact hlist.trans (.setDrive (hlist.selling hidle) _ _)

end

end State.Rests

/-! ## The completion of a drain (R79, R169, R170) -/

/-- What the end of an event does where no point sells: the meters stand, and so does a point that no drain closes. -/
structure State.Drained (s t : State) : Prop where
  miu : t.miu = s.miu
  dle : t.dle = { s.dle with motors := t.dle.motors }
  zero : ∀ x, (s.side x).zero = .none → (t.side x).zero = .none
  point : ∀ p, (s.point p).st ≠ .idle → (s.point p).st ≠ .calling → t.point p = s.point p
  selling : ∀ p, (s.point p).st.selling = false → (t.point p).st.selling = false

namespace State.Drained

variable {s t u : State}

theorem refl (s : State) : s.Drained s := ⟨rfl, rfl, fun _ h => h, fun _ _ _ => rfl, fun _ h => h⟩

theorem trans (h : s.Drained t) (k : t.Drained u) : s.Drained u where
  miu := k.miu.trans h.miu
  dle := by rw [k.dle, h.dle]
  zero x hx := k.zero x (h.zero x hx)
  point p hidle hcalling := by
    have hp := h.point p hidle hcalling
    rw [← hp] at hidle hcalling
    exact (k.point p hidle hcalling).trans hp
  selling p hp := k.selling p (h.selling p hp)

/-- A point is closed where it is IDLE or CALLING (R79). -/
theorem drainPoint (s : State) (p : Point) : s.Drained (s.drainPoint p) := by
  unfold State.drainPoint
  split
  · rename_i hst
    obtain ⟨-, -, -, hmiu, hdle, -, hddu, -⟩ := s.enterClosed_frame p
    have hpoint (q : Point) (hq : q ≠ p) : (s.enterClosed p).point q = s.point q := by
      rw [State.enterClosed, State.adopt_point, if_neg hq, State.point_mapPoint, if_neg hq]
    refine ⟨hmiu, by rw [hdle], fun x hx => by rw [State.side, hddu]; exact hx, fun q hidle hcalling => hpoint q ?_,
      fun q hq => ?_⟩
    · rintro rfl
      exact hst.elim hidle hcalling
    · by_cases hqp : q = p
      · rw [State.enterClosed, State.adopt_point, if_pos hqp, State.point_mapPoint, if_pos rfl]
        rfl
      · rw [hpoint q hqp]
        exact hq
  · exact .refl s

end State.Drained

theorem State.Rests.drained {s t : State} (h : s.Rests t) : s.Drained t := by
  have hpoint (p : Point) : t.point p = s.point p := by rw [State.point, h.points]; rfl
  exact ⟨h.miu, h.dle, h.zero, fun p _ _ => hpoint p, fun p hp => by rw [hpoint]; exact hp⟩

/-- The entry to NIGHT moves the motors and the power state (R62, R170). -/
theorem State.Drained.enterNight (s : State) : s.Drained ((s.allMotorsOff).enterPower .night .drainDone) :=
  ⟨rfl, rfl, fun _ h => h, fun _ _ _ => rfl, fun _ h => h⟩

/-- A drain where no point sells completes in NIGHT (R169, R170). -/
theorem State.completeDrain_drained {s : State} (hidle : ∀ p, (s.point p).st.selling = false) :
    s.Drained s.completeDrain ∧ s.completeDrain.psc.power = .night := by
  have hpoints : s.Drained s.drainPoints := (State.Drained.drainPoint s .a).trans (.drainPoint _ .b)
  have hentered := State.Drained.enterNight s.drainPoints
  have hpower : ((s.drainPoints.allMotorsOff).enterPower .night .drainDone).psc.power = .night := rfl
  generalize hu : (s.drainPoints.allMotorsOff).enterPower .night .drainDone = u at hentered hpower
  have hrests (l : List Load) (n : Nat) :
      u.Rests (u.mapPsc fun c => { c with shutdown := l, shutdownDue := n }).shutNext := by
    have hlist : u.Rests (u.mapPsc fun c => { c with shutdown := l, shutdownDue := n }) := .mapPsc u rfl
    exact hlist.trans (.shutNext (hlist.selling fun p => hentered.selling p (hpoints.selling p (hidle p))))
  simp only [State.completeDrain, hu]
  exact ⟨(hpoints.trans hentered).trans (hrests _ _).drained, (hrests _ _).power.trans hpower⟩

/-- A drain that no selling point keeps up completes where the event before had one, and nothing else ends with it (R169). -/
theorem State.drainTest_drained {s before : State} :
    s.Drained (s.drainTest before)
      ∧ (s.psc.power = .draining → s.anySelling = false → before.anySelling = true →
        (s.drainTest before).psc.power = .night) := by
  unfold State.drainTest
  split
  · rename_i h
    obtain ⟨hdrained, hnight⟩ := State.completeDrain_drained (State.selling_of_anySelling h.2.1)
    exact ⟨hdrained, fun _ _ _ => hnight⟩
  · rename_i h
    exact ⟨.refl s, fun hpower hidle hbefore => absurd ⟨hpower, hidle, .inr hbefore⟩ h⟩

end Sys2Proof.Machine
end

section
/-! PROOFS. RESTART where no point sells (R81, R92, R97, R105, R194). -/

namespace Sys2Proof.Machine

/-! ## What RESTART finds to finalize -/

theorem State.restartWaiter_of_not_waiting {s : State} {p : Point} (h : s.waiting p = false) : s.restartWaiter p = s := by
  simp [State.restartWaiter, h]

theorem State.restartHolder_of_none {s : State} {p : Point} (h : s.heldBy p = none) : s.restartHolder p = s := by
  simp [State.restartHolder, h]

/-- The pulses waiting are no part of a point, of the meters or of what is retained (R92, R99). -/
theorem State.dropPulses_image (s : State) : s.dropPulses.deliveriesImage = s.deliveriesImage := rfl

theorem State.restartFinalize_of_none {s : State} (h : ∀ p, s.heldBy p = none ∧ (s.point p).st ≠ .starting) :
    s.restartFinalize = s.dropPulses := by
  have hwait (p : Point) : s.dropPulses.waiting p = false := by
    rw [State.waiting, Bool.and_eq_false_iff]
    exact .inl (decide_eq_false (h p).2)
  have hheld (p : Point) : s.dropPulses.heldBy p = none := (h p).1
  rw [State.restartFinalize, State.restartWaiter_of_not_waiting (hwait .a), State.restartWaiter_of_not_waiting (hwait .b),
    State.restartHolder_of_none (hheld .a), State.restartHolder_of_none (hheld .b)]

/-! ## The end of RESTART's event -/

theorem exec_restart {s : State} (ht : s.takes .restart = true) : exec .restart s = .next s.takeRestart := if_pos ht

/-- RESTART, taken at this moment, waits for its reply. -/
def State.restarting (s : State) (now : Nat) : State := s.mapHlp fun h => { h.heard now with hand := some .restarting }

theorem State.takeRestart_eq (s : State) :
    s.takeRestart = ((s.restartFinalize.drainTest s).retainDeliveries.restarting s.now).commit.restartReply := rfl

theorem State.restartReply_of_not_idle {s : State} (h : s.rtm.idle = false) : s.restartReply = s := by
  simp [State.restartReply, h]

section
variable {s : State} {now : Nat} (hc : s.rtm.dirtyConfig = false) (hd : s.rtm.dirtyDeliveries = false)
include hc hd

/-- With everything of the points retained, nothing is written (R105). -/
theorem State.retained_restarting
    (h : s.deliveriesImage = s.rtm.deliveries.inFlight.getD s.rtm.deliveries.current.content) :
    (s.retainDeliveries.restarting now).commit = s.restarting now := by
  rw [State.retainDeliveries, if_pos h]
  exact State.commit_clean hc hd

/-- In an idle memory a change of DELIVERIES begins its write, with no addition to carry (R97, R105). -/
theorem State.unretained_restarting (hidle : s.rtm.idle = true)
    (h : s.deliveriesImage ≠ s.rtm.deliveries.inFlight.getD s.rtm.deliveries.current.content) :
    (s.retainDeliveries.restarting now).commit =
      { s.restarting now with
        rtm := { s.rtm with deliveries := { s.rtm.deliveries with inFlight := some s.deliveriesImage } } } := by
  simp only [Rtm.idle, Bool.and_eq_true, Bool.not_eq_true', Option.isNone_iff_eq_none, List.isEmpty_iff] at hidle
  obtain ⟨⟨⟨⟨⟨⟨⟨-, htotals⟩, hflight⟩, -⟩, hheld⟩, howed⟩, hcarried⟩, hunwritten⟩ := hidle
  have hconfig : (s.touchDeliveries.restarting now).commitConfig = s.touchDeliveries.restarting now := if_neg (by
    rw [show (s.touchDeliveries.restarting now).rtm.dirtyConfig = s.rtm.dirtyConfig from rfl, hc]
    exact Bool.false_ne_true)
  rw [State.retainDeliveries, if_neg h, State.commit, hconfig]
  have hrtm : ({ s.rtm with dirtyDeliveries := false } : Rtm).takeDeliveries s.deliveriesImage =
      { s.rtm with deliveries := { s.rtm.deliveries with inFlight := some s.deliveriesImage } } := by
    obtain ⟨-, -, -, hbegins⟩ | ⟨hbusy, -⟩ :=
      ({ s.rtm with dirtyDeliveries := false } : Rtm).takeDeliveries_cases s.deliveriesImage
    · rw [hbegins, Rtm.beginDeliveries, Region.begin]
      simp only [hcarried, hunwritten, hheld, hd, List.append_nil]
    · simp [hflight, howed, htotals] at hbusy
  rw [← hrtm]
  rfl

end

/-- RESTART with no point in a sale: it is answered at once where everything is retained, and its reply waits else. -/
theorem State.takeRestart_of_none {s : State} (hr : s.runs = true)
    (hnone : ∀ p, s.heldBy p = none ∧ (s.point p).st ≠ .starting) :
    let carried := s.rtm.deliveries.inFlight.getD s.rtm.deliveries.current.content
    (s.rtm.idle = true → s.deliveriesImage = carried → s.takeRestart = s.dropPulses.replies 0x41 [0])
    ∧ (s.rtm.idle = false → s.deliveriesImage = carried → s.takeRestart = s.dropPulses.restarting s.now)
    ∧ (s.rtm.idle = true → s.deliveriesImage ≠ carried → s.takeRestart =
        { s.dropPulses.restarting s.now with
          rtm := { s.rtm with deliveries := { s.rtm.deliveries with inFlight := some s.deliveriesImage } } }) := by
  obtain ⟨-, hc, hd, -⟩ := State.runs_iff.1 hr
  have hdrain : s.dropPulses.drainTest s = s.dropPulses := State.drainTest_of_points rfl rfl
  dsimp only
  rw [State.takeRestart_eq, State.restartFinalize_of_none hnone, hdrain]
  refine ⟨fun hidle h => ?_, fun hidle h => ?_, fun hidle h => ?_⟩
  · rw [State.retained_restarting (s := s.dropPulses) hc hd h]
    exact if_pos ⟨rfl, hidle⟩
  · rw [State.retained_restarting (s := s.dropPulses) hc hd h]
    exact State.restartReply_of_not_idle hidle
  · rw [State.unretained_restarting (s := s.dropPulses) hc hd hidle h]
    exact State.restartReply_of_not_idle (by simp [Rtm.idle])

end Sys2Proof.Machine
end

section
/-! PROOFS. RESTART at a point that waits for its meter (R38, R64, R81, R105): its record is discarded and it is CLOSED, and
the finalization of the other point's delivery passes it by. -/

namespace Sys2Proof.Machine

/-! ## The waiters (R38, R64) -/

/-- A point whose waiting for its meter RESTART ends. -/
def PointData.unwaited (d : PointData) (newest : Nat) : PointData :=
  { d.toFree .closed with current := none, saleTable := none, figuresAt := none
                          lastSeq := (d.lastSeq + 65535) % 65536, generation := newest }

/-- RESTART ends the waiting of one point: its record and its place as a waiter go, and nothing else but the prices is
moved. -/
structure State.Unwaits (s t : State) (p : Point) : Prop where
  blocks : t.now = s.now ∧ t.pins = s.pins ∧ t.miu = s.miu ∧ t.ddu = s.ddu ∧ t.display = s.display ∧ t.psc = s.psc
  holders : t.dle.holders = s.dle.holders
  newest : t.ptu.newest = s.ptu.newest
  point : ∀ q, t.point q = if q = p ∧ s.waiting p = true then (s.point p).unwaited s.ptu.newest else s.point q
  waiters : ∀ m, t.dle.waiters.get m =
    if s.dle.waiters.get m = some p ∧ s.waiting p = true then none else s.dle.waiters.get m

theorem State.leaveStarting_point (s : State) (p q : Point) : (s.leaveStarting p).point q =
    if q = p then
      { s.point p with current := none, saleTable := none, figuresAt := none, lastSeq := ((s.point p).lastSeq + 65535) % 65536 }
    else s.point q := by
  simp only [State.leaveStarting, State.discard, State.point, State.touchDeliveries_points, State.mapPoint_points, Pair.get_set]
  rfl

theorem State.restartWaiter_unwaits (s : State) (p : Point) : s.Unwaits (s.restartWaiter p) p := by
  unfold State.restartWaiter
  split
  · rename_i hwait
    obtain ⟨hnow, -, hpins, -, hmiu, hptu, -, hddu, hdisplay, -, hpsc, -⟩ := s.leaveStarting_frame p
    have hdle : (s.leaveStarting p).dle =
        { s.dle with waiters := s.dle.waiters.map fun w => if w = some p then none else w } := rfl
    have hpoint := s.leaveStarting_point p
    generalize s.leaveStarting p = u at hnow hpins hmiu hptu hddu hdisplay hpsc hdle hpoint
    obtain ⟨hnow', -, hpins', hmiu', hdle', -, hddu', hdisplay', -, hpsc', -⟩ := u.enterClosed_frame p
    have hpoint' (q : Point) : (u.enterClosed p).point q =
        if q = p then { (u.point p).toFree .closed with generation := u.ptu.newest } else u.point q := by
      rw [State.enterClosed, State.adopt_point, State.point_mapPoint, if_pos rfl, State.point_mapPoint]
      split <;> rfl
    refine ⟨⟨hnow'.trans hnow, hpins'.trans hpins, hmiu'.trans hmiu, hddu'.trans hddu, hdisplay'.trans hdisplay,
      hpsc'.trans hpsc⟩, ?_, ?_, fun q => ?_, fun m => ?_⟩
    · rw [hdle', hdle]
    · rw [State.enterClosed, (State.adopt_ptu _ p).1, ← hptu]
      rfl
    · rw [hpoint', hpoint, hpoint, if_pos rfl, hptu]
      by_cases hq : q = p
      · rw [if_pos hq, if_pos ⟨hq, hwait⟩]
        rfl
      · rw [if_neg hq, if_neg hq, if_neg fun h => hq h.1]
    · rw [hdle', hdle]
      simp only [Quad.get_map, hwait, and_true]
  · rename_i hwait
    refine ⟨⟨rfl, rfl, rfl, rfl, rfl, rfl⟩, rfl, rfl, fun q => ?_, fun m => ?_⟩
    · rw [if_neg fun h => hwait h.2]
    · rw [if_neg fun h => hwait h.2]

/-- RESTART ends the waiting of both points, and the pulses waiting are discarded (R38, R64, R92). -/
def State.unwait (s : State) : State := (s.dropPulses.restartWaiter .a).restartWaiter .b

theorem State.restartFinalize_eq (s : State) : s.restartFinalize = (s.unwait.restartHolder .a).restartHolder .b := rfl

/-- What RESTART leaves before it finalizes the deliveries. -/
structure State.Unwaited (s t : State) : Prop where
  blocks : t.now = s.now ∧ t.pins = s.pins ∧ t.miu = s.miu ∧ t.ddu = s.ddu ∧ t.display = s.display ∧ t.psc = s.psc
  holders : t.dle.holders = s.dle.holders
  point : ∀ p, t.point p = if s.waiting p = true then (s.point p).unwaited s.ptu.newest else s.point p
  waiters : ∀ m w, t.dle.waiters.get m = some w → s.dle.waiters.get m = some w ∧ s.waiting w = false

theorem State.unwait_unwaited (s : State) : s.Unwaited s.unwait := by
  have ha := s.dropPulses.restartWaiter_unwaits .a
  have hb := (s.dropPulses.restartWaiter .a).restartWaiter_unwaits .b
  have hunwait : s.unwait = (s.dropPulses.restartWaiter .a).restartWaiter .b := rfl
  have hdropped (p : Point) : s.dropPulses.waiting p = s.waiting p := rfl
  rw [← hunwait] at hb
  generalize s.dropPulses.restartWaiter .a = u at ha hb
  generalize s.unwait = t at hb
  have hsame : u.waiting .b = s.waiting .b := by
    rw [State.waiting, State.holds_congr ha.holders, ha.point, if_neg fun h => by cases h.1]
    rfl
  have hub := hb.point
  have hwb := hb.waiters
  have hua := ha.point
  have hwa := ha.waiters
  rw [hsame, ha.newest] at hub
  rw [hsame] at hwb
  rw [hdropped] at hua hwa
  obtain ⟨hnow, hpins, hmiu, hddu, hdisplay, hpsc⟩ := ha.blocks
  obtain ⟨hnow', hpins', hmiu', hddu', hdisplay', hpsc'⟩ := hb.blocks
  refine ⟨⟨hnow'.trans hnow, hpins'.trans hpins, hmiu'.trans hmiu, hddu'.trans hddu, hdisplay'.trans hdisplay,
    hpsc'.trans hpsc⟩, hb.holders.trans ha.holders, fun p => ?_, fun m w hw => ?_⟩
  · cases p with
    | a =>
      rw [hub]
      simp only [reduceCtorEq, false_and, if_false, hua, true_and]
      rfl
    | b =>
      rw [hub, hua]
      simp only [reduceCtorEq, true_and, false_and, if_false]
      rfl
  · rw [hwb] at hw
    split at hw
    · cases hw
    · rename_i hb'
      rw [hwa] at hw hb'
      split at hw
      · cases hw
      · rename_i ha'
        rw [if_neg ha'] at hb'
        have hdw : s.dropPulses.dle.waiters.get m = s.dle.waiters.get m := rfl
        rw [hdw] at hw ha' hb'
        refine ⟨hw, Bool.eq_false_iff.2 fun hwait => ?_⟩
        cases w with
        | a => exact ha' ⟨hw, hwait⟩
        | b => exact hb' ⟨hw, hwait⟩

/-! ## A point that no hold names -/

/-- The point neither holds a meter nor waits for one (R58). -/
def State.Bystander (s : State) (p : Point) : Prop :=
  ∀ m, s.dle.holders.get m ≠ some p ∧ s.dle.waiters.get m ≠ some p

theorem State.Bystander.heldBy {s : State} {p : Point} (h : s.Bystander p) : s.heldBy p = none :=
  (State.heldBy_eq_none s).2 fun m => (h m).1

/-- A point that no hold names is not moved and stays so. -/
def State.PassesBy (s t : State) (p : Point) : Prop := s.Bystander p → t.Bystander p ∧ t.point p = s.point p

namespace State.PassesBy

variable {s t u : State} {p q : Point}

theorem trans (h : s.PassesBy t p) (k : t.PassesBy u p) : s.PassesBy u p := by
  intro hs
  obtain ⟨ht, hpoint⟩ := h hs
  obtain ⟨hu, hpoint'⟩ := k ht
  exact ⟨hu, hpoint'.trans hpoint⟩

/-- An update that leaves the holds and the point. -/
theorem of_same (hholders : t.dle.holders = s.dle.holders) (hwaiters : t.dle.waiters = s.dle.waiters)
    (hpoint : t.point p = s.point p) : s.PassesBy t p := by
  intro hs
  refine ⟨fun m => ?_, hpoint⟩
  rw [hholders, hwaiters]
  exact hs m

theorem refl (s : State) : s.PassesBy s p := .of_same rfl rfl rfl

/-- A change at one meter to holders and waiters other than the point. -/
theorem of_set {m : Meter} {h w : Option Point} (hh : h ≠ some p) (hw : w ≠ some p)
    (hholders : t.dle.holders = s.dle.holders ∨ t.dle.holders = s.dle.holders.set m h)
    (hwaiters : t.dle.waiters = s.dle.waiters ∨ t.dle.waiters = s.dle.waiters.set m w)
    (hpoint : t.point p = s.point p) : s.PassesBy t p := by
  intro hs
  refine ⟨fun j => ⟨?_, ?_⟩, hpoint⟩
  · rcases hholders with heq | heq <;> rw [heq]
    · exact (hs j).1
    · rw [Quad.get_set]
      split
      · exact hh
      · exact (hs j).1
  · rcases hwaiters with heq | heq <;> rw [heq]
    · exact (hs j).2
    · rw [Quad.get_set]
      split
      · exact hw
      · exact (hs j).2

theorem grants (h : s.Grants t) : s.PassesBy t p := by
  intro hs
  refine PassesBy.of_same h.holders h.waiters (h.point p ?_) hs
  rintro ⟨-, -, hheld⟩
  simp [hs.heldBy] at hheld

theorem mapPoint (h : q ≠ p) (f : PointData → PointData) : s.PassesBy (s.mapPoint q f) p :=
  .of_same rfl rfl (by rw [State.point_mapPoint, if_neg h.symm])

theorem commandValves (s : State) (m : Meter) (x y : Bool) : s.PassesBy (s.commandValves m x y) p :=
  .of_same (by simp) (by simp) (by simp [State.point])

theorem stopHolder (s : State) (q : Point) (c : StopCause) : s.PassesBy (s.stopHolder q c) p := by
  intro hs
  obtain ⟨hholders, hwaiters⟩ := s.stopHolder_table q c
  exact PassesBy.of_same hholders hwaiters (State.stopHolder_other hs.heldBy q c) hs

theorem askZero (s : State) (x : Side) : s.PassesBy (s.askZero x).1 p := by
  unfold State.askZero
  split
  · exact .refl s
  · exact .of_same rfl rfl rfl

/-- Another point becomes a holder (R61). -/
theorem becomeHolder (h : q ≠ p) (s : State) (m : Meter) : s.PassesBy (s.becomeHolder q m) p := by
  unfold State.becomeHolder
  split
  · exact .refl s
  · rename_i r _
    have hheld (f : Channel → Channel) (g : DeliveryRecord → DeliveryRecord) (k : Pou → Pou) :
        s.PassesBy (((({ s.mapChannel m f with dle := { s.dle with holders := s.dle.holders.set m (some q) } } : State).mapCurrent
          q g).mapPou q k).touchDeliveries) p :=
      .of_set (m := m) (h := some q) (w := none) (by simpa using h) (by simp) (.inr rfl) (.inl rfl)
        (by simp [State.mapCurrent, State.point, h.symm])
    dsimp only
    split
    · exact (hheld _ _ _).trans ((PassesBy.askZero _ q).trans ((PassesBy.grants (.demandMotor _ m)).trans (.stopHolder _ q _)))
    · exact (hheld _ _ _).trans ((PassesBy.askZero _ q).trans (.grants (.demandMotor _ m)))

/-- A meter that no such point waits for is handed over or released (R59). -/
theorem releaseMeter (s : State) (m : Meter) : s.PassesBy (s.releaseMeter m) p := by
  intro hs
  cases hw : s.dle.waiters.get m with
  | some w =>
    have hne : w ≠ p := by
      rintro rfl
      exact (hs m).2 hw
    have hmeter : s.releaseMeter m =
        ({ s with dle := { s.dle with waiters := s.dle.waiters.set m none } } : State).becomeHolder w m := by
      simp only [State.releaseMeter, hw]
    have htaken : s.PassesBy { s with dle := { s.dle with waiters := s.dle.waiters.set m none } } p :=
      .of_set (m := m) (h := none) (w := none) (by simp) (by simp) (.inl rfl) (.inr rfl) rfl
    rw [hmeter]
    exact htaken.trans (.becomeHolder hne _ m) hs
  | none =>
    have hmeter : s.releaseMeter m = (({ s with dle := { s.dle with holders := s.dle.holders.set m none } } : State).mapChannel m
        (·.release)).releaseMotor m := by
      simp only [State.releaseMeter, hw]
    have hfree : s.PassesBy (({ s with dle := { s.dle with holders := s.dle.holders.set m none } } : State).mapChannel m
        (·.release)) p :=
      .of_set (m := m) (h := none) (w := none) (by simp) (by simp) (.inr rfl) (.inl rfl) rfl
    obtain ⟨hdle, -⟩ := (({ s with dle := { s.dle with holders := s.dle.holders.set m none } } : State).mapChannel m
      (·.release)).releaseMotor_dle m
    rw [hmeter]
    exact hfree.trans (.of_same (by rw [hdle]) (by rw [hdle]) (by simp [State.point])) hs

/-- The finalization of another point's delivery (R70). -/
theorem finalize (h : q ≠ p) (s : State) (m : Meter) (r : DeliveryRecord) : s.PassesBy (s.finalize q m r) p := by
  have hrecord (f : DeliveryRecord) : s.PassesBy (s.recordFinal q f) p := by
    obtain ⟨-, -, -, hdle, -⟩ := s.recordFinal_frame q f
    exact .of_same (by rw [hdle]) (by rw [hdle]) (by rw [State.recordFinal_point, if_neg h.symm])
  have htell (u : State) (f : DeliveryRecord) : u.PassesBy (u.tellFinal q f) p :=
    .of_same (by simp [State.tellFinal]) (by simp [State.tellFinal]) (by simp [State.tellFinal, State.point])
  exact (hrecord _).trans ((PassesBy.releaseMeter _ m).trans (htell _ _))

theorem restartHolder (h : q ≠ p) (s : State) : s.PassesBy (s.restartHolder q) p := by
  unfold State.restartHolder
  split
  · rename_i m r _ _
    exact (PassesBy.commandValves s m _ _).trans ((PassesBy.grants (.dropMotor _ m)).trans
      ((PassesBy.of_same (t := State.withdrawZero _ q) rfl rfl rfl).trans ((PassesBy.finalize h _ m _).trans (.mapPoint h _))))
  · exact .refl s

end State.PassesBy

theorem State.restartHolder_frame (s : State) (p : Point) :
    (s.restartHolder p).now = s.now ∧ (s.restartHolder p).pins = s.pins ∧ (s.restartHolder p).display = s.display := by
  unfold State.restartHolder
  split <;> simp

/-! ## The end of the event -/

/-- The part that a started write, the reply of RESTART and the retained changes leave. -/
theorem State.takeRestart_frame (s : State) :
    s.takeRestart.now = (s.restartFinalize.drainTest s).now ∧ s.takeRestart.pins = (s.restartFinalize.drainTest s).pins
      ∧ s.takeRestart.miu = (s.restartFinalize.drainTest s).miu ∧ s.takeRestart.dle = (s.restartFinalize.drainTest s).dle
      ∧ s.takeRestart.points = (s.restartFinalize.drainTest s).points
      ∧ s.takeRestart.ddu = (s.restartFinalize.drainTest s).ddu
      ∧ s.takeRestart.display = (s.restartFinalize.drainTest s).display
      ∧ s.takeRestart.psc = (s.restartFinalize.drainTest s).psc := by
  rw [State.takeRestart_eq]
  generalize s.restartFinalize.drainTest s = t
  have hreply (u : State) : u.restartReply = { u with hlp := u.restartReply.hlp } := by
    unfold State.restartReply
    split <;> rfl
  rw [hreply]
  simp [State.restarting]

/-- The clock, the pins and the display settings stand when RESTART is taken. -/
theorem State.takeRestart_still (s : State) :
    s.takeRestart.pins = s.pins ∧ s.takeRestart.display = s.display ∧ s.takeRestart.now = s.now := by
  obtain ⟨hnow, hpins, -, -, hdisplay, -⟩ := s.unwait_unwaited.blocks
  obtain ⟨hnow1, hpins1, hdisplay1⟩ := s.unwait.restartHolder_frame .a
  obtain ⟨hnow2, hpins2, hdisplay2⟩ := (s.unwait.restartHolder .a).restartHolder_frame .b
  obtain ⟨hnow3, hpins3, -, -, -, -, hdisplay3, -⟩ := s.takeRestart_frame
  have hstands := State.Stands.drainTest s.restartFinalize s
  rw [← State.restartFinalize_eq] at hnow2 hpins2 hdisplay2
  exact ⟨hpins3.trans (hstands.pins.trans (hpins2.trans (hpins1.trans hpins))),
    hdisplay3.trans (hstands.display.trans (hdisplay2.trans (hdisplay1.trans hdisplay))),
    hnow3.trans (hstands.now.trans (hnow2.trans (hnow1.trans hnow)))⟩

/-- A point in STARTING that waits for its meter is CLOSED, its record discarded (R38, R64, R81). -/
theorem State.takeRestart_unwaits {s : State} {p : Point} (hst : (s.point p).st = .starting) (hheld : s.heldBy p = none) :
    s.takeRestart.point p = (s.point p).unwaited s.ptu.newest ∧ ∀ m, s.takeRestart.dle.waiters.get m ≠ some p := by
  have hwait : s.waiting p = true := by simp [State.waiting, State.holds, hst, hheld]
  have hunwaited := s.unwait_unwaited
  have hby : s.unwait.Bystander p := by
    refine fun m => ⟨?_, fun hm => ?_⟩
    · rw [hunwaited.holders]
      exact (State.heldBy_eq_none s).1 hheld m
    · obtain ⟨-, hnot⟩ := hunwaited.waiters m p hm
      rw [hwait] at hnot
      cases hnot
  have hpoint := hunwaited.point p
  rw [if_pos hwait] at hpoint
  have hfinal : s.restartFinalize.Bystander p ∧ s.restartFinalize.point p = s.unwait.point p := by
    rw [State.restartFinalize_eq]
    cases p with
    | a =>
      have hb := State.PassesBy.restartHolder (p := .a) (q := .b) (by decide) (s.unwait.restartHolder .a)
      rw [State.restartHolder_of_none (s := s.unwait) hby.heldBy] at hb ⊢
      exact hb hby
    | b =>
      obtain ⟨hby', hpoint'⟩ := State.PassesBy.restartHolder (p := .b) (q := .a) (by decide) s.unwait hby
      rw [State.restartHolder_of_none hby'.heldBy]
      exact ⟨hby', hpoint'⟩
  obtain ⟨hby', hpoint'⟩ := hfinal
  obtain ⟨-, -, -, hdle, hpoints, -⟩ := s.takeRestart_frame
  obtain ⟨hdrained, -⟩ := State.drainTest_drained (s := s.restartFinalize) (before := s)
  have hclosed : (s.restartFinalize.point p).st = .closed := by rw [hpoint', hpoint]; rfl
  refine ⟨?_, fun m => ?_⟩
  · rw [State.point, hpoints, ← State.point, hdrained.point p (by simp [hclosed]) (by simp [hclosed]), hpoint', hpoint]
  · rw [hdle, hdrained.dle]
    exact (hby' m).2

end Sys2Proof.Machine
end

section
/-! PROOFS. RESTART at a point that holds its meter (R62, R68, R70, R81, R94): the valves are commanded closed, the motor is
dropped, and the delivery is finalized with its figures. -/

namespace Sys2Proof.Machine

/-! ## What the start queue opens -/

/-- The point holds a meter of the list. -/
def State.holdsIn (s : State) (l : List Meter) (p : Point) : Prop := ∃ j ∈ l, s.dle.holders.get j = some p

/-- All that the tests of the motor start queue may open: where the queue names meters of the list alone, the valves of a
point that holds one of them (R63, R176). -/
structure State.Opens (l : List Meter) (s t : State) : Prop where
  holders : t.dle.holders = s.dle.holders
  point : ∀ p, t.point p = s.point p ∨ (s.holdsIn l p ∧ (s.point p).st = .starting ∧ (t.point p).st.flowing = true
    ∧ (t.point p).current = (s.point p).current)
  channel : ∀ m, t.channel m = s.channel m ∨ ∃ p, s.holdsIn l p ∧ s.dle.holders.get m = some p

namespace State.Opens

variable {l : List Meter} {s t u : State}

theorem refl (s : State) : s.Opens l s := ⟨rfl, fun _ => .inl rfl, fun _ => .inl rfl⟩

theorem trans (h : State.Opens l s t) (k : State.Opens l t u) : State.Opens l s u := by
  have hin {p : Point} : t.holdsIn l p → s.holdsIn l p := by
    rw [State.holdsIn, h.holders]
    exact id
  refine ⟨k.holders.trans h.holders, fun p => ?_, fun m => ?_⟩
  · rcases h.point p with hp | ⟨hopen, hst, hflow, hcur⟩ <;> rcases k.point p with hp' | ⟨hopen', hst', hflow', hcur'⟩
    · exact .inl (hp'.trans hp)
    · rw [hp] at hst' hcur'
      exact .inr ⟨hin hopen', hst', hflow', hcur'⟩
    · exact .inr ⟨hopen, hst, by rw [hp', hflow], by rw [hp', hcur]⟩
    · exact .inr ⟨hopen, hst, hflow', hcur'.trans hcur⟩
  · rcases k.channel m with hm | ⟨p, hopen, hholder⟩
    · rw [hm]
      exact h.channel m
    · exact .inr ⟨p, hin hopen, by rw [← h.holders, hholder]⟩

/-- An update of fields that the tests do not open. -/
theorem of_same (hholders : t.dle.holders = s.dle.holders) (hpoints : t.points = s.points) (hmiu : t.miu = s.miu) :
    State.Opens l s t :=
  ⟨hholders, fun p => .inl (by rw [State.point, hpoints]; rfl), fun m => .inl (by rw [State.channel, hmiu]; rfl)⟩

theorem openValves {p : Point} {m : Meter} (hin : s.holdsIn l p) (hm : s.dle.holders.get m = some p)
    (hst : (s.point p).st = .starting) (r : DeliveryRecord) : State.Opens l s (s.openValves p m r) := by
  unfold State.openValves
  refine ⟨by simp, fun q => ?_, fun j => ?_⟩
  · by_cases hq : q = p
    · subst hq
      refine .inr ⟨hin, hst, ?_, ?_⟩
      · simp only [State.point, State.post_points, State.touchDeliveries_points, State.mapPou_points, State.mapPoint_points,
          Pair.get_set, if_true]
        split <;> rfl
      · simp [State.point]
    · exact .inl (by simp [State.point, hq])
  · by_cases hj : j = m
    · exact .inr ⟨p, hin, hj ▸ hm⟩
    · exact .inl ((s.commandValves_channel m j _ true).1 hj)

theorem tryOpen {p : Point} (hin : s.holdsIn l p) : State.Opens l s (s.tryOpen p) := by
  unfold State.tryOpen
  dsimp only
  split
  · rename_i hm _
    split
    · rename_i h
      exact .openValves hin (State.holder_of_heldBy s hm) h.1 _
    · exact .refl s
  · exact .refl s

theorem grant {m : Meter} (hm : m ∈ l) (s : State) (rest : List Meter) : State.Opens l s (s.grant m rest) := by
  unfold State.grant State.tryOpenHolder
  have hgranted (x : Motor) (f : Psc → Psc) : State.Opens l s ((s.mapPsc f).setMotor m x) := .of_same rfl rfl rfl
  dsimp only
  split
  · rename_i p hp
    exact (hgranted _ _).trans (.tryOpen ⟨m, hm, hp⟩)
  · exact hgranted _ _

theorem testHead (fuel : Nat) (s : State) (hq : ∀ m ∈ s.psc.startQueue, m ∈ l) : State.Opens l s (s.testHead fuel) := by
  induction fuel generalizing s with
  | zero => exact .refl s
  | succ n ih =>
    unfold State.testHead
    split
    · exact .refl s
    · rename_i m rest hqueue
      rw [hqueue] at hq
      split
      · refine (State.Opens.grant (hq m List.mem_cons_self) s rest).trans (ih _ fun j hj => ?_)
        have hrest : (s.grant m rest).psc.startQueue = rest := by simp [State.grant]
        rw [hrest] at hj
        exact hq j (List.mem_cons_of_mem _ hj)
      · exact .refl s

/-- A motor dropped is granted no start itself (R62, R177). -/
theorem dropMotor (s : State) (m : Meter) :
    State.Opens (s.psc.startQueue.filter fun j => decide (j ≠ m)) s (s.dropMotor m) := by
  unfold State.dropMotor State.withdrawStart State.testStartQueue
  dsimp only
  split
  · have hqueue (x : Motor) (f : Psc → Psc) (l : List Meter) : State.Opens l s ((s.setMotor m x).mapPsc f) :=
      .of_same rfl rfl rfl
    split
    · exact (hqueue _ _ _).trans (.testHead _ _ fun _ => id)
    · exact hqueue _ _ _
  · exact .of_same rfl rfl rfl
  · exact .refl s
  · exact .refl s

end State.Opens

/-! ## A point that sells, and the end of its sale -/

/-- The point holds this meter alone, with this record (R58). -/
structure State.Sells (s : State) (p : Point) (m : Meter) (r : DeliveryRecord) : Prop where
  held : s.dle.holders.get m = some p
  only : ∀ j, s.dle.holders.get j = some p → j = m
  current : (s.point p).current = some r

theorem State.Sells.heldBy {s : State} {p : Point} {m : Meter} {r : DeliveryRecord} (h : s.Sells p m r) :
    s.heldBy p = some m := by
  cases hheld : s.heldBy p with
  | none => exact absurd h.held ((State.heldBy_eq_none s).1 hheld m)
  | some j => rw [h.only j (State.holder_of_heldBy s hheld)]

/-- The record that RESTART finalizes: its cause is HOST_RESTART, and from STOPPING its own (R81). -/
def State.restartRecord (s : State) (p : Point) (r : DeliveryRecord) : DeliveryRecord :=
  if (s.point p).st = .stopping then r else { r with cause := some .hostRestart }

/-- The final record of RESTART. -/
def State.restartFinal (s : State) (p : Point) (m : Meter) (r : DeliveryRecord) : DeliveryRecord :=
  s.finalRecord m (s.restartRecord p r)

/-- The point is FINISHED with a final record, which is handed to the RTM, and its meter is free with its valves closed. -/
structure State.Restarted (t : State) (p : Point) (m : Meter) (f : DeliveryRecord) : Prop where
  st : (t.point p).st = .finished
  current : (t.point p).current = some f
  valves : (t.channel m).mainOpen = false ∧ (t.channel m).slowOpen = false
  zero : (t.side p).zero = .none
  free : t.dle.holders.get m = none
  handed : additionOf p f ∈ t.rtm.handed

/-- All that the end of a sale by RESTART moves. -/
structure State.Ends (s t : State) (p : Point) (m : Meter) (r : DeliveryRecord) : Prop where
  restarted : t.Restarted p m (s.restartFinal p m r)
  holders : t.dle.holders = s.dle.holders.set m none
  waiters : t.dle.waiters = s.dle.waiters
  handed : ∀ x ∈ s.rtm.handed, x ∈ t.rtm.handed
  other : ∀ q, q ≠ p → t.point q = s.point q ∨ ((s.point q).st = .starting ∧ (t.point q).st.flowing = true
    ∧ (t.point q).current = (s.point q).current)
  side : ∀ q, q ≠ p → t.side q = s.side q
  valves : ∀ j, j ≠ m → (s.channel j).ValvesOnly (t.channel j)
  unheld : ∀ j, s.dle.holders.get j = none → t.channel j = s.channel j
  counter : ∀ j, (t.channel j).counter = (s.channel j).counter
  psc : t.psc = { s.psc with startQueue := t.psc.startQueue, lastGrant := t.psc.lastGrant }

/-- RESTART commands the valves of a held meter closed, drops its motor and withdraws the zero check (R62, R81, R118). -/
def State.restartStopped (s : State) (p : Point) (m : Meter) : State :=
  ((s.commandValves m false false).dropMotor m).withdrawZero p

/-- What stands between the stop and the finalization. -/
structure State.Stops (s t : State) (p : Point) (m : Meter) : Prop where
  point : t.point p = s.point p
  valves : (t.channel m).mainOpen = false ∧ (t.channel m).slowOpen = false
  zero : (t.side p).zero = .none
  holders : t.dle.holders = s.dle.holders
  waiters : t.dle.waiters = s.dle.waiters
  handed : t.rtm.handed = s.rtm.handed
  other : ∀ q, q ≠ p → t.point q = s.point q ∨ ((s.point q).st = .starting ∧ (t.point q).st.flowing = true
    ∧ (t.point q).current = (s.point q).current)
  side : ∀ q, q ≠ p → t.side q = s.side q
  channels : ∀ j, (s.channel j).ValvesOnly (t.channel j)
  unheld : ∀ j, s.dle.holders.get j = none → t.channel j = s.channel j
  psc : t.psc = { s.psc with startQueue := t.psc.startQueue, lastGrant := t.psc.lastGrant }

theorem State.Sells.stops {s : State} {p : Point} {m : Meter} {r : DeliveryRecord} (h : s.Sells p m r) :
    s.Stops (s.restartStopped p m) p m := by
  generalize hu : s.commandValves m false false = u
  have hudle : u.dle = s.dle := by rw [← hu]; simp
  have hupoint (q : Point) : u.point q = s.point q := by rw [← hu]; simp [State.point]
  have huside (q : Point) : u.side q = s.side q := by rw [← hu]; simp [State.side]
  have hupsc : u.psc = s.psc := by rw [← hu]; simp
  have huclosed : (u.channel m).mainOpen = false ∧ (u.channel m).slowOpen = false :=
    hu ▸ s.commandValves_commands m false false
  have huvalves (j : Meter) : (s.channel j).ValvesOnly (u.channel j) := hu ▸ s.commandValves_valves m j false false
  have huother (j : Meter) (hj : j ≠ m) : u.channel j = s.channel j := hu ▸ (s.commandValves_channel m j false false).1 hj
  have huhanded : u.rtm.handed = s.rtm.handed := hu ▸ (State.Stands.commandValves s m false false).handed
  have hgrants := State.Grants.dropMotor u m
  have hopens := State.Opens.dropMotor u m
  have hhanded := (State.Stands.dropMotor u m).handed
  obtain ⟨-, -, -, -, hddu, -⟩ := u.dropMotor_frame m
  have hstopped : s.restartStopped p m = (u.dropMotor m).withdrawZero p := by rw [State.restartStopped, hu]
  rw [hstopped]
  generalize u.dropMotor m = v at hgrants hopens hhanded hddu
  have hnot : ¬ u.holdsIn (u.psc.startQueue.filter fun j => decide (j ≠ m)) p := by
    rintro ⟨j, hj, hholder⟩
    rw [hudle] at hholder
    simp [h.only j hholder] at hj
  have hvpoint (q : Point) : (v.withdrawZero p).point q = v.point q := rfl
  have hvchannel (j : Meter) : (v.withdrawZero p).channel j = v.channel j := rfl
  have hvside (q : Point) : (v.withdrawZero p).side q = if q = p then { s.side p with zero := .none } else s.side q := by
    have hv (q : Point) : v.side q = s.side q := by
      rw [← huside, State.side, hddu]
      rfl
    rw [State.withdrawZero, State.side_mapSide, hv, hv]
  refine ⟨?_, ?_, ?_, ?_, ?_, ?_, fun q hq => ?_, fun q hq => ?_, fun j => ?_, fun j hj => ?_, ?_⟩
  · rcases hopens.point p with hp | ⟨hin, -⟩
    · rw [hvpoint, hp, hupoint]
    · exact absurd hin hnot
  · rcases hopens.channel m with hm | ⟨q, hin, hholder⟩
    · rw [hvchannel, hm]
      exact huclosed
    · rw [hudle, h.held] at hholder
      cases hholder
      exact absurd hin hnot
  · rw [hvside, if_pos rfl]
  · exact hgrants.holders.trans (congrArg Dle.holders hudle)
  · exact hgrants.waiters.trans (congrArg Dle.waiters hudle)
  · exact hhanded.trans huhanded
  · rw [hvpoint, ← hupoint]
    rcases hopens.point q with hp | ⟨-, hopened⟩
    · exact .inl hp
    · exact .inr hopened
  · rw [hvside, if_neg hq]
  · rw [hvchannel]
    exact (huvalves j).trans (hgrants.valves j)
  · have hjm : j ≠ m := by
      rintro rfl
      simp [h.held] at hj
    rcases hopens.channel j with hc | ⟨q, -, hholder⟩
    · rw [hvchannel, hc, huother j hjm]
    · rw [hudle, hj] at hholder
      cases hholder
  · have hpsc := hgrants.psc
    rw [hupsc] at hpsc
    exact hpsc

/-! ## The finalization (R59, R70, R94) -/

theorem State.finalize_eq (s : State) (p : Point) (m : Meter) (r : DeliveryRecord) :
    s.finalize p m r = ((s.recordFinal p (s.finalRecord m r)).releaseMeter m).tellFinal p (s.finalRecord m r) := rfl

theorem State.recordFinal_keeps_handed {s : State} {x : Addition} (h : x ∈ s.rtm.handed) (p : Point) (f : DeliveryRecord) :
    x ∈ (s.recordFinal p f).rtm.handed := by
  unfold State.recordFinal State.handFinalization
  refine State.mem_handed_commitDeliveries ?_
  simp only [Rtm.handed, List.mem_append, State.mapRtm_rtm] at h ⊢
  rcases h with h | h
  · exact .inl (.inl h)
  · exact .inr h

theorem State.tellFinal_zero (s : State) (p q : Point) (f : DeliveryRecord) :
    ((s.tellFinal p f).side q).zero = (s.side q).zero := by
  have hset (u : State) (x : Side) (h : Hold) : ((u.mapSide x fun d => { d with hold := h }).side q).zero = (u.side q).zero := by
    rw [State.side_mapSide]
    split
    · rename_i hq
      rw [hq]
    · rfl
  have hfinal : (((s.mapSide p (·.final f.volume f.amount)).mapPou p (·.endNotice)).side q).zero = (s.side q).zero := by
    have hside : ((s.mapSide p (·.final f.volume f.amount)).mapPou p (·.endNotice)).side q =
        (s.mapSide p (·.final f.volume f.amount)).side q := rfl
    rw [hside, State.side_mapSide]
    split
    · rename_i hq
      rw [hq]
      rfl
    · rfl
  unfold State.tellFinal State.holdFinished State.takeHold State.endHold
  split
  · dsimp only
    split
    · split
      · exact (hset _ _ _).trans hfinal
      · exact (hset _ _ _).trans ((hset _ _ _).trans hfinal)
    · exact (hset _ _ _).trans hfinal
  · exact hfinal

theorem State.tellFinal_other {p q : Point} (h : q ≠ p) (s : State) (f : DeliveryRecord) :
    (s.tellFinal p f).side q = s.side q := by
  unfold State.tellFinal
  rw [State.holdFinished_other _ h]
  simp [State.side, h]

theorem Channel.ValvesOnly.final {s t : State} {m : Meter} (h : (s.channel m).ValvesOnly (t.channel m))
    (hpsc : t.psc.clock = s.psc.clock) (r : DeliveryRecord) : t.finalRecord m r = s.finalRecord m r := by
  obtain ⟨hcounter, -, hsnapshot, -, -, -, hreverse, -⟩ := h.counts
  simp only [State.finalRecord, Channel.net, State.stamp, hcounter, hsnapshot, hreverse, hpsc]

/-- A release without a waiter moves no side and no other meter's waiter (R59). -/
theorem State.releaseMeter_free_rest {s : State} {m : Meter} (hw : s.dle.waiters.get m = none) :
    (s.releaseMeter m).ddu = s.ddu ∧ (s.releaseMeter m).dle.waiters = s.dle.waiters := by
  generalize hu : ({ s with dle := { s.dle with holders := s.dle.holders.set m none } } : State).mapChannel m (·.release) = u
  have heq : s.releaseMeter m = u.releaseMotor m := by
    simp only [State.releaseMeter, hw]
    rw [hu]
  have hwaiters : u.dle.waiters = s.dle.waiters := by rw [← hu]; rfl
  obtain ⟨hdle, -⟩ := u.releaseMotor_dle m
  rw [heq, hdle, ← hwaiters]
  exact ⟨by simp [← hu], rfl⟩

/-- A finalization of a meter without a waiter, with its report kept for the start. -/
structure State.Finalizes (s t : State) (p : Point) (m : Meter) (f : DeliveryRecord) : Prop where
  point : ∀ q, t.point q = if q = p then { (s.point p).finishedWith f with reportOwed := true } else s.point q
  channel : ∀ j, t.channel j = if j = m then (s.channel m).release else s.channel j
  holders : t.dle.holders = s.dle.holders.set m none
  waiters : t.dle.waiters = s.dle.waiters
  added : additionOf p f ∈ t.rtm.handed
  handed : ∀ x ∈ s.rtm.handed, x ∈ t.rtm.handed
  zero : (t.side p).zero = (s.side p).zero
  side : ∀ q, q ≠ p → t.side q = s.side q
  psc : t.psc = s.psc

theorem State.finalize_finalizes {s : State} {p : Point} {m : Meter} {r f : DeliveryRecord}
    (hwait : s.dle.waiters.get m = none) (hf : s.finalRecord m r = f) :
    s.Finalizes ((s.finalize p m r).mapPoint p fun d => { d with reportOwed := true }) p m f := by
  rw [State.finalize_eq, hf]
  obtain ⟨-, -, hmiu, hdle, hddu, -, -, -, hpsc⟩ := s.recordFinal_frame p f
  have hpoint (q : Point) := s.recordFinal_point p q f
  have hadded := s.recordFinal_handed p f
  have hkept {x : Addition} (hx : x ∈ s.rtm.handed) := State.recordFinal_keeps_handed hx p f
  generalize s.recordFinal p f = d at hmiu hdle hddu hpsc hpoint hadded hkept
  have hfree : d.dle.waiters.get m = none := by rw [hdle, hwait]
  have hreleased := State.releaseMeter_free hfree
  obtain ⟨hddu', hwaiters'⟩ := State.releaseMeter_free_rest hfree
  generalize d.releaseMeter m = e at hddu' hwaiters' hreleased
  obtain ⟨-, -, hpoints', -, -, hpsc', hrtm'⟩ := hreleased.frame
  have hchannel (j : Meter) : e.channel j = if j = m then (s.channel m).release else s.channel j := by
    have hd (i : Meter) : d.channel i = s.channel i := by rw [State.channel, hmiu]; rfl
    rw [hreleased.channel, hd, hd]
  have hside (q : Side) : e.side q = s.side q := by
    rw [State.side, hddu', hddu]
    rfl
  generalize ht : (e.tellFinal p f).mapPoint p (fun x => { x with reportOwed := true }) = t
  have htdle : t.dle = e.dle := by rw [← ht]; simp [State.tellFinal]
  have htrtm : t.rtm = d.rtm := by rw [← hrtm', ← ht]; simp [State.tellFinal]
  have htside (q : Side) : t.side q = (e.tellFinal p f).side q := by rw [← ht]; rfl
  refine ⟨fun q => ?_, fun j => ?_, ?_, ?_, ?_, fun x hx => ?_, ?_, fun q hq => ?_, ?_⟩
  · have hepoint (x : Point) : (e.tellFinal p f).point x = d.point x := by
      rw [State.point, State.point, ← hpoints']
      simp [State.tellFinal]
    rw [← ht, State.point_mapPoint, hepoint, hepoint, hpoint, hpoint, if_pos rfl]
    split <;> rfl
  · rw [← hchannel, ← ht]
    simp [State.tellFinal, State.channel]
  · rw [htdle, hreleased.holders, hdle]
  · rw [htdle, hwaiters', hdle]
  · rw [htrtm]
    exact hadded
  · rw [htrtm]
    exact hkept hx
  · rw [htside, State.tellFinal_zero, hside]
  · rw [htside, State.tellFinal_other hq, hside]
  · rw [← hpsc, ← hpsc', ← ht]
    simp [State.tellFinal]

/-- RESTART ends the sale of a point that holds a meter with no waiter (R81). -/
theorem State.Sells.ends {s : State} {p : Point} {m : Meter} {r : DeliveryRecord} (h : s.Sells p m r)
    (hwait : s.dle.waiters.get m = none) : s.Ends (s.restartHolder p) p m r := by
  have hstops := h.stops
  have heq : s.restartHolder p = ((s.restartStopped p m).finalize p m (s.restartRecord p r)).mapPoint p fun d =>
      { d with reportOwed := true } := by
    simp only [State.restartHolder, h.heldBy, h.current]
    rfl
  rw [heq]
  generalize s.restartStopped p m = c at hstops
  have hclock : c.psc.clock = s.psc.clock := by rw [hstops.psc]
  have hfinal := State.finalize_finalizes (s := c) (p := p) (m := m) (r := s.restartRecord p r)
    (f := s.restartFinal p m r) (by rw [hstops.waiters, hwait]) ((hstops.channels m).final hclock _)
  generalize (c.finalize p m (s.restartRecord p r)).mapPoint p (fun d => { d with reportOwed := true }) = t at hfinal
  have hpoint := hfinal.point p
  have hchannel := hfinal.channel m
  rw [if_pos rfl] at hpoint hchannel
  have hother {j : Meter} (hj : j ≠ m) : t.channel j = c.channel j := by rw [hfinal.channel, if_neg hj]
  refine ⟨⟨by rw [hpoint]; rfl, by rw [hpoint]; rfl, ?_, hfinal.zero.trans hstops.zero, ?_, hfinal.added⟩,
    by rw [hfinal.holders, hstops.holders], hfinal.waiters.trans hstops.waiters, fun x hx => ?_, fun q hq => ?_,
    fun q hq => (hfinal.side q hq).trans (hstops.side q hq), fun j hj => ?_, fun j hj => ?_, fun j => ?_, ?_⟩
  · rw [hchannel]
    exact hstops.valves
  · rw [hfinal.holders]
    simp
  · exact hfinal.handed x (by rw [hstops.handed]; exact hx)
  · rw [hfinal.point, if_neg hq]
    exact hstops.other q hq
  · rw [hother hj]
    exact hstops.channels j
  · have hjm : j ≠ m := by
      rintro rfl
      simp [h.held] at hj
    rw [hother hjm]
    exact hstops.unheld j hj
  · obtain ⟨hcounter, -⟩ := (hstops.channels j).counts
    by_cases hj : j = m
    · subst hj
      rw [hchannel, ← hcounter]
      rfl
    · rw [hother hj, hcounter]
  · rw [hfinal.psc]
    exact hstops.psc

end Sys2Proof.Machine
end

section
/-! PROOFS. RESTART with deliveries that hold their meters (R58, R81, R169): both points' sales end, each without regard to the
other, and a drain whose last sale ends so completes. -/

namespace Sys2Proof.Machine

/-! ## The law of the meter holds (R58) -/

theorem mem_metersNaming (t : Quad (Option Point)) (p : Point) (m : Meter) : m ∈ metersNaming t p ↔ t.get m = some p := by
  have hall : m ∈ Meter.all := by cases m <;> decide
  simp [metersNaming, hall]

/-- Under the law of the meter holds a point sells with a meter of its own, waits for one, or has no part in a hold. -/
theorem State.holdLawful_cases {s : State} {p : Point} (h : s.holdLawful p = true) :
    ((s.point p).st.delivering = true ∧ (∃ m r, s.Sells p m r) ∧ ∀ j, s.dle.waiters.get j ≠ some p)
      ∨ (s.waiting p = true ∧ ∀ j, s.dle.holders.get j ≠ some p)
      ∨ ((s.point p).st.delivering = false ∧ s.Bystander p) := by
  simp only [State.holdLawful, Bool.and_eq_true, Bool.or_eq_true, decide_eq_true_eq, List.isEmpty_iff] at h
  obtain ⟨⟨⟨⟨⟨⟨hcount, hstarting⟩, -⟩, hmeters⟩, -⟩, -⟩, -⟩ := h
  have hheld (j : Meter) := mem_metersNaming s.dle.holders p j
  have hawaited (j : Meter) := mem_metersNaming s.dle.waiters p j
  generalize metersNaming s.dle.holders p = held at hcount hmeters hheld
  generalize metersNaming s.dle.waiters p = awaited at hcount hstarting hmeters hawaited
  match held, awaited with
  | [], [] =>
    refine .inr (.inr ⟨?_, fun j => ⟨?_, ?_⟩⟩)
    · cases hd : (s.point p).st.delivering
      · rfl
      · simp [hd] at hcount
    · simp [← hheld]
    · simp [← hawaited]
  | [m], [] =>
    simp only [List.mem_singleton] at hheld
    obtain ⟨r, hr, -⟩ : ∃ r, (s.point p).current = some r ∧ r.meter = m := by
      simpa [Option.any_eq_true] using hmeters
    refine .inl ⟨?_, ⟨m, r, (hheld m).1 rfl, fun j hj => (hheld j).2 hj, hr⟩, fun j => by simp [← hawaited]⟩
    cases hd : (s.point p).st.delivering
    · simp [hd] at hcount
    · rfl
  | [], [m] =>
    have hnone (j : Meter) : s.dle.holders.get j ≠ some p := by simp [← hheld]
    have hst : (s.point p).st = .starting := hstarting.resolve_left (by simp)
    have hholds : s.holds p = false := by rw [State.holds, (State.heldBy_eq_none s).2 hnone]; rfl
    exact .inr (.inl ⟨by simp [State.waiting, hst, hholds], hnone⟩)
  | _ :: _ :: _, _ =>
    simp only [List.length_cons] at hcount
    split at hcount <;> omega
  | _ :: _, _ :: _ =>
    simp only [List.length_cons] at hcount
    split at hcount <;> omega
  | [], _ :: _ :: _ =>
    simp only [List.length_cons] at hcount
    split at hcount <;> omega

/-- No point waits, and each one sells with a meter of its own or has no part in a hold. -/
structure State.NoWaits (s : State) : Prop where
  waiters : ∀ m, s.dle.waiters.get m = none
  points : ∀ p, (∃ m r, s.Sells p m r) ∨ s.Bystander p

theorem State.holdLawful_of_holdsLawful {s : State} (h : s.holdsLawful = true) (p : Point) : s.holdLawful p = true := by
  rw [State.holdsLawful, Bool.and_eq_true] at h
  obtain ⟨ha, hb⟩ := h
  cases p with
  | a => exact ha
  | b => exact hb

/-- A point that holds its meter is not moved when RESTART ends the waiting. -/
theorem State.Sells.unwait {s : State} {p : Point} {m : Meter} {r : DeliveryRecord} (h : s.Sells p m r) :
    s.unwait.Sells p m r ∧ s.unwait.point p = s.point p := by
  have hunwaited := s.unwait_unwaited
  have hnot : s.waiting p = false := by simp [State.waiting, State.holds, h.heldBy]
  have hpoint : s.unwait.point p = s.point p := by
    rw [hunwaited.point, hnot]
    rfl
  exact ⟨⟨by rw [hunwaited.holders, h.held], fun j hj => h.only j (by rw [← hunwaited.holders, hj]),
    by rw [hpoint, h.current]⟩, hpoint⟩

theorem State.unwait_noWaits {s : State} (h : s.holdsLawful = true) : s.unwait.NoWaits := by
  have hunwaited := s.unwait_unwaited
  have hcases (p : Point) := State.holdLawful_cases (State.holdLawful_of_holdsLawful h p)
  have hwaiters (m : Meter) : s.unwait.dle.waiters.get m = none := by
    cases hw : s.unwait.dle.waiters.get m with
    | none => rfl
    | some w =>
      obtain ⟨hwait, hnot⟩ := hunwaited.waiters m w hw
      rcases hcases w with ⟨-, -, hnone⟩ | ⟨hwaits, -⟩ | ⟨-, hby⟩
      · exact absurd hwait (hnone m)
      · simp [hwaits] at hnot
      · exact absurd hwait (hby m).2
  have hby {p : Point} (hp : ∀ j, s.dle.holders.get j ≠ some p) : s.unwait.Bystander p := by
    refine fun m => ⟨by rw [hunwaited.holders]; exact hp m, by simp [hwaiters]⟩
  refine ⟨hwaiters, fun p => ?_⟩
  rcases hcases p with ⟨-, ⟨m, r, hsells⟩, -⟩ | ⟨-, hnone⟩ | ⟨-, hbystander⟩
  · exact .inl ⟨m, r, hsells.unwait.1⟩
  · exact .inr (hby hnone)
  · exact .inr (hby fun j => (hbystander j).1)

/-! ## One sale ends beside the other (R81) -/

theorem State.Bystander.restartHolder {s : State} {p : Point} (hby : s.Bystander p) (q : Point) :
    (s.restartHolder q).Bystander p ∧ (s.restartHolder q).point p = s.point p := by
  by_cases hq : q = p
  · subst hq
    rw [State.restartHolder_of_none hby.heldBy]
    exact ⟨hby, rfl⟩
  · exact State.PassesBy.restartHolder hq s hby

namespace State.NoWaits

variable {s : State} {p q : Point} {m : Meter} {r f : DeliveryRecord} (h : s.NoWaits)
include h

/-- The end of a point's sale, if it has one. -/
theorem restartHolder_cases (q : Point) :
    (s.Bystander q ∧ s.restartHolder q = s) ∨ ∃ m r, s.Sells q m r ∧ s.Ends (s.restartHolder q) q m r := by
  rcases h.points q with ⟨m, r, hsells⟩ | hby
  · exact .inr ⟨m, r, hsells, hsells.ends (h.waiters m)⟩
  · exact .inl ⟨hby, State.restartHolder_of_none hby.heldBy⟩

/-- The other point's sale goes on with its record and its figures. -/
theorem sells_restartHolder (hsells : s.Sells p m r) (hq : p ≠ q) :
    (s.restartHolder q).Sells p m r ∧ (s.restartHolder q).restartFinal p m r = s.restartFinal p m r := by
  rcases h.restartHolder_cases q with ⟨-, heq⟩ | ⟨m', r', hsells', hends⟩
  · rw [heq]
    exact ⟨hsells, rfl⟩
  · have hmeter : m ≠ m' := by
      rintro rfl
      exact hq (Option.some.inj (hsells.held.symm.trans hsells'.held))
    have hpoint : ((s.restartHolder q).point p).current = (s.point p).current
        ∧ (((s.restartHolder q).point p).st = .stopping ↔ (s.point p).st = .stopping) := by
      rcases hends.other p hq with heq | ⟨hst, hflow, hcur⟩
      · rw [heq]
        exact ⟨rfl, Iff.rfl⟩
      · refine ⟨hcur, fun hstop => ?_, fun hstop => ?_⟩
        · rw [hstop] at hflow
          cases hflow
        · rw [hstop] at hst
          cases hst
    obtain ⟨hcur, hstopping⟩ := hpoint
    refine ⟨⟨?_, fun j hj => ?_, hcur.trans hsells.current⟩, ?_⟩
    · rw [hends.holders, Quad.get_set, if_neg hmeter, hsells.held]
    · rw [hends.holders, Quad.get_set] at hj
      split at hj
      · cases hj
      · exact hsells.only j hj
    · have hrecord : (s.restartHolder q).restartRecord p r = s.restartRecord p r := by
        simp only [State.restartRecord, hstopping]
      rw [State.restartFinal, State.restartFinal, hrecord]
      exact (hends.valves m hmeter).final (by rw [hends.psc]) _

theorem restartHolder (q : Point) : (s.restartHolder q).NoWaits := by
  have hcases := h.restartHolder_cases q
  refine ⟨fun m => ?_, fun p => ?_⟩
  · rcases hcases with ⟨-, heq⟩ | ⟨m', r', -, hends⟩
    · rw [heq]
      exact h.waiters m
    · rw [hends.waiters]
      exact h.waiters m
  · rcases h.points p with ⟨m, r, hsells⟩ | hby
    · by_cases hq : p = q
      · subst hq
        refine .inr fun j => ⟨?_, ?_⟩
        · have hends := hsells.ends (h.waiters m)
          rw [hends.holders, Quad.get_set]
          split
          · simp
          · rename_i hj
            exact fun hj' => hj (hsells.only j hj')
        · rw [(hsells.ends (h.waiters m)).waiters, h.waiters]
          simp
      · exact .inl ⟨m, r, (h.sells_restartHolder hsells hq).1⟩
    · exact .inr (hby.restartHolder q).1

/-- A finalized point stays so. -/
theorem restarted_restartHolder (hfinal : s.Restarted p m f) (hq : p ≠ q) : (s.restartHolder q).Restarted p m f := by
  rcases h.restartHolder_cases q with ⟨-, heq⟩ | ⟨m', r', -, hends⟩
  · rw [heq]
    exact hfinal
  · have hpoint : (s.restartHolder q).point p = s.point p := by
      rcases hends.other p hq with heq | ⟨hst, -⟩
      · exact heq
      · rw [hfinal.st] at hst
        cases hst
    refine ⟨by rw [hpoint, hfinal.st], by rw [hpoint, hfinal.current], ?_, ?_, ?_, hends.handed _ hfinal.handed⟩
    · rw [hends.unheld m hfinal.free]
      exact hfinal.valves
    · rw [hends.side p hq, hfinal.zero]
    · rw [hends.holders, Quad.get_set]
      split
      · rfl
      · exact hfinal.free

/-- The counters stand, and of the power controller all but the start queue. -/
theorem restartHolder_rest (q : Point) : (∀ j, ((s.restartHolder q).channel j).counter = (s.channel j).counter)
    ∧ (s.restartHolder q).psc.power = s.psc.power := by
  rcases h.restartHolder_cases q with ⟨-, heq⟩ | ⟨m', r', -, hends⟩
  · rw [heq]
    exact ⟨fun _ => rfl, rfl⟩
  · exact ⟨hends.counter, by rw [hends.psc]⟩

/-! ## Both sales end -/

/-- A point that sells is finalized. -/
theorem sells_finalize (hsells : s.Sells p m r) :
    ((s.restartHolder .a).restartHolder .b).Restarted p m (s.restartFinal p m r) := by
  have hnext := h.restartHolder .a
  cases p with
  | a => exact hnext.restarted_restartHolder (hsells.ends (h.waiters m)).restarted (by decide)
  | b =>
    obtain ⟨hsells', hfinal⟩ := h.sells_restartHolder hsells (q := .a) (by decide)
    have hends := (hsells'.ends (hnext.waiters m)).restarted
    rwa [hfinal] at hends

end State.NoWaits

/-- A point that no hold names is not moved. -/
theorem State.Bystander.finalize {s : State} {p : Point} (hby : s.Bystander p) :
    ((s.restartHolder .a).restartHolder .b).point p = s.point p := by
  obtain ⟨hby', hpoint⟩ := hby.restartHolder .a
  obtain ⟨-, hpoint'⟩ := hby'.restartHolder .b
  exact hpoint'.trans hpoint

/-! ## RESTART with a delivery that holds its meter (R81, R94, R169) -/

/-- The reply of RESTART waits where an addition has been handed to the RTM (R94, R105). -/
theorem State.takeRestart_waits {s : State} {x : Addition} (h : x ∈ (s.restartFinalize.drainTest s).rtm.handed) :
    s.takeRestart.hlp.hand = some .restarting ∧ x ∈ s.takeRestart.rtm.handed := by
  rw [State.takeRestart_eq]
  generalize s.restartFinalize.drainTest s = t at h
  have hretained : (t.retainDeliveries.restarting s.now).rtm.handed = t.rtm.handed := by
    rw [State.retainDeliveries]
    split <;> rfl
  have hmem : x ∈ (t.retainDeliveries.restarting s.now).commit.rtm.handed :=
    State.mem_handed_commit (by rw [hretained]; exact h)
  have hhand : (t.retainDeliveries.restarting s.now).commit.hlp.hand = some .restarting := by simp [State.restarting]
  rw [State.restartReply_of_not_idle]
  · exact ⟨hhand, hmem⟩
  · refine Bool.eq_false_iff.2 fun hidle => ?_
    simp only [Rtm.idle, Bool.and_eq_true, List.isEmpty_iff] at hidle
    obtain ⟨⟨-, hcarried⟩, hunwritten⟩ := hidle
    simp [Rtm.handed, hcarried, hunwritten] at hmem

/-- Both deliveries finalized, no point sells but one in AUTHORIZED (R81). -/
theorem State.restartFinalize_selling {s : State} {p : Point} (hlaw : s.holdsLawful = true)
    (hst : (s.point p).st ≠ .authorized) : (s.restartFinalize.point p).st.selling = false := by
  have hunwaited := s.unwait_unwaited
  have hno := State.unwait_noWaits hlaw
  rw [State.restartFinalize_eq]
  rcases State.holdLawful_cases (State.holdLawful_of_holdsLawful hlaw p) with
    ⟨-, ⟨m, r, hsells⟩, -⟩ | ⟨hwait, hnone⟩ | ⟨hdelivering, hby⟩
  · rw [(hno.sells_finalize hsells.unwait.1).st]
    rfl
  · have hby : s.unwait.Bystander p := fun m => ⟨by rw [hunwaited.holders]; exact hnone m, by simp [hno.waiters]⟩
    rw [hby.finalize, hunwaited.point, if_pos hwait]
    rfl
  · have hby' : s.unwait.Bystander p := fun m => ⟨by rw [hunwaited.holders]; exact (hby m).1, by simp [hno.waiters]⟩
    have hnot : s.waiting p = false := by
      cases h : (s.point p).st <;> simp_all [State.waiting, PointSt.delivering]
    rw [hby'.finalize, hunwaited.point, hnot]
    cases h : (s.point p).st <;> simp_all [PointSt.selling, PointSt.delivering]

/-- What RESTART leaves of a point whose sale it has finalized, in the event it is taken. -/
theorem State.takeRestart_finalizes {s : State} {p : Point} {m : Meter} {r : DeliveryRecord} (hlaw : s.holdsLawful = true)
    (hsells : s.Sells p m r) :
    s.takeRestart.Restarted p m (s.restartFinal p m r) ∧ s.takeRestart.hlp.hand = some .restarting
      ∧ ∀ j, (s.takeRestart.channel j).counter = (s.channel j).counter := by
  obtain ⟨hsells', hpoint⟩ := hsells.unwait
  have hno := State.unwait_noWaits hlaw
  obtain ⟨-, -, hmiu, -, -, hpsc⟩ := s.unwait_unwaited.blocks
  have hchannel (j : Meter) : s.unwait.channel j = s.channel j := by rw [State.channel, hmiu]; rfl
  have hfinal : s.unwait.restartFinal p m r = s.restartFinal p m r := by
    simp only [State.restartFinal, State.restartRecord, State.finalRecord, State.stamp, hpoint, hchannel, hpsc]
  have hrestarted := hno.sells_finalize hsells'
  obtain ⟨hcounters, -⟩ := hno.restartHolder_rest .a
  obtain ⟨hcounters', -⟩ := (hno.restartHolder .a).restartHolder_rest .b
  rw [hfinal, ← State.restartFinalize_eq] at hrestarted
  rw [← State.restartFinalize_eq] at hcounters'
  have hstands := State.Stands.drainTest s.restartFinalize s
  obtain ⟨hdrained, -⟩ := State.drainTest_drained (s := s.restartFinalize) (before := s)
  obtain ⟨hhand, hhanded⟩ := State.takeRestart_waits (s := s) (by rw [hstands.handed]; exact hrestarted.handed)
  obtain ⟨-, -, hmiu', hdle', hpoints', hddu', -, -⟩ := s.takeRestart_frame
  have hpoint' : s.takeRestart.point p = s.restartFinalize.point p := by
    rw [State.point, hpoints', ← State.point, hdrained.point p (by simp [hrestarted.st]) (by simp [hrestarted.st])]
  have hchannel' (j : Meter) : s.takeRestart.channel j = s.restartFinalize.channel j := by
    rw [State.channel, hmiu', hdrained.miu]
    rfl
  refine ⟨⟨by rw [hpoint', hrestarted.st], by rw [hpoint', hrestarted.current], ?_, ?_, ?_, hhanded⟩, hhand, fun j => ?_⟩
  · rw [hchannel']
    exact hrestarted.valves
  · rw [State.side, hddu']
    exact hdrained.zero p hrestarted.zero
  · rw [hdle', hdrained.dle]
    exact hrestarted.free
  · rw [hchannel', hcounters', hcounters, hchannel]

/-- A drain completes with RESTART where no point is in AUTHORIZED and one sold (R169). -/
theorem State.takeRestart_night {s : State} (hlaw : s.holdsLawful = true) (hpower : s.psc.power = .draining)
    (hany : s.anySelling = true) (hst : ∀ p, (s.point p).st ≠ .authorized) : s.takeRestart.psc.power = .night := by
  have hno := State.unwait_noWaits hlaw
  obtain ⟨-, -, -, -, -, hpsc⟩ := s.unwait_unwaited.blocks
  obtain ⟨-, hpowera⟩ := hno.restartHolder_rest .a
  obtain ⟨-, hpowerb⟩ := (hno.restartHolder .a).restartHolder_rest .b
  have hfinal : s.restartFinalize.psc.power = .draining := by
    rw [State.restartFinalize_eq, hpowerb, hpowera, hpsc, hpower]
  obtain ⟨-, -, -, -, -, -, -, hpsc'⟩ := s.takeRestart_frame
  obtain ⟨-, hnight⟩ := State.drainTest_drained (s := s.restartFinalize) (before := s)
  rw [hpsc']
  exact hnight hfinal (State.anySelling_of_selling fun p => State.restartFinalize_selling hlaw (hst p)) hany

end Sys2Proof.Machine
end

section
/-! PROOFS. The warm start that the OK reply of RESTART brings (R81, R105, R194), and RESTART as a whole. -/

namespace Sys2Proof.Machine

/-! ## A start that reports the sales which a restart finalized (R104) -/

/-- The part with another queue of reports. -/
def State.reporting (s : State) (l : List Report) : State := s.mapHlp fun h => { h with reports := l }

/-- What a start leaves of every block is told of the front report alone. -/
theorem State.startedAs_reporting {t : State} {cause : StartCause} (h : t.startedAs cause) {l : List Report}
    (hl : l.head? = t.hlp.reports.head?) : (t.reporting l).startedAs cause := by
  obtain ⟨hpowered, hquiet, hflight, hheld, hidle, ⟨r, hr, hreport⟩, hrest⟩ := h
  exact ⟨hpowered, hquiet, hflight, hheld, hidle, ⟨r, by rw [← hl] at hr; exact hr, hreport⟩, hrest⟩

/-- The START report (R98, R195). -/
def State.startReport (s : State) (cause : StartCause) : Report :=
  ⟨.none, ⟨0, 0⟩, .start cause s.rtm.foundValidity.1 s.rtm.foundValidity.2.1 s.rtm.foundValidity.2.2⟩

theorem State.startReported_eq (s : State) (cause : StartCause) {la lb : List DeliveryRecord}
    (hroom : la.length + lb.length ≤ 8) : ∃ l, l.length ≤ 8 ∧
      s.startReported cause la lb = (s.startRecovered cause).reporting (s.startReport cause :: l) := by
  have hone : (s.startBlocks cause).hlp.reports.length = 1 := rfl
  have hqueue : reportRoom = 32 := rfl
  rw [State.startReported, State.postFinished_eq (s.startBlocks cause) .a _ (by omega), State.postFinished_eq _ .b _
    (by simp only [List.length_append, List.length_map]; omega), State.writeRecovered_eq, State.startRecovered_eq]
  refine ⟨la.map (fun r => ⟨.point .a, ⟨0, 0⟩, .deliveryFinished r⟩)
    ++ lb.map (fun r => ⟨.point .b, ⟨0, 0⟩, .deliveryFinished r⟩), by simpa using hroom, ?_⟩
  dsimp only
  rw [List.append_assoc]
  rfl

/-- The tamper line taken at a start tells the same gate, whatever the reports before it. -/
theorem State.tamperAct_reporting {u : State} {g : GateSettings} {now : Nat} (hcrg : u.crg = startCrg g now)
    (hroom : u.hlp.reports.length < reportRoom) {l : List Report} (hl : l.length < reportRoom) :
    (u.reporting l).tamperAct = u.tamperAct.reporting
      (l ++ [⟨.none, u.stamp, .readerGate .off .quarantine (.quarantine .tamper) none none false⟩]) := by
  rw [State.tamperAct_start (u := u.reporting l) hcrg hl, State.tamperAct_start hcrg hroom]
  rfl

/-- A restart changes of a start the reports after the START report alone. -/
theorem State.start_reporting (s : State) (cause : StartCause) (owed : Pair Bool) :
    ∃ l, s.start cause owed = (s.start cause (.fill false)).reporting (s.startReport cause :: l) := by
  have ha : s.rtm.recoveryA.reports.length ≤ 3 := (recoverPoint_bounds _ _ _ _ _).2.1
  have hb : s.rtm.recoveryB.reports.length ≤ 3 := (recoverPoint_bounds _ _ _ _ _).2.1
  have hta := s.rtm.recoveryA.told_length s.rtm.foundValidity.2.2 owed.a
  have htb := s.rtm.recoveryB.told_length s.rtm.foundValidity.2.2 owed.b
  obtain ⟨l, hlen, hreported⟩ := s.startReported_eq cause
    (la := s.rtm.recoveryA.told s.rtm.foundValidity.2.2 owed.a) (lb := s.rtm.recoveryB.told s.rtm.foundValidity.2.2 owed.b)
    (by omega)
  have hsix := s.rtm.finishedReports_length
  have hqueue : reportRoom = 32 := rfl
  have hcrg : (s.startRecovered cause).crg = startCrg s.rtm.foundConfig.gate s.now := by
    rw [State.startRecovered_eq]
    rfl
  have hreports : (s.startRecovered cause).hlp.reports.length < reportRoom := by
    rw [State.startRecovered_eq]
    simp only [State.startReports, List.length_cons]
    omega
  have hpins (u : State) (k : List Report) : (u.reporting k).pins = u.pins := rfl
  have howed := s.start_owed cause owed
  dsimp only at howed
  rw [howed, hreported, State.start_eq, hpins]
  split
  · rw [State.tamperAct_reporting hcrg hreports (by simp only [List.length_cons]; omega)]
    exact ⟨_, rfl⟩
  · exact ⟨l, rfl⟩

/-- Whatever the reports owed, a start leaves every block as a power-on start does. -/
theorem State.start_startedAs_owed (s : State) (cause : StartCause) (owed : Pair Bool) :
    (s.start cause owed).startedAs cause ∧ (s.start cause owed).pins = s.pins ∧ (s.start cause owed).pending = s.pending := by
  obtain ⟨l, heq⟩ := s.start_reporting cause owed
  obtain ⟨crg, l', hleaves, -⟩ := s.start_leaves cause
  have hstarted := s.start_startedAs cause
  rw [heq]
  rw [hleaves] at hstarted ⊢
  exact ⟨State.startedAs_reporting hstarted rfl, rfl, rfl⟩

/-! ## Up to the warm start (R105) -/

theorem State.restartFinalize_pending (s : State) :
    s.restartFinalize.pins = s.pins ∧ s.restartFinalize.pending = s.pending := by
  have hwaiter (u : State) (p : Point) : (u.restartWaiter p).pins = u.pins ∧ (u.restartWaiter p).pending = u.pending := by
    unfold State.restartWaiter
    split <;> simp
  have hholder (u : State) (p : Point) : (u.restartHolder p).pins = u.pins ∧ (u.restartHolder p).pending = u.pending := by
    unfold State.restartHolder
    split <;> simp
  simp only [State.restartFinalize, hwaiter, hholder]
  exact ⟨rfl, rfl⟩

theorem State.endWrites_pending (s : State) (fuel : Nat) :
    (s.endWrites fuel).pins = s.pins ∧ (s.endWrites fuel).pending = s.pending := by
  induction fuel generalizing s with
  | zero => exact ⟨rfl, rfl⟩
  | succ n ih =>
    have hwhere (c : Bool) (u v : State) (h : u.pins = v.pins ∧ u.pending = v.pending) :
        (if c = true then u else v).pins = v.pins ∧ (if c = true then u else v).pending = v.pending := by
      split
      · exact h
      · exact ⟨rfl, rfl⟩
    unfold State.endWrites
    split
    · exact ⟨rfl, rfl⟩
    · obtain ⟨hpins, hpending⟩ := hwhere (s.rtm.writing .config) s.endConfigWrite s (by simp)
      dsimp only
      generalize (if s.rtm.writing .config = true then s.endConfigWrite else s) = u at hpins hpending
      obtain ⟨hpins', hpending'⟩ := hwhere (u.rtm.writing .deliveries) u.endDeliveriesWrite u (by simp)
      generalize (if u.rtm.writing .deliveries = true then u.endDeliveriesWrite else u) = v at hpins' hpending'
      obtain ⟨hpins'', hpending''⟩ := hwhere (v.rtm.writing .totals) v.endTotalsWrite v (by simp)
      obtain ⟨hrest, hrest'⟩ := ih (if v.rtm.writing .totals = true then v.endTotalsWrite else v)
      exact ⟨hrest.trans (hpins''.trans (hpins'.trans hpins)), hrest'.trans (hpending''.trans (hpending'.trans hpending))⟩

/-- The warm start is a start with cause RESTART (R194). -/
theorem State.warmStart_startedAs (s : State) :
    s.warmStart.startedAs .restart ∧ s.warmStart.pins = s.pins ∧ s.warmStart.pending = s.pending := by
  obtain ⟨hpins, hpending⟩ := s.restartFinalize_pending
  generalize hu : s.restartFinalize.retainDeliveries.commit = u
  have hkept : u.pins = s.pins ∧ u.pending = s.pending := by simp [← hu, hpins, hpending]
  obtain ⟨hpins', hpending'⟩ := u.endWrites_pending u.rtm.writeFuel
  obtain ⟨hstarted, hpins'', hpending''⟩ :=
    (u.endWrites u.rtm.writeFuel).start_startedAs_owed .restart (u.points.map (·.reportOwed))
  have hwarm : s.warmStart = (u.endWrites u.rtm.writeFuel).start .restart (u.points.map (·.reportOwed)) := by
    rw [State.warmStart, hu]
  rw [hwarm]
  exact ⟨hstarted, hpins''.trans (hpins'.trans hkept.1), hpending''.trans (hpending'.trans hkept.2)⟩

theorem exec_replySent_restart {s : State} (hp : s.powered = true) (hhand : s.hlp.hand = some (.replying 0x41 [0])) :
    exec .replySent s = .next s.warmStart := by
  have hexec : exec .replySent s = execReplySent s := rfl
  rw [hexec, execReplySent, hp, hhand]
  rfl

/-! ## RESTART (R38, R64, R81, R92, R105, R169, R194) -/

theorem State.Sells.of_lawful {s : State} {p : Point} {m : Meter} {r : DeliveryRecord} (hlaw : s.holdsLawful = true)
    (hheld : s.heldBy p = some m) (hcur : (s.point p).current = some r) : s.Sells p m r := by
  have hholder := State.holder_of_heldBy s hheld
  refine ⟨hholder, fun j hj => ?_, hcur⟩
  rcases State.holdLawful_cases (State.holdLawful_of_holdsLawful hlaw p) with
    ⟨-, ⟨m', _, hsells⟩, -⟩ | ⟨-, hnone⟩ | ⟨-, hby⟩
  · rw [hsells.only j hj, hsells.only m hholder]
  · exact absurd hholder (hnone m)
  · exact absurd hholder (hby m).1

/-- Settles O42: without a delivery by the retained memory alone; a delivery and a waiting point each by what RESTART leaves of
it; and the warm start by what every start leaves. -/
theorem restartStartsWarm : Obligations.RestartStartsWarm := by
  refine ⟨fun s hr ht hnone => ?_, fun s p m r hr ht hlaw hdelivering hheld hcur => ?_, fun s p hr ht hst hheld => ?_,
    fun s hp hhand => ?_⟩
  · rw [exec_restart ht]
    obtain ⟨hanswered, hwaits, hwrites⟩ := State.takeRestart_of_none hr hnone
    exact ⟨fun hidle h => congrArg Host.Outcome.next (hanswered hidle h),
      fun hidle h => congrArg Host.Outcome.next (hwaits hidle h),
      fun hidle h => congrArg Host.Outcome.next (hwrites hidle h)⟩
  · obtain ⟨hrestarted, hhand, hcounters⟩ := State.takeRestart_finalizes hlaw (.of_lawful hlaw hheld hcur)
    obtain ⟨hpins, hdisplay, hnow⟩ := s.takeRestart_still
    have hsells : (s.point p).st.selling = true := by
      cases hst : (s.point p).st <;> simp_all [PointSt.delivering, PointSt.selling]
    have hcause : (s.restartFinal p m r).cause = if (s.point p).st = .stopping then r.cause else some .hostRestart := by
      simp only [State.restartFinal, State.restartRecord]
      split <;> rfl
    have hvolume : (s.restartFinal p m r).volume =
        legalVolume (countOf (netCount (s.channel m).counter (s.channel m).snapshot)) r.q := by
      simp only [State.restartFinal, State.restartRecord]
      split <;> rfl
    refine ⟨_, s.restartFinal p m r, exec_restart ht, hhand, hrestarted.st, hrestarted.current, rfl, hcause,
      hrestarted.valves.1, hrestarted.valves.2, hrestarted.zero, hvolume, hrestarted.free, hrestarted.handed,
      fun hpower hother => State.takeRestart_night hlaw hpower ?_ fun q => ?_, hpins, hdisplay, hnow, hcounters⟩
    · simp only [State.anySelling, List.any_eq_true]
      exact ⟨p, by cases p <;> decide, hsells⟩
    · by_cases hq : q = p
      · rintro hauth
        rw [← hq, hauth] at hdelivering
        cases hdelivering
      · rw [Point.eq_other_of_ne hq]
        exact hother
  · obtain ⟨hpoint, hwaiters⟩ := State.takeRestart_unwaits hst hheld
    obtain ⟨hpins, hdisplay, hnow⟩ := s.takeRestart_still
    refine ⟨_, exec_restart ht, ?_, ?_, ?_, ?_, ?_, hwaiters, hpins, hdisplay, hnow⟩ <;> rw [hpoint] <;> rfl
  · exact ⟨_, exec_replySent_restart hp hhand, s.warmStart_startedAs⟩

end Sys2Proof.Machine
end

section
/-! PROOFS. Family 4, the statements of the points and of the gate that fail, each refuted at a state that the invariants
allow: the count of a held meter wraps below -2^31, and the stop of one point lets the other point's valves open before the
end of a session reaches it. -/

namespace Sys2Proof.Machine

/-! ## States of a part in RUN -/

/-- A record of a sale on a meter, with a stop count and no slow-down count, bound to session 1. -/
def boundRecord (m : Meter) : DeliveryRecord :=
  { seq := 1, position := .p1, grade := .g1, meter := m, generation := 0, level := .one, price := 1000, q := 10000
    rounding := .halfUp, slowDown := 50, vapour := false, preset := none, amountLimit := none, volumeLimit := none
    session := some 1, target := 1000, source := .capacity, nSlow := 0, nStop := 100000, quiet := 1000, noFlow := 60
    snapshot := 0, net := 0, reverse := 0, volume := 0, amount := 0, cause := none, flags := begunFlags false
    start := ⟨0, 0⟩, finish := none, pulses := 0, final := false }

/-- A part in RUN with its valve and pulser supplies good and its meters present, their motors without a run-up time. -/
def runningPart : State :=
  { State.reset with
    miu := .fill (startChannel { defaultMeter with present := true, runUp := 0 } 0)
    psc := { State.reset.psc with
      power := .run, intended := .run, sensors := State.reset.psc.sensors.map fun x => { x with good := true } } }

/-- A part in RUN with a point that holds a meter for a sale, in a state of the point. -/
def State.sellingAt (s : State) (p : Point) (m : Meter) (f : PointData → PointData) : State :=
  { s with
    miu := s.miu.set m ((s.channel m).hold p (boundRecord m).nSlow (boundRecord m).nStop)
    dle := { s.dle with holders := s.dle.holders.set m (some p) }
    points := s.points.set p (f { s.point p with position := some .p1, current := some (boundRecord m), lastSeq := 1 }) }

/-! ## A net count that wraps (R6, R7, R18) -/

/-- Point A in STOPPING on M1, whose net count is -2^31, with a backward step of M1 to come. -/
def countAtLeast : State :=
  let s := runningPart.sellingAt .a .m1 fun d => { d with st := .stopping, quietDue := some 1000 }
  { s.mapChannel .m1 fun c => { c with reference := some (false, false), counter := 0x80000000 } with
    pending := [.pulserSample .m1 false true] }

/-- The state after the backward step. -/
def countWrapped : State :=
  let s := { countAtLeast with pending := [] }
  ((s.referred .m1 (false, true)).backwardStep .m1).settle s

theorem step_countAtLeast : step countAtLeast = .next countWrapped := rfl

theorem countAtLeast_lawful : countAtLeast.holdsLawful = true ∧ countAtLeast.valvesLawful = true := by decide +kernel

/-- The step takes the net count from the least value to the greatest, past a STOP compare that has not fired. -/
theorem countWrapped_valves : (countWrapped.channel .m1).net = 2 ^ 31 - 1
    ∧ (countWrapped.channel .m1).stop = some ⟨100000, false⟩ ∧ countWrapped.valvesLawful = false := by decide +kernel

/-- Refutes O53: the net count is held in 32 bits and only a forward step tests the compares, so a backward step at -2^31
leaves the count beyond a STOP compare that has not fired. -/
theorem not_holdsAndBindingsKept : ¬ Obligations.HoldsAndBindingsKept := by
  intro h
  obtain ⟨hholds, hvalves⟩ := countAtLeast_lawful
  obtain ⟨-, -, hkept⟩ := h countAtLeast countWrapped hholds step_countAtLeast
  have hlawful := hkept hvalves
  rw [countWrapped_valves.2.2] at hlawful
  cases hlawful

/-! ## A session that ends at two points (R64, R76, R176) -/

/-- An authorization of every grade, bound to session 1. -/
def boundAuthorization : Authorization :=
  { mask := 255, level := .one, preset := none, amountLimit := none, volumeLimit := none, session := some 1
    granted := ⟨0, 0⟩ }

/-- Both points hold a meter in STARTING under authorizations bound to the gate's session, and their motors wait in the start
queue, whose head may be granted. Point A's zero check is still in flight, point B's has passed. -/
def contended : State :=
  let starting (zeroPassed : Bool) (d : PointData) : PointData :=
    { d with st := .starting, auth := some boundAuthorization, zeroPassed := zeroPassed }
  let s := (runningPart.sellingAt .a .m1 (starting false)).sellingAt .b .m2 (starting true)
  { s with
    now := 1500
    dle := { s.dle with motors :=
      (s.dle.motors.set .m1 ⟨.awaitingGrant, 0, none⟩).set .m2 ⟨.awaitingGrant, 0, none⟩ }
    psc := { s.psc with startQueue := [.m1, .m2], lastGrant := 0 }
    crg := { s.crg with st := .opened, counter := 1, session := some 1 } }

/-- The state with the gate changed, the session standing. -/
def contendedAt (f : Crg → Crg) : State := contended.mapCrg f

/-- The state of a point after a command. -/
def stAfter (o : Host.Outcome State Fault Refusal) (p : Point) : Option PointSt :=
  match o with
  | .next t => some (t.point p).st
  | .fault _ => none
  | .refused _ => none

/-- No invariant of the part forbids the state. -/
theorem contended_lawful : contended.runs = true ∧ contended.crg.lawful = true ∧ contended.holdsLawful = true
    ∧ contended.bindingsLawful = true ∧ contended.valvesLawful = true ∧ contended.pricesLawful = true := by decide +kernel

/-- Point B holds its meter in STARTING under an authorization bound to the session. -/
theorem contended_pointB : (contended.point .b).boundTo 1 = true ∧ (contended.point .b).st = .starting
    ∧ contended.heldBy .b = some .m2 ∧ (contended.point .b).current = some (boundRecord .m2) := by decide +kernel

/-- A session that ends here while point B goes on to FUELLING or SLOWING has not ended as `State.sessionEnded` says. -/
theorem not_sessionEnded_of_slowing {s t : State} {i : Instr} (hpoint : s.points = contended.points)
    (hdle : s.dle = contended.dle) (hexec : exec i s = .next t) (hst : stAfter (exec i s) .b = some .slowing) :
    ¬ s.sessionEnded t 1 := by
  intro h
  have hsame : s.point .b = contended.point .b := by rw [State.point, hpoint]; rfl
  have hheld : s.heldBy .b = contended.heldBy .b := State.heldBy_congr (by rw [hdle]) .b
  obtain ⟨hbound, hstarting, hmeter, hcurrent⟩ := contended_pointB
  obtain ⟨-, -, hstops, -⟩ := h .b (by rw [hsame, hbound])
  obtain ⟨hstopped, -⟩ := hstops .m2 _ (by rw [hsame, hstarting]) (by rw [hheld, hmeter]) (by rw [hsame, hcurrent])
  rw [hexec] at hst
  simp only [stAfter, hstopped, Option.some.injEq, reduceCtorEq] at hst

/-- Refutes O47: READER_OFF ends the session at point A first, whose stop withdraws its motor start request, so that point
B's motor is granted and its valves open; point B's authorization is consumed by then and its delivery goes on. -/
theorem not_gateRequestsAct : ¬ Obligations.GateRequestsAct := by
  intro h
  obtain ⟨hruns, hlawful, -⟩ := contended_lawful
  obtain ⟨-, hoff, -⟩ := h.1 contended hruns hlawful
  obtain ⟨t, hexec, -, -, -, -, -, hended, -⟩ := (hoff (by decide +kernel)).2 (by decide +kernel) (by decide +kernel)
  exact not_sessionEnded_of_slowing rfl rfl hexec (by decide +kernel) (hended 1 rfl)

/-- The state with the fourth miss counted and a poll's reply awaited. -/
def contendedMissing : State := contendedAt fun c => { c with miss := 4, exchange := some ⟨1500, false⟩ }

/-- Refutes O49: the fifth miss ends the session, with the outcome of `not_gateRequestsAct` at point B. -/
theorem not_missesAndViolations : ¬ Obligations.MissesAndViolations := by
  intro h
  obtain ⟨-, -, hlost, -⟩ := h.1 contendedMissing ⟨1500, false⟩ (by decide +kernel) (by decide +kernel) rfl rfl
  obtain ⟨t, hexec, -, -, -, -, -, -, hended, -⟩ := hlost (.inl rfl) (by decide)
  exact not_sessionEnded_of_slowing (s := contendedMissing) rfl rfl hexec (by decide +kernel) (hended 1 rfl)

/-- The state with the reply to a POLL awaited. -/
def contendedAwaiting : State := contendedAt fun c => { c with exchange := some ⟨1500, false⟩ }

/-- The bytes of a HELLO with an identity of zeros. -/
def helloBytes : List Byte :=
  let body : List Byte := 0x10 :: 0 :: 12 :: List.replicate 12 0
  body ++ crc16Bytes body

/-- Refutes O50: a HELLO in OPEN ends the session, with the outcome of `not_gateRequestsAct` at point B. -/
theorem not_goodPacketsTaken : ¬ Obligations.GoodPacketsTaken := by
  intro h
  obtain ⟨-, hopened, -⟩ := h.2 contendedAwaiting ⟨1500, false⟩ helloBytes ⟨.hello, false, .none, List.replicate 12 0⟩
    (by decide +kernel) (by decide +kernel) rfl rfl (by decide +kernel)
  obtain ⟨-, -, -, hhello, -⟩ := hopened 1 rfl rfl
  obtain ⟨⟨t, hexec, -, hended⟩, -⟩ := hhello rfl rfl
  exact not_sessionEnded_of_slowing (s := contendedAwaiting) (i := .readerReplyReceived helloBytes) rfl rfl hexec
    (by decide +kernel) hended

/-- Refutes O51: an assertion of the tamper line ends the session, with the outcome of `not_gateRequestsAct` at point B. -/
theorem not_attemptsAndTamper : ¬ Obligations.AttemptsAndTamper := by
  intro h
  obtain ⟨hruns, hlawful, -⟩ := contended_lawful
  obtain ⟨-, -, -, -, -, -, ⟨t, hexec, -, -, htamper⟩, -⟩ := h contended hruns hlawful
  obtain ⟨-, -, -, -, -, -, -, hended, -⟩ := htamper rfl
  exact not_sessionEnded_of_slowing rfl rfl hexec (by decide +kernel) (hended 1 rfl)

end Sys2Proof.Machine
end

section
/-! PROOFS. Family 4, the tables of the points (R47, R48) and READ_DELIVERY (R82). -/

namespace Sys2Proof.Machine

/-! ## The hose table (R47) -/

theorem exec_loadHoses (f : HoseTableFields) (s : State) : exec (.loadHoses f) s = execLoadHoses f s := rfl

theorem exec_readHoses (s : State) : exec .readHoses s = execReadHoses s := rfl

theorem PointSt.takesHoses_iff (st : PointSt) : st.takesHoses = true ↔ st ∈ [.closed, .idle, .finished] := by
  cases st <;> decide

/-- A request that changes CONFIG in a running part and nothing that a step or a drain reads. -/
theorem State.answered_table {s t : State} (hr : s.runs = true) (hcrg : t.crg = s.crg) (hpsc : t.psc = s.psc)
    (hpoints : t.points = s.points) (hrtm : t.rtm = s.rtm) (kind : Nat) (reply : List Byte) :
    s.answered kind (.acts t.touchConfig reply) = t.configChanged kind reply := by
  obtain ⟨-, hc, hd, hn⟩ := State.runs_iff.1 hr
  exact State.answered_config (State.noStepDue_congr (by rw [hcrg]) (by rw [hpsc]) hn) hpoints (by rw [hpsc])
    (by rw [hrtm, hc]) (by rw [hrtm, hd]) kind reply

/-- Settles O21: the request is judged by its entries and then by the states of both points; an accepted table is a change of
CONFIG and of nothing else. -/
theorem hoseTableLoads : Obligations.HoseTableLoads := by
  refine ⟨fun s f t hr ht htable => ?_, fun s ht => ?_⟩
  · rw [exec_loadHoses, execLoadHoses, State.request_taken ht, htable]
    simp only [orBadField, Bool.and_eq_true, PointSt.takesHoses_iff]
    split
    · exact congrArg _ (State.answered_table (t := { s with dle := { s.dle with hoses := t } }) hr rfl rfl rfl rfl _ _)
    · rfl
  · rw [exec_readHoses, execReadHoses, State.request_taken ht]
    rfl

/-! ## The point timings (R48) -/

theorem exec_loadPointTiming (n : Nat) (f : TimingFields) (s : State) :
    exec (.loadPointTiming n f) s = execLoadPointTiming n f s := rfl

theorem exec_readPointTiming (n : Nat) (s : State) : exec (.readPointTiming n) s = execReadPointTiming n s := rfl

theorem timingOf_of_ranges {f : TimingFields} (hq : 200 ≤ f.quiet ∧ f.quiet ≤ 5000) (hn : f.noFlow ≤ 300)
    (ha : f.authTimeout ≤ 3600) (hd : f.divider ≤ 65535) :
    timingOf f = some { quiet := f.quiet, noFlow := f.noFlow, authTimeout := f.authTimeout
                        divider := if f.divider = 0 then 65536 else f.divider } := by
  simp only [timingOf, inRange_of_mem hq, inRange_of_mem ⟨Nat.zero_le _, hn⟩, inRange_of_mem ⟨Nat.zero_le _, ha⟩,
    inRange_of_mem ⟨Nat.zero_le _, hd⟩]
  rfl

/-- Two bytes carry a number modulo 65,536 (R197). -/
theorem u16_mod (n : Nat) : u16 (n % 65536) = u16 n := by
  have hlow : BitVec.ofNat 8 (n % 65536) = BitVec.ofNat 8 n := BitVec.eq_of_toNat_eq (by simp)
  have hhigh : BitVec.ofNat 8 (n % 65536 / 256) = BitVec.ofNat 8 (n / 256) := BitVec.eq_of_toNat_eq (by simp; omega)
  rw [u16, u16, hlow, hhigh]

/-- Settles O22: fields in range are a record, which replaces that of the point alone; what is read back is the record, its
divider in two bytes. -/
theorem pointTimingLoads : Obligations.PointTimingLoads := by
  refine ⟨fun s n f p hr ht hp hq hq' hn ha hd => ?_, fun s n p ht hp => ?_⟩
  · rw [exec_loadPointTiming, execLoadPointTiming, State.request_taken ht, hp]
    simp only [orBadField, timingOf_of_ranges ⟨hq, hq'⟩ hn ha hd]
    exact congrArg _ (State.answered_table (t := { s with dle := { s.dle with timings := s.dle.timings.set p _ } })
      hr rfl rfl rfl rfl _ _)
  · rw [exec_readPointTiming, execReadPointTiming, State.request_taken ht, hp]
    simp only [orBadField, State.answered_only, okReply, PointTiming.bytes, u16_mod, List.append_assoc]
    rfl

/-! ## READ_DELIVERY (R82) -/

theorem exec_readDelivery (n k : Nat) (s : State) : exec (.readDelivery n k) s = execReadDelivery n k s := rfl

/-- An authorization is 24 bytes (11.3). -/
theorem Authorization.bytes_length (a : Authorization) : a.bytes.length = 24 := rfl

theorem optionBytes_length {α : Type} (width : Nat) (f : α → List Byte) (hf : ∀ x, (f x).length = width) (x : Option α) :
    (optionBytes width f x).length = 1 + width := by
  cases x <;> simp [optionBytes, u8, hf, Nat.add_comm]

/-- The finish time of a record in its six bytes, zeros where there is none (11.3). -/
def finishBytes (t : Option Stamp) : List Byte :=
  match t with
  | some t => t.bytes
  | none => List.replicate 6 0

theorem finishBytes_length (t : Option Stamp) : (finishBytes t).length = 6 := by cases t <;> rfl

/-- The bytes of a record between its sequence number and its snapshot (11.3). -/
def DeliveryRecord.saleBytes (r : DeliveryRecord) : List Byte :=
  u8 r.position.number ++ u8 r.grade.number ++ u8 r.meter.number ++ u16 r.generation ++ u8 r.level.number
    ++ u16 r.price ++ u16 r.q ++ u8 r.rounding.number ++ u16 r.slowDown ++ flagBytes r.vapour
    ++ u8 (presenceBits r.preset r.amountLimit r.volumeLimit r.session + flagBit r.cause.isSome 4
        + flagBit r.finish.isSome 5)
    ++ authFieldBytes r.preset r.amountLimit r.volumeLimit r.session
    ++ u32 r.target ++ u8 r.source.number ++ u32 r.nSlow ++ u32 r.nStop ++ u16 r.quiet ++ u16 r.noFlow

theorem DeliveryRecord.saleBytes_length (r : DeliveryRecord) : r.saleBytes.length = 47 := by
  simp only [DeliveryRecord.saleBytes, flagBytes, authFieldBytes, u8, u16, u32, List.length_append, List.length_cons,
    List.length_nil]

/-- A record in its places (11.3). -/
theorem DeliveryRecord.bytes_eq (r : DeliveryRecord) : r.bytes =
    u16 r.seq ++ r.saleBytes ++ u32 r.snapshot.toNat ++ signedBytes r.net ++ u16 r.reverse ++ u32 r.volume
      ++ u32 r.amount ++ u8 (optNumber StopCause.number r.cause) ++ u8 r.flags.byte ++ r.start.bytes
      ++ finishBytes r.finish ++ u32 r.pulses ++ u8 (if r.final then 1 else 0) := by
  unfold DeliveryRecord.bytes DeliveryRecord.saleBytes finishBytes flagBytes
  simp only [List.append_assoc] <;> rfl

/-- The places of a record's items (11.3). -/
theorem DeliveryRecord.bytes_places (r : DeliveryRecord) :
    r.bytes.length = 86 ∧ r.bytes.take 2 = u16 r.seq ∧ (r.bytes.drop 49).take 4 = u32 r.snapshot.toNat
      ∧ (r.bytes.drop 59).take 4 = u32 r.volume ∧ (r.bytes.drop 63).take 4 = u32 r.amount
      ∧ (r.bytes.drop 68).take 1 = u8 r.flags.byte ∧ r.bytes.drop 85 = u8 (if r.final then 1 else 0) := by
  have hsale := r.saleBytes_length
  have hfinish := finishBytes_length r.finish
  rw [r.bytes_eq]
  simp [u8, u16, u32, signedBytes, Stamp.bytes, hsale, hfinish, List.drop_append, List.take_append, List.drop_eq_nil_of_le]

/-- Settles O31: the record named is looked up, and its reply is 31 bytes of the point before the bytes of the record. -/
theorem readDeliveryAnswers : Obligations.ReadDeliveryAnswers := by
  refine ⟨fun s n k p ht hp => ?_, DeliveryRecord.bytes_places⟩
  have hexec (answer : Answer) (h : execReadDelivery n k s = s.request (.readDelivery n k) answer) :
      exec (.readDelivery n k) s = .next (s.answered 0x18 answer) := by
    rw [exec_readDelivery, h, State.request_taken ht]
    rfl
  refine ⟨fun hk hnone => ?_, fun r hk hsome => ?_, fun hk => ?_⟩
  · rw [hexec (.only (emptyReply [])) (by rcases hk with rfl | rfl <;> simp_all [execReadDelivery, orBadField])]
    rfl
  · rw [hexec (.only (okReply (s.deliveryReply p r))) (by rcases hk with rfl | rfl <;> simp_all [execReadDelivery, orBadField])]
    have hauth := optionBytes_length 24 Authorization.bytes Authorization.bytes_length (s.point p).auth
    obtain ⟨hlength, -⟩ := r.bytes_places
    refine ⟨_, rfl, ?_, ?_, ?_⟩ <;>
      simp [okReply, State.deliveryReply, u8, u16, hauth, hlength]
  · have hother : k ≠ 1 ∧ k ≠ 2 := by omega
    rw [hexec (refuse .badField) (by simp [execReadDelivery, orBadField, hp, hother])]
    rfl

end Sys2Proof.Machine
end

section
/-! PROOFS. Family 4, the end of an event that moves little, lifts and hangs that the point's state answers at once (R54, R56),
the opening of the valves (R63), and the timers of points and motors (R62, R67, R74, R176). -/

namespace Sys2Proof.Machine

/-! ## The end of an event -/

section
variable {s t : State} (hr : s.runs = true)
include hr

/-- An event that leaves the gate, the power controller, the points and the retained memory as they were is whole. -/
theorem State.settle_same (hcrg : t.crg = s.crg) (hpsc : t.psc = s.psc) (hpoints : t.points = s.points)
    (hrtm : t.rtm = s.rtm) : t.settle s = t := by
  obtain ⟨-, hc, hd, hn⟩ := State.runs_iff.1 hr
  exact State.settle_plain (State.noStepDue_congr (by rw [hcrg]) (by rw [hpsc]) hn) hpoints (by rw [hpsc])
    (by rw [hrtm, hc]) (by rw [hrtm, hd])

/-- An event that ends no sale and changes nothing retained is whole. -/
theorem State.settle_unretained (hcrg : t.crg = s.crg)
    (hpsc : t.psc = { s.psc with startQueue := t.psc.startQueue, lastGrant := t.psc.lastGrant })
    (hsell : ∀ p, (s.point p).st.selling = true → (t.point p).st.selling = true) (hrtm : t.rtm = s.rtm) :
    t.settle s = t := by
  obtain ⟨-, hc, hd, -⟩ := State.runs_iff.1 hr
  rw [State.settle_eq_commit hr hcrg hpsc hsell, State.commit_clean (by rw [hrtm, hc]) (by rw [hrtm, hd])]

end

/-- A point that changes among states of no sale ends none. -/
theorem State.mapPoint_selling {s : State} {p : Point} {f : PointData → PointData}
    (h : (s.point p).st.selling = true → (f (s.point p)).st.selling = true) (q : Point)
    (hq : (s.point q).st.selling = true) : ((s.mapPoint p f).point q).st.selling = true :=
  (State.Moves.mapPoint s p f h).selling q hq

/-! ## A lift that is refused (R54) -/

theorem State.anotherUp_eq_false (s : State) (p : Point) (k : Position) :
    s.anotherUp p k = false ↔ ∀ j : Position, j ≠ k → s.up p j = false := by
  simp only [State.anotherUp, List.any_eq_false, Bool.and_eq_true, decide_eq_true_eq, not_and, Bool.not_eq_true]
  exact ⟨fun h j => h j (by cases j <;> decide), fun h j _ => h j⟩

theorem State.unusable_eq_false (s : State) (m : Meter) : s.unusable m = false ↔
    (s.channel m).record.present = true ∧ (s.channel m).fault = false ∧ (s.channel m).valveFault = false := by
  simp [State.unusable, and_assoc]

/-- A refused lift of an AUTHORIZED point moves the switch and posts its reason (R54). -/
theorem exec_nozzleLift_refused {s : State} {p : Point} {k : Position} {a : Authorization} {reason : LiftRefusal}
    (hr : s.runs = true) (hup : s.up p k = false) (hst : (s.point p).st = .authorized) (ha : (s.point p).auth = some a)
    (h : s.liftRefusal p a k = some reason) : exec (.nozzleLift p k none) s =
      .next ((s.moveNozzle p k true).post (.point p) (.nozzleRefused k reason)) := by
  have hlift : (s.moveNozzle p k true).lift p k =
      (s.moveNozzle p k true).post (.point p) (.nozzleRefused k reason) := by
    have hst' : ((s.moveNozzle p k true).point p).st = .authorized := hst
    have ha' : ((s.moveNozzle p k true).point p).auth = some a := ha
    have hrefusal : (s.moveNozzle p k true).liftRefusal p a k = some reason := by
      rw [(State.SameLift.alone s p k).liftRefusal, h]
    simp only [State.lift, hst', State.judgeLift, ha', hrefusal]
  rw [exec_nozzleLift_alone hr hup, hlift]
  exact congrArg _ (State.settle_same hr rfl rfl rfl rfl)

/-- Settles O24: the reasons of R54 are the branches of the judgement, in its order. -/
theorem liftRefusedInOrder : Obligations.LiftRefusedInOrder := by
  intro s p k a hr hup hst ha
  have hrefused (reason : LiftRefusal) (h : s.liftRefusal p a k = some reason) :=
    exec_nozzleLift_refused hr hup hst ha h
  have hshut (h : ¬ ((s.ptu.entry (s.point p).generation (s.hose p k).grade).price a.level ≠ 0
      ∧ s.displayCloses p (s.hose p k).grade = false)) :
      (s.ptu.entry (s.point p).generation (s.hose p k).grade).price a.level = 0
        ∨ s.displayCloses p (s.hose p k).grade = true := by
    simpa [or_iff_not_imp_left] using h
  have hnotShut (h : (s.ptu.entry (s.point p).generation (s.hose p k).grade).price a.level ≠ 0
      ∧ s.displayCloses p (s.hose p k).grade = false) :
      ¬ ((s.ptu.entry (s.point p).generation (s.hose p k).grade).price a.level = 0
        ∨ s.displayCloses p (s.hose p k).grade = true) := by
    simpa using h
  refine ⟨fun he => hrefused _ ?_, fun he hp => hrefused _ ?_, fun he hp ho => hrefused _ ?_,
    fun he hp ho hu => hrefused _ ?_, fun he hp ho hu ha => hrefused _ ?_, fun he hp ho hu ha ht => hrefused _ ?_⟩ <;>
    unfold State.liftRefusal maskPermits
  · simp [he]
  · simp [he, hp]
  · simp only [he, hp, hshut ho, Bool.not_true, Bool.false_eq_true, if_false, if_true]
  · rw [← State.unusable_eq_false, Bool.not_eq_false] at hu
    simp only [he, hp, hnotShut ho, hu, Bool.not_true, Bool.false_eq_true, if_false, if_true]
  · rw [← State.unusable_eq_false] at hu
    rw [← State.anotherUp_eq_false, Bool.not_eq_false] at ha
    simp only [he, hp, hnotShut ho, hu, ha, Bool.not_true, Bool.false_eq_true, if_false, if_true]
  · rw [← State.unusable_eq_false] at hu
    rw [← State.anotherUp_eq_false] at ha
    simp only [he, hp, hnotShut ho, hu, ha, ht, Bool.not_true, Bool.false_eq_true, if_false, if_true]

/-! ## The opening of the valves (R63) -/

/-- The valves of a delivery on a meter open at full flow: it has a slow-down count whose compare has not fired. -/
def State.opensFull (s : State) (m : Meter) (r : DeliveryRecord) : Bool :=
  decide (r.nSlow ≠ 0) && !hasFired (s.channel m).slow

theorem State.opensFull_iff (s : State) (m : Meter) (r : DeliveryRecord) : s.opensFull m r = true ↔
    r.nSlow ≠ 0 ∧ ∀ k, (s.channel m).slow = some k → k.fired = false := by
  cases h : (s.channel m).slow <;> simp [State.opensFull, hasFired, h]

/-- The point of a delivery whose valves have opened at a moment: its authorization is consumed (R63, R67). -/
def PointData.opened (d : PointData) (full : Bool) (r : DeliveryRecord) (now : Nat) : PointData :=
  { d with st := if full then .fuelling else .slowing, auth := none, authDue := none
           noFlowDue := if r.noFlow = 0 then none else some (now + 1000 * r.noFlow) }

theorem State.commandValves_eq (s : State) (m : Meter) (x y : Bool) :
    s.commandValves m x y = { s with miu := (s.commandValves m x y).miu } := by
  unfold State.commandValves
  dsimp only
  split <;> rfl

section
variable (s : State) (p : Point) (m : Meter) (r : DeliveryRecord)

theorem State.openValves_eq : s.openValves p m r =
    ((((({ s with miu := (s.commandValves m (s.opensFull m r) true).miu } : State).mapPoint p
      (·.opened (s.opensFull m r) r s.now)).mapPou p (·.valvesOpen)).touchDeliveries).post (.point p)
      (startedReport r (s.opensFull m r))) := by
  unfold State.openValves
  dsimp only
  rw [State.commandValves_eq]
  rfl

theorem State.openValves_point (q : Point) : (s.openValves p m r).point q =
    if q = p then (s.point p).opened (s.opensFull m r) r s.now else s.point q := by
  simp [State.openValves_eq, State.point]

theorem State.openValves_channel (j : Meter) : (s.openValves p m r).channel j =
    (s.commandValves m (s.opensFull m r) true).channel j := by
  rw [State.openValves_eq]
  rfl

theorem State.openValves_pou : ((s.openValves p m r).pou.get p).generating = (s.pou.get p).vapour := by
  simp [State.openValves_eq, Pou.valvesOpen]

/-- The valves of a point open, at full flow or on SLOW alone (R63). -/
theorem State.openValves_opens : (((s.openValves p m r).point p).auth = none
    ∧ ((s.openValves p m r).channel m).slowOpen = true)
    ∧ (s.opensFull m r = true → ((s.openValves p m r).point p).st = .fuelling
        ∧ ((s.openValves p m r).channel m).mainOpen = true)
    ∧ (s.opensFull m r = false → ((s.openValves p m r).point p).st = .slowing
        ∧ ((s.openValves p m r).channel m).mainOpen = false) := by
  obtain ⟨hmain, hslow⟩ := s.commandValves_commands m (s.opensFull m r) true
  rw [State.openValves_point, if_pos rfl, State.openValves_channel]
  refine ⟨⟨rfl, hslow⟩, fun h => ?_, fun h => ?_⟩ <;> exact ⟨by rw [h]; rfl, by rw [hmain, h]⟩

end

/-- The test of the valve opening at a holder with a record (R63). -/
theorem State.tryOpen_eq {s : State} {p : Point} {m : Meter} {r : DeliveryRecord} (hheld : s.heldBy p = some m)
    (hcur : (s.point p).current = some r) : s.tryOpen p =
      if (s.point p).st = .starting ∧ (s.point p).zeroPassed = true ∧ s.runUpDone m = true ∧ s.good .valveSupply = true then
        s.openValves p m r
      else s := by
  simp only [State.tryOpen, hheld, hcur]

theorem exec_runUpElapsed {s : State} {m : Meter} (hr : s.runs = true) (hst : (s.motor m).st = .running) :
    exec (.runUpElapsed m) s =
      .next (((s.reach ((s.motor m).onSince + (s.channel m).record.runUp)).tryOpenHolder m).settle s) := by
  have hexec : exec (.runUpElapsed m) s = execRunUpElapsed m s := rfl
  rw [hexec, execRunUpElapsed, if_pos hst]
  exact State.event_some (State.powered_of_runs hr)

/-- Settles O34: at the end of the run-up the motor has been on for its run-up time, so that the opening turns on the zero
check and the valve supply alone. -/
theorem runUpOpensValves : Obligations.RunUpOpensValves := by
  intro s p m r hr hmotor hholder hheld hst hcur
  dsimp only
  rw [exec_runUpElapsed hr hmotor]
  generalize hv : s.reach ((s.motor m).onSince + (s.channel m).record.runUp) = v
  have hnow : v.now = max s.now ((s.motor m).onSince + (s.channel m).record.runUp) := by rw [← hv]; rfl
  have hdone : v.runUpDone m = true := by
    have hmotor' : v.motor m = s.motor m := by rw [← hv]; rfl
    have hrunUp : (v.channel m).record.runUp = (s.channel m).record.runUp := by rw [← hv]; rfl
    simp only [State.runUpDone, hmotor', hmotor, hrunUp, hnow, Bool.and_eq_true, decide_eq_true_eq]
    exact ⟨trivial, le_max_right _ _⟩
  have hpoint (q : Point) : v.point q = s.point q := by rw [← hv]; rfl
  have hchan (j : Meter) : v.channel j = s.channel j := by rw [← hv]; rfl
  have hpou : v.pou = s.pou := by rw [← hv]; rfl
  have hgood : v.good .valveSupply = s.good .valveSupply := by rw [← hv]; rfl
  have hcrg : v.crg = s.crg := by rw [← hv]; rfl
  have hpsc : v.psc = s.psc := by rw [← hv]; rfl
  have hdle : v.dle = s.dle := by rw [← hv]; rfl
  have hheld' : v.heldBy p = some m := (State.heldBy_congr (by rw [hdle]) p).trans hheld
  have hopen : v.tryOpenHolder m = if (v.point p).st = .starting ∧ (v.point p).zeroPassed = true ∧ v.runUpDone m = true
      ∧ v.good .valveSupply = true then v.openValves p m r else v := by
    rw [← State.tryOpen_eq hheld' (by rw [hpoint, hcur])]
    simp only [State.tryOpenHolder, hdle, hholder]
  rw [hopen, hpoint, hgood, hdone]
  refine ⟨fun hzero hsupply => ?_, fun hfails => ?_⟩
  · rw [if_pos ⟨hst, hzero, rfl, hsupply⟩]
    have hgrants := State.Grants.openValves (s := v) (p := p) (m := m) ⟨by rw [hpoint, hst], by rw [hpoint, hzero],
      by rw [hheld']; rfl⟩ (by rw [hdle, hholder]) r
    have hgpsc := hgrants.psc
    rw [hpsc] at hgpsc
    rw [State.settle_eq_commit hr (by simp [hcrg]) hgpsc fun q hq =>
      hgrants.selling q (by rw [hpoint]; exact hq)]
    obtain ⟨⟨hauth, hslow⟩, hfull, hslowOnly⟩ := v.openValves_opens p m r
    have hfullIff := v.opensFull_iff m r
    rw [hchan] at hfullIff
    refine ⟨_, rfl, ?_, by simpa using hauth, by simpa using hslow, fun h => ?_, fun h => ?_, ?_, ?_, ?_, ?_, ?_, fun j hj => ?_⟩
    · simp [hnow]
    · simpa using hfull (hfullIff.2 h)
    · simpa using hslowOnly (Bool.eq_false_iff.2 (mt hfullIff.1 h))
    · rw [State.commit_point, State.openValves_point, if_pos rfl, ← hnow]
      rfl
    · rw [State.commit_point, State.openValves_point, if_pos rfl, ← hcur, ← hpoint]
      rfl
    · simpa [hpou] using v.openValves_pou p m r
    · rw [State.commit_eq, State.openValves_eq, ← hv]
      rfl
    · rw [State.commit_point, State.openValves_point, if_neg (Point.other_ne p), hpoint]
    · rw [State.commit_channel, State.openValves_channel, (v.commandValves_channel m j _ true).1 hj, hchan]
  · rw [if_neg (by rcases hfails with h | h <;> simp [h]), State.settle_same hr hcrg hpsc (by rw [← hv]; rfl) (by rw [← hv]; rfl),
      ← hv]
    rfl

end Sys2Proof.Machine
end

section
/-! PROOFS. Family 4, the motors and their start queue (R62, R176). -/

namespace Sys2Proof.Machine

theorem exec_startSpacingElapsed (s : State) : exec .startSpacingElapsed s =
    s.event (if s.psc.startQueue = [] then none
      else some (s.reach (s.psc.lastGrant + s.psc.spacing)).testStartQueue) := rfl

theorem exec_runOnExpiry (s : State) (m : Meter) : exec (.runOnExpiry m) s =
    s.event ((s.motor m).runOnDue.map fun t =>
      (s.reach t).setMotor m { s.motor m with st := .off, runOnDue := none }) := rfl

/-- A test of the queue at a spacing of 1 ms or more grants the head alone (R176). -/
theorem State.testStartQueue_cons {s : State} {m : Meter} {rest : List Meter} (h : s.psc.startQueue = m :: rest)
    (hdue : s.psc.lastGrant + s.psc.spacing ≤ s.now) (hspacing : 1 ≤ s.psc.spacing) :
    s.testStartQueue = s.grant m rest := by
  have hnot : (s.grant m rest).grantDue = false := by
    rw [State.grantDue, (s.grant_eq m rest).1, (s.grant_frame m rest).1]
    exact decide_eq_false (by simp only; omega)
  exact (State.testHead_cons h (decide_eq_true hdue) 3).trans (State.testHead_of_not_due hnot 3)

/-- Settles O35: the head's grant restarts the spacing, so that a spacing of 1 ms or more holds the next head back. -/
theorem motorsGrantedAndStopped : Obligations.MotorsGrantedAndStopped := by
  refine ⟨fun s m rest hr hqueue hspacing => ?_, fun s hqueue => ?_, fun s m due hr hdue => ?_, fun s m hdue => ?_⟩
  · have hpowered := State.powered_of_runs hr
    rw [exec_startSpacingElapsed, if_neg (by simp [hqueue]), State.event_some hpowered]
    generalize hv : s.reach (s.psc.lastGrant + s.psc.spacing) = v
    have hvnow : v.now = max s.now (s.psc.lastGrant + s.psc.spacing) := by rw [← hv]; rfl
    have hvpsc : v.psc = s.psc := by rw [← hv]; rfl
    have hvdle : v.dle = s.dle := by rw [← hv]; rfl
    have hvcrg : v.crg = s.crg := by rw [← hv]; rfl
    have hvrest : v.pins = s.pins ∧ v.ptu = s.ptu ∧ v.ddu = s.ddu ∧ v.display = s.display := by
      rw [← hv]; exact ⟨rfl, rfl, rfl, rfl⟩
    have hvpoint : ∀ p, v.point p = s.point p := fun p => by rw [← hv]; rfl
    have hvqueue : v.psc.startQueue = m :: rest := by rw [hvpsc, hqueue]
    have hdue : v.psc.lastGrant + v.psc.spacing ≤ v.now := by rw [hvpsc, hvnow]; exact le_max_right _ _
    rw [State.testStartQueue_cons hvqueue hdue (by rw [hvpsc]; exact hspacing)]
    obtain ⟨hpsc, hdle⟩ := v.grant_eq m rest
    obtain ⟨hnow, hframe⟩ := v.grant_frame m rest
    rw [hvpsc, hvnow] at hpsc
    rw [hvdle, hvnow] at hdle
    rw [State.settle_eq_commit hr (by simp [hvcrg]) (by rw [hpsc]) fun p hp =>
      (State.Grants.grant v m rest).selling p (by rw [hvpoint]; exact hp)]
    have hmotor (j : Meter) : (v.grant m rest).motor j =
        if j = m then ⟨.running, max s.now (s.psc.lastGrant + s.psc.spacing), none⟩ else s.motor j := by
      rw [State.motor, hdle, Quad.get_set]
      rfl
    refine ⟨_, rfl, ?_⟩
    simp only [State.commit_frame, State.motor] at hmotor ⊢
    simp +contextual [hpsc, hdle, hvnow, hvrest, hvcrg]
  · rw [exec_startSpacingElapsed, if_pos hqueue]
    rfl
  · rw [exec_runOnExpiry, hdue, Option.map_some, State.event_some (State.powered_of_runs hr)]
    exact congrArg _ (State.settle_same hr rfl rfl rfl rfl)
  · rw [exec_runOnExpiry, hdue]
    rfl

end Sys2Proof.Machine
end

section
/-! PROOFS. Family 4, entries to the free states (R38, R57), the end of an answered request (R97, R184), CLEAR (R72), the hang of
an active nozzle and the no-flow expiry (R56, R67), and AUTHORIZE (R50). -/

namespace Sys2Proof.Machine

/-! ## Entries to the free states -/

/-- A point that has entered IDLE, and gone on to CALLING where a nozzle is up, on the newest generation (R38, R57). -/
def PointData.freed (d : PointData) (up : Option Position) (newest : Nat) : PointData :=
  { d.toFree (if up.isSome then .calling else .idle) with position := up, generation := newest }

theorem State.lowestUp_congr {s t : State} (h : t.pins = s.pins) (p : Point) : t.lowestUp p = s.lowestUp p := by
  have hup : t.up p = s.up p := funext fun k => by rw [State.up, h]; rfl
  rw [State.lowestUp, hup]
  rfl

section
variable (s : State) (p : Point)

theorem State.enterIdle_point (q : Point) :
    (s.enterIdle p).point q = if q = p then (s.point p).freed (s.lowestUp p) s.ptu.newest else s.point q := by
  have hadopt (q : Point) : ((s.mapPoint p (·.toFree .idle)).adopt p).point q =
      if q = p then { (s.point p).toFree .idle with generation := s.ptu.newest } else s.point q := by
    rw [State.adopt_point, State.point_mapPoint, State.point_mapPoint, if_pos rfl]
    split <;> rfl
  have hup : ((s.mapPoint p (·.toFree .idle)).adopt p).lowestUp p = s.lowestUp p :=
    State.lowestUp_congr (by simp) p
  unfold State.enterIdle State.callIfUp
  rw [hup]
  cases s.lowestUp p with
  | none => exact hadopt q
  | some k =>
    dsimp only
    have hcall (u : State) : ((u.mapPoint p fun d => { d with st := .calling, position := some k }).post (.point p)
        (.nozzleCall k false false)).point q = if q = p then { u.point p with st := .calling, position := some k }
          else u.point q := by simp [State.point]
    rw [hcall, hadopt, hadopt, if_pos rfl]
    split <;> rfl

theorem State.retire_eq : s.retire = { s with ptu := s.retire.ptu, rtm := s.retire.rtm } := by
  unfold State.retire
  split <;> rfl

theorem State.adopt_eq : s.adopt p = { s with
    hlp := (s.adopt p).hlp, points := (s.adopt p).points, ptu := (s.adopt p).ptu, rtm := (s.adopt p).rtm } := by
  unfold State.adopt
  dsimp only
  split
  · rfl
  · rw [State.retire_eq]
    rfl

/-- The entry to IDLE moves its point, the published prices and the report queue alone (R38, R57). -/
theorem State.enterIdle_eq : s.enterIdle p = { s with
    hlp := (s.enterIdle p).hlp, points := (s.enterIdle p).points, ptu := (s.enterIdle p).ptu
    rtm := (s.enterIdle p).rtm } := by
  unfold State.enterIdle State.callIfUp
  rw [State.adopt_eq]
  split <;> rfl

theorem State.enterClosed_point (q : Point) : (s.enterClosed p).point q =
    if q = p then { (s.point p).toFree .closed with generation := s.ptu.newest } else s.point q := by
  rw [State.enterClosed, State.adopt_point, State.point_mapPoint, State.point_mapPoint, if_pos rfl]
  split <;> rfl

theorem State.enterClosed_eq : s.enterClosed p = { s with
    hlp := (s.enterClosed p).hlp, points := (s.enterClosed p).points, ptu := (s.enterClosed p).ptu
    rtm := (s.enterClosed p).rtm } := by
  unfold State.enterClosed
  rw [State.adopt_eq]
  rfl

/-- On the newest generation with no nozzle up, the entry to IDLE is the point's alone. -/
theorem State.enterIdle_plain (hnewest : (s.point p).generation = s.ptu.newest) (hup : s.lowestUp p = none) :
    s.enterIdle p = s.mapPoint p (·.toFree .idle) := by
  have hadopt : (s.mapPoint p (·.toFree .idle)).adopt p = s.mapPoint p (·.toFree .idle) := by
    unfold State.adopt
    rw [if_pos]
    rw [State.point_mapPoint, if_pos rfl]
    exact hnewest
  have hup' : (s.mapPoint p (·.toFree .idle)).lowestUp p = none := hup
  rw [State.enterIdle, hadopt, State.callIfUp, hup']

end

/-! ## The end of an event that frees points -/

/-- An event after which every selling point still sells completes no drain (R169). -/
theorem State.drainTest_of_kept {s t : State} (hpower : t.psc.power = s.psc.power)
    (hsell : ∀ p, (s.point p).st.selling = true → (t.point p).st.selling = true) : t.drainTest s = t := by
  unfold State.drainTest
  rw [if_neg]
  rintro ⟨hdraining, hidle, hs | hs⟩
  · exact hs (hpower ▸ hdraining)
  · simp only [State.anySelling, List.any_eq_true] at hs
    obtain ⟨p, -, hp⟩ := hs
    have hnone := State.selling_of_anySelling hidle p
    rw [hsell p hp] at hnone
    cases hnone

/-! ## Answered requests (R97, R184) -/

theorem State.respond_eq (s : State) (kind : Nat) (reply : List Byte) : s.respond kind reply =
    { s with hlp := (s.respond kind reply).hlp, rtm := (s.respond kind reply).rtm } := by
  rw [State.respond, State.commit_eq]
  rfl

theorem State.respond_answer (s : State) (kind : Nat) (reply : List Byte) :
    (s.respond kind reply).answer? = some (kind, reply) := by
  have hhlp : (s.respond kind reply).hlp = (s.hlp.heard s.now).handReply kind reply
      (writesAwaited s.rtm.dirtyConfig s.rtm.config.inFlight.isSome)
      (writesAwaited s.rtm.dirtyDeliveries s.rtm.deliveries.inFlight.isSome) := by
    simp [State.respond]
  rw [State.answer?, hhlp, Hlp.handReply, Option.bind_some]
  split <;> rfl

/-- With nothing to hand to the RTM, the reply is sent at once (R184). -/
theorem State.respond_clean {s : State} (hc : s.rtm.dirtyConfig = false) (hd : s.rtm.dirtyDeliveries = false) (kind : Nat)
    (reply : List Byte) : s.respond kind reply = s.replies kind reply := by
  unfold State.respond
  rw [State.commit_clean (by simpa using hc) (by simpa using hd)]
  simp only [hc, hd, writesAwaited]
  rfl

section
variable {s t : State} (hr : s.runs = true) (hcrg : t.crg = s.crg)
  (hpsc : t.psc = { s.psc with startQueue := t.psc.startQueue, lastGrant := t.psc.lastGrant })
include hr hcrg hpsc

/-- An answered request that leaves the gate, and of the power controller all but the start queue, starts no step. -/
theorem State.answered_eq_drain (kind : Nat) (reply : List Byte) :
    s.answered kind (.acts t reply) = (t.drainTest s).respond kind reply := by
  obtain ⟨-, -, -, hn⟩ := State.runs_iff.1 hr
  have hchecking : t.psc.checking .readerOpen = s.psc.checking .readerOpen := by rw [hpsc]; rfl
  simp only [State.answered, State.gateNotice_of_noStepDue (State.noStepDue_congr (by rw [hcrg]) hchecking hn)]

/-- An answered request after which every selling point still sells. -/
theorem State.answered_eq_respond (hsell : ∀ p, (s.point p).st.selling = true → (t.point p).st.selling = true) (kind : Nat)
    (reply : List Byte) : s.answered kind (.acts t reply) = t.respond kind reply := by
  rw [State.answered_eq_drain hr hcrg hpsc, State.drainTest_of_kept (by rw [hpsc]) hsell]

/-- An answered request in RUN that changes nothing retained is sent its reply at once. -/
theorem State.answered_run (hrun : s.psc.power = .run) (hrtm : t.rtm = s.rtm) (kind : Nat) (reply : List Byte) :
    s.answered kind (.acts t reply) = t.replies kind reply := by
  obtain ⟨-, hc, hd, -⟩ := State.runs_iff.1 hr
  rw [State.answered_eq_drain hr hcrg hpsc, State.drainTest_of_power (by rw [hpsc]; simp [hrun]),
    State.respond_clean (by rw [hrtm, hc]) (by rw [hrtm, hd])]

end

/-! ## CLEAR (R72) -/

theorem exec_clear (n x k : Nat) (s : State) : exec (.clear n x k) s = execClear n x k s := rfl

/-- A CLEAR of a named point with a lawful presence byte is refused or clears the record (R72, R198). -/
theorem exec_clear_taken {s : State} {n x k : Nat} {p : Point} (ht : s.takes (.clear n x k) = true)
    (hp : Point.ofNumber n = some p) (hx : x ≤ 1) : exec (.clear n x k) s = .next (s.answered 0x16
      (if (s.point p).st ≠ .finished ∨ (x = 1 ∧ (s.point p).otherSequence k) then refuse .wrongState
        else .acts (s.clearRecord p) (okReply []))) := by
  rw [exec_clear, execClear, State.request_taken ht, hp]
  simp only [orBadField, inRange_of_mem ⟨Nat.zero_le x, hx⟩]
  rfl

/-- The point of a record that has become the previous one (R72). -/
def PointData.cleared (d : PointData) : PointData :=
  { d with previous := d.current, current := none, saleTable := none, figuresAt := none }

section
variable (s : State) (p : Point)

theorem State.clearRecord_of_open (hopen : s.pointsOpen = true) :
    s.clearRecord p = ((s.mapPoint p (·.cleared)).touchDeliveries).enterIdle p := by
  have hopen' : ((s.mapPoint p (·.cleared)).touchDeliveries).pointsOpen = true := hopen
  have heq : s.clearRecord p = ((s.mapPoint p (·.cleared)).touchDeliveries).enterFree p := rfl
  rw [heq, State.enterFree, if_pos hopen']

theorem State.clearRecord_of_shut (hopen : s.pointsOpen = false) :
    s.clearRecord p = ((s.mapPoint p (·.cleared)).touchDeliveries).enterClosed p := by
  have hopen' : ((s.mapPoint p (·.cleared)).touchDeliveries).pointsOpen = false := hopen
  have heq : s.clearRecord p = ((s.mapPoint p (·.cleared)).touchDeliveries).enterFree p := rfl
  rw [heq, State.enterFree, if_neg (by simp [hopen'])]

theorem State.clearRecord_point (q : Point) : (s.clearRecord p).point q = if q = p then
      (if s.pointsOpen then (s.point p).cleared.freed (s.lowestUp p) s.ptu.newest
        else { (s.point p).cleared.toFree .closed with generation := s.ptu.newest })
    else s.point q := by
  have hcleared (q : Point) : ((s.mapPoint p (·.cleared)).touchDeliveries).point q =
      if q = p then (s.point p).cleared else s.point q := by simp [State.point]
  cases hopen : s.pointsOpen with
  | true =>
    rw [State.clearRecord_of_open s p hopen, State.enterIdle_point, hcleared, hcleared, if_pos rfl]
    split <;> rfl
  | false =>
    rw [State.clearRecord_of_shut s p hopen, State.enterClosed_point, hcleared, hcleared, if_pos rfl]
    split <;> rfl

theorem State.clearRecord_eq : s.clearRecord p = { s with
    hlp := (s.clearRecord p).hlp, points := (s.clearRecord p).points, ptu := (s.clearRecord p).ptu
    rtm := (s.clearRecord p).rtm } := by
  cases hopen : s.pointsOpen with
  | true => rw [State.clearRecord_of_open s p hopen, State.enterIdle_eq]; rfl
  | false => rw [State.clearRecord_of_shut s p hopen, State.enterClosed_eq]; rfl

end

/-- Settles O29: a FINISHED point sells nothing before or after CLEAR, so that no drain completes with it. -/
theorem clearMovesRecord : Obligations.ClearMovesRecord := by
  intro s n x k p hr ht hp hx
  dsimp only
  rw [exec_clear_taken ht hp hx]
  refine ⟨fun r hst hcur hseq => ?_, fun hst => ?_, fun r hcur hx hseq => ?_⟩
  · have hfits : ¬ ((s.point p).st ≠ .finished ∨ (x = 1 ∧ (s.point p).otherSequence k)) := by
      rintro (h | ⟨hx, h⟩)
      · exact h hst
      · simp only [PointData.otherSequence, hcur, Option.any_some, Bool.not_eq_true', decide_eq_false_iff_not] at h
        exact h (hseq.resolve_left (by omega))
    have heq := s.clearRecord_eq p
    have hsell : ∀ q, (s.point q).st.selling = true → ((s.clearRecord p).point q).st.selling = true := by
      intro q hq
      have hqp : q ≠ p := by
        rintro rfl
        simp [hst, PointSt.selling] at hq
      rw [State.clearRecord_point, if_neg hqp]
      exact hq
    rw [if_neg hfits, State.answered_eq_respond hr (by rw [heq]) (by rw [heq]) hsell]
    have hpoint (q : Point) : ((s.clearRecord p).respond 0x16 (okReply [])).point q = (s.clearRecord p).point q := by
      rw [State.respond_eq]
      rfl
    refine ⟨_, rfl, State.respond_answer _ _ _, ?_⟩
    simp only [hpoint, State.clearRecord_point, if_true, if_neg (Point.other_ne p), true_and]
    refine ⟨?_, ?_, ?_, ?_, ?_, ?_⟩
    · split <;> exact hcur
    · split <;> rfl
    · split <;> rfl
    · split <;> rfl
    · rw [State.respond_eq, heq]
    · simp only [State.pointsOpen, Bool.or_eq_true, decide_eq_true_eq]
      split <;> rfl
  · rw [if_pos (.inl hst)]
    rfl
  · rw [if_pos]
    · rfl
    · right
      simp [PointData.otherSequence, hcur, hseq, hx]

end Sys2Proof.Machine
end

section
/-! PROOFS. Family 4, the hang of an active nozzle and the no-flow expiry (R56, R64, R66 to R68), and AUTHORIZE (R50, R54,
R74). -/

namespace Sys2Proof.Machine

/-! ## An event that stops a holder (R66, R68) -/

/-- A point in STARTING, FUELLING or SLOWING may be stopped. -/
theorem PointSt.stoppable {st : PointSt} (h : st = .starting ∨ st = .fuelling ∨ st = .slowing) :
    st = .starting ∨ st.flowing = true := by
  rcases h with h | h | h <;> simp [h, PointSt.flowing]

/-- What the stop of a holder leaves at its end of the event: the point in STOPPING, its meter held with its valves closed and
its compares armed, and nothing else but what the start queue grants (R66, R68). -/
structure State.HolderStopped (s t : State) (p : Point) (m : Meter) (c : StopCause) : Prop where
  point : t.point p = (s.point p).stopped c s.now
  valves : (t.channel m).mainOpen = false ∧ (t.channel m).slowOpen = false
  holders : t.dle.holders = s.dle.holders
  counts : ∀ j, (s.channel j).ValvesOnly (t.channel j)
  blocks : t.now = s.now ∧ t.pins = s.pins ∧ t.ptu = s.ptu ∧ t.crg = s.crg ∧ t.display = s.display

/-- An event that begins with an input or a moment and stops a holder (R64, R66). -/
theorem State.stopHolder_settle {s u : State} {p : Point} {m : Meter} (hr : s.runs = true) (hcrg : u.crg = s.crg)
    (hpsc : u.psc = s.psc) (hpoints : u.points = s.points) (hheld : u.heldBy p = some m)
    (hst : (u.point p).st = .starting ∨ (u.point p).st.flowing = true) (c : StopCause) :
    u.HolderStopped ((u.stopHolder p c).settle s) p m c := by
  have hmoves := u.stopHolder_moves p c
  have hq := hmoves.psc
  rw [hpsc] at hq
  have hpoint (q : Point) : u.point q = s.point q := by rw [State.point, hpoints]; rfl
  rw [State.settle_eq_commit hr (by simp [hcrg]) hq fun q hs => hmoves.selling q (by rw [hpoint]; exact hs)]
  have hstop := State.stopHolder_eq hheld hst c
  refine ⟨?_, ?_, ?_, fun j => ?_, by simp⟩
  · rw [State.commit_point, hstop, State.enterStopping_point]
  · rw [State.commit_channel, hstop]
    exact u.enterStopping_valves p m c (State.holder_of_heldBy u hheld)
  · simpa using (u.stopHolder_table p c).1
  · rw [State.commit_channel]
    exact hmoves.valves j

/-- The point of a stopped holder with a record (R68). -/
theorem PointData.stopped_record {d : PointData} {r : DeliveryRecord} (hcur : d.current = some r) (c : StopCause)
    (now : Nat) : (d.stopped c now).st = .stopping ∧ (d.stopped c now).current = some { r with cause := some c }
      ∧ (d.stopped c now).quietDue = some (now + r.quiet) ∧ (d.stopped c now).noFlowDue = none := by
  simp [PointData.stopped, hcur]

/-! ## Hangs (R56) -/

theorem exec_nozzleHang (p : Point) (k : Position) (s : State) : exec (.nozzleHang p k) s =
    s.inputEvent (s.moveNozzle p k false) fun t => if s.up p k then t.hang p k else t := rfl

/-- A hang of a nozzle that was up is taken with its switch down (R56). -/
theorem exec_nozzleHang_up {s : State} {p : Point} {k : Position} (hr : s.runs = true) (hup : s.up p k = true) :
    exec (.nozzleHang p k) s = .next (((s.moveNozzle p k false).hang p k).settle s) := by
  rw [exec_nozzleHang, State.inputEvent_powered (State.powered_of_runs hr), if_pos hup]

theorem State.moveNozzle_up_self (s : State) (p : Point) (k : Position) (x : Bool) :
    (s.moveNozzle p k x).up p k = x := by
  cases p <;> cases k <;> rfl

/-- The hang of the active nozzle of a holder, and of a point that waits for no meter, stops the holder (R56, R64, R66). -/
theorem State.hang_holder {s : State} {p : Point} {k : Position} (hk : (s.point p).position = some k)
    (hcall : (s.point p).st ≠ .calling) (hwait : s.waiting p = false) : s.hang p k = s.stopHolder p .nozzleHung := by
  rw [State.hang, if_pos hk, if_neg hcall, if_neg (by simp [hwait])]

theorem State.waiting_of_held {s : State} {p : Point} {m : Meter} (h : s.heldBy p = some m) : s.waiting p = false := by
  simp [State.waiting, State.holds, h]

theorem State.waiting_of_unheld {s : State} {p : Point} (hst : (s.point p).st = .starting) (h : s.heldBy p = none) :
    s.waiting p = true := by
  simp [State.waiting, State.holds, hst, h]

/-- The return of a waiter moves its point, the waiters and what is handed to the RTM (R56, R59). -/
theorem State.returnToAuthorized_eq (s : State) (p : Point) : s.returnToAuthorized p =
    { s with dle := { s.dle with waiters := s.dle.waiters.map fun w => if w = some p then none else w }
             points := s.points.set p ((s.point p).returned s.now)
             rtm := { s.rtm with dirtyDeliveries := true } } := by
  cases p <;> rfl

theorem exec_noFlowExpiry (p : Point) (s : State) : exec (.noFlowExpiry p) s =
    s.event ((s.point p).noFlowDue.map fun t => (s.reach t).stopHolder p .noFlow) := rfl

/-- Settles O27: in each clause the event is the stop of a holder or the return of a waiter, and no sale ends with it. -/
theorem hangAndNoFlowStop : Obligations.HangAndNoFlowStop := by
  refine ⟨fun s p k m r hr hup hk hst hheld hcur => ?_, fun s p k hr hup hk hst hheld => ?_, fun s p hr =>
    ⟨fun hdue => ?_, fun due m r hdue hst hheld hcur => ?_⟩⟩
  · have hcall : (s.point p).st ≠ .calling := by rcases hst with h | h | h <;> simp [h]
    have hwait := State.waiting_of_held hheld
    have hhang : (s.moveNozzle p k false).hang p k = (s.moveNozzle p k false).stopHolder p .nozzleHung :=
      State.hang_holder hk hcall hwait
    rw [exec_nozzleHang_up hr hup, hhang]
    obtain ⟨hpoint, ⟨hmain, hslow⟩, hholders, hcounts, -, hpins, hptu, hcrg, hdisplay⟩ :=
      State.stopHolder_settle (u := s.moveNozzle p k false) (p := p) (m := m) hr rfl rfl rfl hheld
        (PointSt.stoppable hst) .nozzleHung
    obtain ⟨hstopping, hrecord, hquiet, hnoFlow⟩ := PointData.stopped_record hcur .nozzleHung s.now
    have hpoint' : _ = (s.point p).stopped .nozzleHung s.now := hpoint
    obtain ⟨-, -, -, -, -, -, -, hslowKept, hstopKept⟩ := (hcounts m).counts
    refine ⟨_, rfl, ?_, ?_, ?_, ?_, hmain, hslow, by rw [hholders]; rfl, hslowKept, hstopKept, hpins, hptu, hcrg, hdisplay,
      fun j => (hcounts j).counts.1, ?_⟩
    · rw [hpoint', hstopping]
    · rw [hpoint', hrecord]
    · rw [hpoint', hquiet]
    · rw [hpoint', hnoFlow]
    · rw [State.up, hpins]
      exact s.moveNozzle_up_self p k false
  · have hreturned : (s.moveNozzle p k false).hang p k =
        ((s.moveNozzle p k false).returnToAuthorized p).post (.point p) (.nozzleHang k) := by
      have hk' : ((s.moveNozzle p k false).point p).position = some k := hk
      have hcall : ((s.moveNozzle p k false).point p).st ≠ .calling := by
        rw [show ((s.moveNozzle p k false).point p).st = .starting from hst]
        decide
      have hwait : (s.moveNozzle p k false).waiting p = true := State.waiting_of_unheld hst hheld
      rw [State.hang, if_pos hk', if_neg hcall, if_pos hwait]
    have hsell (q : Point) (hq : (s.point q).st.selling = true) :
        ((((s.moveNozzle p k false).returnToAuthorized p).post (.point p) (.nozzleHang k)).point q).st.selling = true := by
      rw [State.returnToAuthorized_eq]
      by_cases hqp : q = p
      · simp [State.point, hqp, PointData.returned, PointSt.selling]
      · simpa [State.point, hqp, State.moveNozzle] using hq
    rw [exec_nozzleHang_up hr hup, hreturned, State.settle_eq_commit hr (by rw [State.returnToAuthorized_eq]; rfl)
      (by rw [State.returnToAuthorized_eq]; rfl) hsell, State.returnToAuthorized_eq]
    refine ⟨_, rfl, ?_, ?_, fun m => ?_, ?_, ?_, ?_⟩
    · rw [State.commit_point]
      cases p <;> rfl
    · simp [State.post, State.stamp, State.moveNozzle]
    · simp only [State.commit_frame, State.post, Quad.get_map]
      split
      · simp
      · assumption
    · simp [State.post, State.moveNozzle]
    · rw [State.commit_point]
      cases p <;> rfl
    · rw [State.commit_eq]
      rfl
  · rw [exec_noFlowExpiry, hdue]
    rfl
  · rw [exec_noFlowExpiry, hdue, Option.map_some, State.event_some (State.powered_of_runs hr)]
    obtain ⟨hpoint, ⟨hmain, hslow⟩, -, hcounts, hnow, hpins, hptu, hcrg, hdisplay⟩ :=
      State.stopHolder_settle (u := s.reach due) (p := p) (m := m) hr rfl rfl rfl hheld
        (PointSt.stoppable (.inr hst)) .noFlow
    obtain ⟨hstopping, hrecord, hquiet, -⟩ := PointData.stopped_record hcur .noFlow (max s.now due)
    have hpoint' : _ = (s.point p).stopped .noFlow (max s.now due) := hpoint
    refine ⟨_, rfl, ?_, hnow, ?_, ?_, hmain, hslow, hpins, hptu, hcrg, hdisplay, fun j => (hcounts j).counts.1⟩
    · rw [hpoint', hstopping]
    · rw [hpoint', hrecord]
    · rw [hpoint', hquiet]

/-! ## AUTHORIZE (R50) -/

theorem exec_authorize (n : Nat) (f : AuthFields) (s : State) : exec (.authorize n f) s = execAuthorize n f s := rfl

/-- The point of an authorization, its timeout captured and its timer started (R50, R74). -/
def State.authorizedPoint (s : State) (p : Point) (a : Authorization) : PointData :=
  { s.point p with
    st := .authorized, auth := some a, authTimeout := (s.dle.timings.get p).authTimeout, position := none
    authDue := if (s.dle.timings.get p).authTimeout = 0 then none
      else some (s.now + 1000 * (s.dle.timings.get p).authTimeout) }

/-- The state in which a point has taken an authorization, no nozzle judged yet (R50). -/
def State.authorized (s : State) (p : Point) (a : Authorization) : State :=
  { s with points := s.points.set p (s.authorizedPoint p a) }

theorem State.authorized_point (s : State) (p q : Point) (a : Authorization) :
    (s.authorized p a).point q = if q = p then s.authorizedPoint p a else s.point q := by
  simp [State.authorized, State.point]

theorem State.grantAuthorization_idle {s : State} {p : Point} (hst : (s.point p).st = .idle) (a : Authorization) :
    s.grantAuthorization p a = s.authorized p a := by
  simp only [State.grantAuthorization, hst]
  rfl

theorem State.grantAuthorization_calling {s : State} {p : Point} {k : Position} (hst : (s.point p).st = .calling)
    (hk : (s.point p).position = some k) (a : Authorization) :
    s.grantAuthorization p a = (s.authorized p a).judgeLift p k := by
  simp only [State.grantAuthorization, hst, hk]
  rfl

theorem State.authorized_auth (s : State) (p : Point) (a : Authorization) :
    ((s.authorized p a).point p).auth = some a := by
  rw [State.authorized_point, if_pos rfl]
  rfl

section
variable {s : State} {p : Point} {a : Authorization} {k : Position} (ha : (s.point p).auth = some a)
include ha

theorem State.judgeLift_refused {reason : LiftRefusal} (h : s.liftRefusal p a k = some reason) :
    s.judgeLift p k = s.post (.point p) (.nozzleRefused k reason) := by
  simp only [State.judgeLift, ha, h]

theorem State.judgeLift_accepted (h : s.liftRefusal p a k = none) : s.judgeLift p k = s.acceptLift p a k := by
  simp only [State.judgeLift, ha, h]

end

/-- What a judgement that accepts a lift leaves, be the meter free or held by the other point: the point in STARTING with its
record begun, and its claim on the meter (R54, R58). -/
structure State.Claimed (s t : State) (p : Point) (a : Authorization) (k : Position) : Prop where
  point : ∃ x, t.point p = s.liftedPoint p a k x
  claim : if s.dle.holders.get (s.hose p k).meter = none then t.dle.holders.get (s.hose p k).meter = some p
    else t.dle.waiters.get (s.hose p k).meter = some p
  psc : t.psc = { s.psc with startQueue := t.psc.startQueue, lastGrant := t.psc.lastGrant }
  blocks : t.now = s.now ∧ t.pins = s.pins ∧ t.display = s.display ∧ t.crg = s.crg

theorem State.acceptLift_claimed {s : State} {p : Point} {k : Position} (a : Authorization)
    (h : s.dle.holders.get (s.hose p k).meter = some p.other
      ∨ (s.dle.holders.get (s.hose p k).meter = none ∧ s.refreshing p = true ∧ (s.side p).sideFault = false)) :
    s.Claimed (s.acceptLift p a k) p a k := by
  rcases h with hheld | ⟨hfree, hon, hgood⟩
  · have hwaits := State.acceptLift_waits hheld a
    obtain ⟨hnow, hpins, -, -, -, hdisplay, hcrg, hpsc, hdle⟩ := hwaits.frame
    refine ⟨⟨_, hwaits.point⟩, ?_, by rw [hpsc], hnow, hpins, hdisplay, hcrg⟩
    rw [if_neg (by simp [hheld]), hdle]
    simp
  · have hbegun := State.acceptLift_free (a := a) hfree hon hgood
    obtain ⟨hnow, hpins, -, hdisplay, hcrg⟩ := hbegun.blocks
    refine ⟨⟨_, hbegun.point⟩, ?_, hbegun.psc, hnow, hpins, hdisplay, hcrg⟩
    rw [if_pos hfree, hbegun.holders]
    simp

section
variable {s : State} {n : Nat} {f : AuthFields} {p : Point} {a : Authorization}
  (ht : s.takes (.authorize n f) = true) (hp : Point.ofNumber n = some p) (ha : authorizationOf f s.stamp = some a)
include ht hp ha

/-- AUTHORIZE with its fields in range is judged by the tests of R50 in order. -/
theorem exec_authorize_taken : exec (.authorize n f) s = .next (s.answered 0x14
    (if s.psc.power ≠ .run then refuse .closed
      else if s.pins.emergency then refuse .stopped
      else if (s.point p).st ≠ .idle ∧ (s.point p).st ≠ .calling then refuse .wrongState
      else if s.bindingFails a then refuse .sessionMismatch
      else .acts (s.grantAuthorization p a) (okReply []))) := by
  rw [exec_authorize, execAuthorize, State.request_taken ht, hp]
  simp only [orBadField, ha]
  rfl

/-- AUTHORIZE passes its tests in RUN, with the line released, at a free point and with a binding that stands (R50). -/
theorem exec_authorize_granted (hrun : s.psc.power = .run) (hline : s.pins.emergency = false)
    (hst : (s.point p).st = .idle ∨ (s.point p).st = .calling) (hbound : a.session = none ∨ a.session = s.crg.session) :
    exec (.authorize n f) s = .next (s.answered 0x14 (.acts (s.grantAuthorization p a) [0])) := by
  have hstands : s.bindingFails a = false := by
    unfold State.bindingFails
    split
    · rfl
    · rename_i m hm
      have hsession : s.crg.session = some m := by rcases hbound with h | h <;> simp_all
      simp [hsession]
  have hfree : ¬ ((s.point p).st ≠ .idle ∧ (s.point p).st ≠ .calling) := fun h => hst.elim h.1 h.2
  rw [exec_authorize_taken ht hp ha, if_neg (by simp [hrun]), if_neg (by simp [hline]), if_neg hfree,
    if_neg (by simp [hstands])]
  rfl

end

/-- Settles O23: the tests of R50 are the branches of the request, in order; a grant at a CALLING point is a lift judged in the
state in which the point has taken its authorization. -/
theorem authorizeJudged : Obligations.AuthorizeJudged := by
  refine ⟨fun s n f p a hr ht hp ha hrun hline hst hbound => ?_,
    fun s n f p k a hr ht hp ha hrun hline hst hk hbound => ?_, fun s n f p a ht hp ha => ?_⟩
  · rw [exec_authorize_granted ht hp ha hrun hline (.inl hst) hbound, State.grantAuthorization_idle hst]
    exact congrArg _ (State.answered_run (t := s.authorized p a) hr rfl rfl hrun rfl _ _)
  · have hauth := s.authorized_auth p a
    rw [exec_authorize_granted ht hp ha hrun hline (.inr hst) hbound, State.grantAuthorization_calling hst hk]
    refine ⟨fun reason hreason => ?_, fun hnone hclaim => ?_⟩
    · rw [State.judgeLift_refused hauth hreason]
      exact congrArg _ (State.answered_run (t := (s.authorized p a).post _ _) hr rfl rfl hrun rfl _ _)
    · obtain ⟨⟨x, hpoint⟩, hclaimed, hpsc, hnow, hpins, hdisplay, hcrg⟩ :=
        State.acceptLift_claimed (s := s.authorized p a) (p := p) (k := k) a hclaim
      have hpower : ((s.authorized p a).acceptLift p a k).psc.power ≠ .draining := by
        rw [hpsc]
        simp [State.authorized, hrun]
      rw [State.judgeLift_accepted hauth hnone, State.answered_eq_drain hr hcrg hpsc, State.drainTest_of_power hpower]
      refine ⟨_, rfl, State.respond_answer _ _ _, ?_⟩
      rw [State.respond_eq]
      simp only [State.point] at hpoint ⊢
      rw [hpoint]
      exact ⟨rfl, rfl, hauth, rfl, rfl, hclaimed, hpins, hdisplay, hnow⟩
  · rw [exec_authorize_taken ht hp ha]
    refine ⟨fun hrun => ?_, fun hrun hline => ?_, fun hrun hline hidle hcalling => ?_,
      fun hrun hline hst k hsession hk => ?_⟩
    · rw [if_pos hrun]
      rfl
    · rw [if_neg (by simp [hrun]), if_pos hline]
      rfl
    · rw [if_neg (by simp [hrun]), if_neg (by simp [hline]), if_pos ⟨hidle, hcalling⟩]
      rfl
    · have hfree : ¬ ((s.point p).st ≠ .idle ∧ (s.point p).st ≠ .calling) := fun h => hst.elim h.1 h.2
      rw [if_neg (by simp [hrun]), if_neg (by simp [hline]), if_neg hfree, if_pos (by simp [State.bindingFails, hsession, hk])]
      rfl

end Sys2Proof.Machine
end

section
/-! PROOFS. Family 4, what no act of the points, of the reader's load and of the step sequence moves: the clock, the inputs, the
counts, the comparators, the step table, and the reports already in the queue. -/

namespace Sys2Proof.Machine

/-! ## The report queue (R186) -/

/-- A port that has taken posts: of its fields the queue and the lost counter alone have moved, and a queue that keeps the
oldest holds what it held. -/
structure Hlp.Tells (h k : Hlp) : Prop where
  rest : k = { h with reports := k.reports, lost := k.lost }
  kept : h.policy = .keepOldest → ∀ r ∈ h.reports, r ∈ k.reports

namespace Hlp.Tells

variable {h k l : Hlp}

theorem refl (h : Hlp) : h.Tells h := ⟨rfl, fun _ _ hr => hr⟩

theorem trans (a : h.Tells k) (b : k.Tells l) : h.Tells l where
  rest := by rw [b.rest, a.rest]
  kept hpolicy r hr := b.kept (by rw [a.rest, hpolicy]) r (a.kept hpolicy r hr)

theorem post (h : Hlp) (r : Report) : h.Tells (h.post r) := by
  unfold Hlp.post
  split
  · exact ⟨rfl, fun _ q hq => List.mem_append_left _ hq⟩
  · split
    · exact ⟨rfl, fun _ _ hq => hq⟩
    · rename_i hpolicy
      exact ⟨rfl, fun hkeep => nomatch hpolicy.symm.trans hkeep⟩

end Hlp.Tells

/-! ## The step sequence as a chain of moves (R160 to R163) -/

/-- A relation between states that every move of the step sequence keeps, and that chains. -/
structure StepRelation (R : State → State → Prop) : Prop where
  refl : ∀ s, R s s
  trans : ∀ {s t u}, R s t → R t u → R s u
  place : ∀ s n phase, R s (s.place n phase)
  act : ∀ s st, R s (State.applyAction s st).1
  check : ∀ s st, R s (State.enterCheck s st).1
  reset : ∀ s, R s (s.mapPsc fun c => { c with retries := 0 })
  report : ∀ s n st r ddu a, R s (State.reportFailure s n st r ddu a)
  wait : ∀ s n st, R s (State.enterRetryWait s n st)
  done : ∀ s, R s s.sequenceDone
  halt : ∀ s, R s s.halt

namespace StepRelation

variable {R : State → State → Prop} (h : StepRelation R)
include h

theorem runSteps (fuel : Nat) (move : StepMove) (s : State) : R s (s.runSteps fuel move) := by
  induction fuel generalizing move s with
  | zero => exact h.refl s
  | succ fuel ih =>
    cases move with
    | begins n =>
      unfold State.runSteps
      split
      · exact h.done s
      · rename_i st _
        have hbegun := h.trans (h.place s n .settle) (h.act _ st)
        dsimp only
        split
        · exact h.trans hbegun (ih _ _)
        · split
          · exact h.trans hbegun (ih _ _)
          · exact hbegun
    | checks =>
      unfold State.runSteps
      split
      · exact h.refl s
      · rename_i n st _
        have hchecked := h.trans (h.place s n .check) (h.check _ st)
        split
        · rename_i u move heq
          have hu : ((s.place n .check).enterCheck st).1 = u := congrArg Prod.fst heq
          exact h.trans (hu ▸ hchecked) (ih move u)
        · rename_i u heq
          have hu : ((s.place n .check).enterCheck st).1 = u := congrArg Prod.fst heq
          exact hu ▸ hchecked
    | passes =>
      unfold State.runSteps
      split
      · exact h.refl s
      · exact h.trans (h.reset s) (ih _ _)
    | fails r ddu =>
      unfold State.runSteps
      split
      · exact h.refl s
      · rename_i n st _
        split
        · exact h.trans (h.report s n st r ddu _) (h.halt _)
        · exact h.trans (h.report s n st r ddu _) (h.trans (h.reset _) (ih _ _))
        · split
          · have hretry := h.trans (h.report s n st r ddu .retry) (h.wait _ n st)
            dsimp only
            split
            · exact h.trans hretry (ih _ _)
            · exact hretry
          · exact h.trans (h.report s n st r ddu _) (h.halt _)

theorem advanceSteps (s : State) (move : StepMove) : R s (s.advanceSteps move) := h.runSteps _ move s

theorem gateNotice (s : State) : R s s.gateNotice := by
  unfold State.gateNotice
  split
  · split
    · exact h.advanceSteps s _
    · split
      · exact h.advanceSteps s _
      · exact h.refl s
  · exact h.refl s

end StepRelation

/-! ## What stands -/

/-- The clock of the model, the inputs, the display settings and the counts of the meters stand, and of the power controller the
comparators, the step table, the day clock and the settings; reports are posted alone; and the gate neither enters QUARANTINE
nor leaves it. -/
structure State.Proceeds (s t : State) : Prop where
  now : t.now = s.now
  pins : t.pins = s.pins
  display : t.display = s.display
  counter : ∀ m, (t.channel m).counter = (s.channel m).counter
  hlp : s.hlp.Tells t.hlp
  psc : t.psc = { s.psc with
    power := t.psc.power, intended := t.psc.intended, wakePending := t.psc.wakePending, drives := t.psc.drives
    cursor := t.psc.cursor, retries := t.psc.retries, lastFailure := t.psc.lastFailure, shutdown := t.psc.shutdown
    shutdownDue := t.psc.shutdownDue, startQueue := t.psc.startQueue, lastGrant := t.psc.lastGrant }
  gate : t.crg.st = .quarantine ↔ s.crg.st = .quarantine

namespace State.Proceeds

variable {s t u : State}

theorem trans (h : s.Proceeds t) (k : t.Proceeds u) : s.Proceeds u where
  now := k.now.trans h.now
  pins := k.pins.trans h.pins
  display := k.display.trans h.display
  counter m := (k.counter m).trans (h.counter m)
  hlp := h.hlp.trans k.hlp
  psc := by rw [k.psc, h.psc]
  gate := k.gate.trans h.gate

/-- An update of fields that the relation does not name. -/
theorem of_fields (hnow : t.now = s.now) (hpins : t.pins = s.pins) (hdisplay : t.display = s.display) (hmiu : t.miu = s.miu)
    (hhlp : t.hlp = s.hlp) (hpsc : t.psc = s.psc) (hcrg : t.crg = s.crg) : s.Proceeds t where
  now := hnow
  pins := hpins
  display := hdisplay
  counter m := by rw [State.channel, hmiu]; rfl
  hlp := by rw [hhlp]; exact .refl _
  psc := by rw [hpsc]
  gate := by rw [hcrg]

theorem refl (s : State) : s.Proceeds s := .of_fields rfl rfl rfl rfl rfl rfl rfl

theorem sensors (h : s.Proceeds t) : t.psc.sensors = s.psc.sensors := by rw [h.psc]

theorem good (h : s.Proceeds t) (c : Comparator) : t.good c = s.good c := by rw [State.good, h.sensors]; rfl

theorem clock (h : s.Proceeds t) : t.psc.clock = s.psc.clock := by rw [h.psc]

theorem steps (h : s.Proceeds t) : t.psc.steps = s.psc.steps := by rw [h.psc]

/-! ## Updates of the state -/

theorem mapPoint (s : State) (p : Point) (f : PointData → PointData) : s.Proceeds (s.mapPoint p f) :=
  .of_fields rfl rfl rfl rfl rfl rfl rfl

theorem mapSide (s : State) (x : Side) (f : DduSide → DduSide) : s.Proceeds (s.mapSide x f) :=
  .of_fields rfl rfl rfl rfl rfl rfl rfl

theorem mapPou (s : State) (p : Point) (f : Pou → Pou) : s.Proceeds (s.mapPou p f) :=
  .of_fields rfl rfl rfl rfl rfl rfl rfl

theorem setMotor (s : State) (m : Meter) (x : Motor) : s.Proceeds (s.setMotor m x) :=
  .of_fields rfl rfl rfl rfl rfl rfl rfl

theorem touchConfig (s : State) : s.Proceeds s.touchConfig := .of_fields rfl rfl rfl rfl rfl rfl rfl

theorem touchDeliveries (s : State) : s.Proceeds s.touchDeliveries := .of_fields rfl rfl rfl rfl rfl rfl rfl

theorem removeWaiter (s : State) (p : Point) : s.Proceeds (s.removeWaiter p) := .of_fields rfl rfl rfl rfl rfl rfl rfl

theorem commit (s : State) : s.Proceeds s.commit := by
  rw [State.commit_eq]
  exact .of_fields rfl rfl rfl rfl rfl rfl rfl

theorem post (s : State) (target : ReportTarget) (data : ReportData) : s.Proceeds (s.post target data) :=
  { State.Proceeds.refl s with hlp := .post _ _ }

theorem changed (s : State) (c : Condition) (v : Bool) : s.Proceeds (s.changed c v) := by
  unfold State.changed
  split
  · exact .post s _ _
  · exact .refl s

/-- An update of the power controller's moving parts. -/
theorem mapPsc (s : State) (f : Psc → Psc) (h : f s.psc = { s.psc with
    power := (f s.psc).power, intended := (f s.psc).intended, wakePending := (f s.psc).wakePending
    drives := (f s.psc).drives, cursor := (f s.psc).cursor, retries := (f s.psc).retries
    lastFailure := (f s.psc).lastFailure, shutdown := (f s.psc).shutdown, shutdownDue := (f s.psc).shutdownDue
    startQueue := (f s.psc).startQueue, lastGrant := (f s.psc).lastGrant }) : s.Proceeds (s.mapPsc f) :=
  { State.Proceeds.refl s with psc := h }

/-- An update of the gate that neither enters QUARANTINE nor leaves it. -/
theorem mapCrg (s : State) (f : Crg → Crg) (h : (f s.crg).st = .quarantine ↔ s.crg.st = .quarantine) :
    s.Proceeds (s.mapCrg f) :=
  { State.Proceeds.refl s with gate := h }

theorem commandValves (s : State) (m : Meter) (x y : Bool) : s.Proceeds (s.commandValves m x y) where
  now := by simp
  pins := by simp
  display := by simp
  counter j := (s.commandValves_valves m j x y).counts.1
  hlp := by simpa using Hlp.Tells.refl s.hlp
  psc := by simp
  gate := by simp

theorem allMotorsOff (s : State) : s.Proceeds s.allMotorsOff :=
  { State.Proceeds.refl s with psc := rfl }

/-! ## The motors and the opening of valves -/

theorem openValves (s : State) (p : Point) (m : Meter) (r : DeliveryRecord) : s.Proceeds (s.openValves p m r) := by
  unfold State.openValves
  exact (State.Proceeds.commandValves s m _ _).trans ((State.Proceeds.mapPoint _ p _).trans
    ((State.Proceeds.mapPou _ p _).trans ((State.Proceeds.touchDeliveries _).trans (.post _ _ _))))

theorem tryOpen (s : State) (p : Point) : s.Proceeds (s.tryOpen p) := by
  unfold State.tryOpen
  dsimp only
  split
  · split
    · exact .openValves s p _ _
    · exact .refl s
  · exact .refl s

theorem tryOpenHolder (s : State) (m : Meter) : s.Proceeds (s.tryOpenHolder m) := by
  unfold State.tryOpenHolder
  split
  · exact .tryOpen s _
  · exact .refl s

theorem grant (s : State) (m : Meter) (rest : List Meter) : s.Proceeds (s.grant m rest) :=
  (State.Proceeds.mapPsc s _ rfl).trans ((State.Proceeds.setMotor _ m _).trans (.tryOpenHolder _ m))

theorem testHead (s : State) (fuel : Nat) : s.Proceeds (s.testHead fuel) := by
  induction fuel generalizing s with
  | zero => exact .refl s
  | succ n ih =>
    unfold State.testHead
    split
    · exact .refl s
    · split
      · exact (State.Proceeds.grant s _ _).trans (ih _)
      · exact .refl s

theorem withdrawStart (s : State) (m : Meter) : s.Proceeds (s.withdrawStart m) := by
  unfold State.withdrawStart
  dsimp only
  split
  · exact (State.Proceeds.mapPsc s _ rfl).trans (.testHead _ _)
  · exact .mapPsc s _ rfl

theorem dropMotor (s : State) (m : Meter) : s.Proceeds (s.dropMotor m) := by
  unfold State.dropMotor
  dsimp only
  split
  · exact (State.Proceeds.setMotor s m _).trans (.withdrawStart _ m)
  · exact .setMotor s m _
  · exact .refl s
  · exact .refl s

/-! ## Stops -/

theorem withdrawZero (s : State) (x : Side) : s.Proceeds (s.withdrawZero x) := .mapSide s x _

theorem enterStopping (s : State) (p : Point) (m : Meter) (c : StopCause) : s.Proceeds (s.enterStopping p m c) := by
  rw [State.enterStopping_eq]
  exact (State.Proceeds.mapPoint s p _).trans ((State.Proceeds.commandValves _ m _ _).trans
    ((State.Proceeds.dropMotor _ m).trans ((State.Proceeds.withdrawZero _ p).trans
      ((State.Proceeds.touchDeliveries _).trans (.post _ _ _)))))

theorem stopHolder (s : State) (p : Point) (c : StopCause) : s.Proceeds (s.stopHolder p c) := by
  obtain h | ⟨m, -, h⟩ := s.stopHolder_cases p c <;> rw [h]
  · exact .refl s
  · exact .enterStopping s p m c

theorem zeroFailed (s : State) (x : Side) : s.Proceeds (s.zeroFailed x) := by
  unfold State.zeroFailed
  dsimp only
  split
  · exact (State.Proceeds.withdrawZero s x).trans (.stopHolder _ x _)
  · exact .withdrawZero s x

/-! ## The free states -/

theorem adopt (s : State) (p : Point) : s.Proceeds (s.adopt p) := by
  have hretire (u : State) : u.Proceeds u.retire := by
    unfold State.retire
    split
    · exact .refl u
    · exact .of_fields rfl rfl rfl rfl rfl rfl rfl
  unfold State.adopt
  dsimp only
  split
  · exact .refl s
  · exact (State.Proceeds.mapPoint s p _).trans ((hretire _).trans (.post _ _ _))

theorem callIfUp (s : State) (p : Point) : s.Proceeds (s.callIfUp p) := by
  unfold State.callIfUp
  split
  · exact .refl s
  · exact (State.Proceeds.mapPoint s p _).trans (.post _ _ _)

theorem enterIdle (s : State) (p : Point) : s.Proceeds (s.enterIdle p) :=
  (State.Proceeds.mapPoint s p _).trans ((State.Proceeds.adopt _ p).trans (.callIfUp _ p))

theorem enterClosed (s : State) (p : Point) : s.Proceeds (s.enterClosed p) :=
  (State.Proceeds.mapPoint s p _).trans (.adopt _ p)

theorem leaveStarting (s : State) (p : Point) : s.Proceeds (s.leaveStarting p) :=
  (State.Proceeds.removeWaiter s p).trans ((State.Proceeds.mapPoint _ p _).trans (.touchDeliveries _))

/-! ## Ends of authorizations (R73 to R80) -/

theorem endAuthorization (s : State) (p : Point) (r : AuthEnd) : s.Proceeds (s.endAuthorization p r) :=
  (State.Proceeds.post s _ _).trans (.enterIdle _ p)

theorem endPermission (s : State) (p : Point) (r : AuthEnd) (c : StopCause) : s.Proceeds (s.endPermission p r c) := by
  unfold State.endPermission
  split
  · exact .endAuthorization s p r
  · split
    · exact (State.Proceeds.leaveStarting s p).trans (.endAuthorization _ p r)
    · split
      · exact .stopHolder s p c
      · exact .refl s

theorem cancelPoint (s : State) (p : Point) : s.Proceeds (s.cancelPoint p) := by
  unfold State.cancelPoint
  split
  · exact .enterIdle s p
  · split
    · exact (State.Proceeds.leaveStarting s p).trans (.enterIdle _ p)
    · exact .stopHolder s p _

theorem emergencyStop (s : State) : s.Proceeds s.emergencyStop := by
  have hdelivery (u : State) (p : Point) : u.Proceeds (u.emergencyDelivery p) := by
    unfold State.emergencyDelivery
    split
    · exact .stopHolder u p _
    · split
      · exact .endPermission u p _ _
      · exact .refl u
  have hauthorized (u : State) (p : Point) : u.Proceeds (u.emergencyAuthorized p) := by
    unfold State.emergencyAuthorized
    split
    · exact .endAuthorization u p _
    · exact .refl u
  exact (hdelivery s .a).trans ((hdelivery _ .b).trans ((hauthorized _ .a).trans (hauthorized _ .b)))

theorem silencePoint (s : State) (p : Point) : s.Proceeds (s.silencePoint p) := by
  unfold State.silencePoint
  split
  · exact .endAuthorization s p _
  · exact .refl s

theorem sessionEnd (s : State) (n : Nat) : s.Proceeds (s.sessionEnd n) := by
  have hpoint (u : State) (p : Point) : u.Proceeds (u.sessionEndPoint p n) := by
    unfold State.sessionEndPoint
    split
    · exact .endPermission u p _ _
    · exact .refl u
  exact (hpoint s .a).trans (hpoint _ .b)

theorem drainPoints (s : State) : s.Proceeds s.drainPoints := by
  have hpoint (u : State) (p : Point) : u.Proceeds (u.drainPoint p) := by
    unfold State.drainPoint
    split
    · exact .enterClosed u p
    · exact .refl u
  exact (hpoint s .a).trans (hpoint _ .b)

theorem openPoints (s : State) : s.Proceeds s.openPoints := by
  have hpoint (u : State) (p : Point) : u.Proceeds (u.openPoint p) := by
    unfold State.openPoint
    split
    · exact .enterIdle u p
    · exact .refl u
  exact (hpoint s .a).trans (hpoint _ .b)

theorem closePoints (s : State) : s.Proceeds s.closePoints := by
  have hauthorized (u : State) (p : Point) : u.Proceeds (u.closeAuthorized p) := by
    unfold State.closeAuthorized
    split
    · exact (State.Proceeds.post u _ _).trans (.enterClosed _ p)
    · exact .refl u
  have hdelivery (u : State) (p : Point) : u.Proceeds (u.closeDelivery p) := by
    unfold State.closeDelivery
    split
    · exact (State.Proceeds.leaveStarting u p).trans ((State.Proceeds.post _ _ _).trans (.enterClosed _ p))
    · exact .stopHolder u p _
  exact (State.Proceeds.drainPoints s).trans ((hauthorized _ .a).trans ((hauthorized _ .b).trans
    ((hdelivery _ .a).trans (hdelivery _ .b))))

theorem valveSupplyEvent (s : State) (good : Bool) : s.Proceeds (s.valveSupplyEvent good) := by
  have hlost (u : State) (p : Point) : u.Proceeds (u.supplyLostPoint p) := by
    unfold State.supplyLostPoint
    split
    · exact .stopHolder u p _
    · exact .refl u
  unfold State.valveSupplyEvent
  split
  · exact (State.Proceeds.tryOpen s .a).trans (.tryOpen _ .b)
  · exact (hlost s .a).trans (hlost _ .b)

/-! ## The gate (R130 to R148) -/

theorem flushOutbound (s : State) : s.Proceeds s.flushOutbound := by
  have hposts (l : List Outbound) (u : State) :
      u.Proceeds (l.foldl (fun s e => s.post .none (.readerOutboundEnd e.tag .flushed)) u) := by
    induction l generalizing u with
    | nil => exact .refl u
    | cons e l ih => exact (State.Proceeds.post u _ _).trans (ih _)
  unfold State.flushOutbound
  exact (hposts s.crg.outbound s).trans (.mapCrg _ _ Iff.rfl)

theorem tellSessionEnd (s : State) (session : Option Nat) : s.Proceeds (s.tellSessionEnd session) := by
  unfold State.tellSessionEnd
  split
  · exact .sessionEnd s _
  · exact .refl s

/-- A change of gate state between states that are not QUARANTINE. -/
theorem moveGate (s : State) (c : GateCause) (f : Crg → Crg) (hs : s.crg.st ≠ .quarantine)
    (hf : ∀ g, (f g).st ≠ .quarantine) : s.Proceeds (s.moveGate c f) := by
  have hflush := State.Proceeds.flushOutbound s
  have hmoved : s.flushOutbound.Proceeds (s.flushOutbound.mapCrg fun c => f { c with session := none }) :=
    .mapCrg _ _ (iff_of_false (hf _) (mt hflush.gate.1 hs))
  unfold State.moveGate
  dsimp only
  exact hflush.trans (hmoved.trans ((State.Proceeds.post _ _ _).trans (.tellSessionEnd _ _)))

theorem powerGate (s : State) (c : GateCause) (f : Crg → Crg) (hs : s.crg.st ≠ .quarantine) :
    s.Proceeds (s.powerGate c f) := by
  unfold State.powerGate
  dsimp only
  refine State.Proceeds.moveGate s c _ hs fun g => ?_
  simp [Crg.beginAttempt, Crg.quietLink]

theorem readerOnFromOff (s : State) (c : GateCause) (hs : s.crg.st ≠ .quarantine) : s.Proceeds (s.readerOnFromOff c) := by
  unfold State.readerOnFromOff
  exact .powerGate s c _ hs

theorem readerOffAct (s : State) (c : GateCause) : s.Proceeds (s.readerOffAct c) := by
  unfold State.readerOffAct
  split
  · exact .refl s
  · rename_i h
    exact .moveGate s c _ (fun hq => h (.inr hq)) fun g h => nomatch h

theorem readerSupplyEvent (s : State) (good : Bool) : s.Proceeds (s.readerSupplyEvent good) := by
  have hpower (hs : s.crg.st ≠ .quarantine) : s.Proceeds (if good then s else s.powerGate .supplyLost id) := by
    split
    · exact .refl s
    · exact .powerGate s _ _ hs
  unfold State.readerSupplyEvent
  split
  · split
    · exact .refl s
    · exact .mapCrg s _ Iff.rfl
  · exact hpower (by simp [*])
  · exact hpower (by simp [*])
  · exact hpower (by simp [*])
  · exact .refl s
  · exact .refl s

/-! ## The loads and the displays (R118, R121 to R123, R158) -/

theorem endTest (s : State) (x : Side) (r : TestResult) : s.Proceeds (s.endTest x r) := by
  unfold State.endTest
  split
  · exact .refl s
  · have hended : s.Proceeds (s.mapSide x fun d => { d with test := none }) := .mapSide s x _
    dsimp only
    split
    · have hcleared := hended.trans (.mapSide _ x (·.clearFaults))
      split
      · exact hcleared.trans ((State.Proceeds.changed _ _ _).trans (.post _ _ _))
      · exact hcleared.trans (.post _ _ _)
    · exact hended.trans (.post _ _ _)

theorem endHold (s : State) (x : Side) (r : HoldEnd) : s.Proceeds (s.endHold x r) := by
  unfold State.endHold
  split
  · exact .refl s
  · exact (State.Proceeds.mapSide s x _).trans (.post _ _ _)

theorem takeHold (s : State) (x : Side) (h : Hold) : s.Proceeds (s.takeHold x h) := by
  have htaken : s.Proceeds (s.mapSide x fun d => { d with hold := h }) := .mapSide s x _
  unfold State.takeHold
  dsimp only
  split
  · split
    · exact htaken.trans (.endHold _ x _)
    · exact htaken
  · exact htaken
  · exact htaken

theorem darken (s : State) (x : Side) : s.Proceeds (s.darken x) := by
  unfold State.darken
  split
  · exact .refl s
  · dsimp only
    split
    · exact .endTest s x _
    · exact (State.Proceeds.endTest s x _).trans (.zeroFailed _ x)

theorem setDrive (s : State) (l : Load) (on : Bool) : s.Proceeds (s.setDrive l on) := by
  have hdrive : s.Proceeds (s.mapPsc fun c => { c with drives := c.drives.with l on }) := .mapPsc s _ rfl
  unfold State.setDrive
  dsimp only
  split
  · split
    · exact hdrive
    · exact hdrive.trans (.readerOffAct _ _)
  · split
    · exact hdrive.trans (.darken _ _)
    · exact hdrive

theorem allOff (s : State) : s.Proceeds s.allOff :=
  (State.Proceeds.mapPsc s _ rfl).trans ((State.Proceeds.darken _ .a).trans ((State.Proceeds.darken _ .b).trans
    (.readerOffAct _ _)))

theorem drivesFromOutputs (s : State) : s.Proceeds s.drivesFromOutputs := .mapPsc s _ rfl

theorem enterPower (s : State) (p : PowerSt) (c : PowerCause) : s.Proceeds (s.enterPower p c) :=
  (State.Proceeds.mapPsc s _ rfl).trans (.post _ _ _)

theorem intend (s : State) (i : Intended) : s.Proceeds (s.intend i) := by
  unfold State.intend
  split
  · exact .refl s
  · exact (State.Proceeds.mapPsc s _ rfl).trans (.touchConfig _)

theorem driveHeaters (s : State) : s.Proceeds s.driveHeaters := by
  unfold State.driveHeaters
  split
  · exact .mapPsc s _ rfl
  · exact .refl s

/-! ## The step sequence (R160 to R163) -/

theorem sequenceDone (s : State) : s.Proceeds s.sequenceDone :=
  (State.Proceeds.mapPsc s _ rfl).trans ((State.Proceeds.enterPower _ _ _).trans
    ((State.Proceeds.openPoints _).trans (.driveHeaters _)))

theorem halt (s : State) : s.Proceeds s.halt :=
  (State.Proceeds.mapPsc s _ rfl).trans ((State.Proceeds.enterPower _ _ _).trans (.allOff _))

theorem place (s : State) (n : Nat) (phase : StepPhase) : s.Proceeds (s.place n phase) := .mapPsc s _ rfl

theorem applyAction (s : State) (st : PowerStep) : s.Proceeds (s.applyAction st).1 := by
  unfold State.applyAction
  split
  · exact .refl s
  · dsimp only
    split
    · rename_i h
      have hdrive := State.Proceeds.setDrive s .reader st.turnOn
      exact hdrive.trans (.readerOnFromOff _ _ (mt hdrive.gate.1 (by simp [h.2])))
    · exact State.Proceeds.setDrive s .reader st.turnOn
  · exact .setDrive s _ _

theorem startSequenceTest (s : State) (x : Side) : s.Proceeds (s.startSequenceTest x) := .mapSide s x _

theorem enterCheck (s : State) (st : PowerStep) : s.Proceeds (s.enterCheck st).1 := by
  unfold State.enterCheck
  dsimp only
  split
  · exact .refl s
  · exact .refl s
  · exact .refl s
  · split
    · exact .refl s
    · exact .startSequenceTest s _

theorem reportFailure (s : State) (n : Nat) (st : PowerStep) (r : StepReason) (ddu : Nat) (a : StepAction) :
    s.Proceeds (s.reportFailure n st r ddu a) :=
  (State.Proceeds.mapPsc s _ rfl).trans (.post _ _ _)

theorem enterRetryWait (s : State) (n : Nat) (st : PowerStep) : s.Proceeds (s.enterRetryWait n st) := by
  have hwait : s.Proceeds ((s.mapPsc fun c => { c with retries := c.retries + 1 }).place n .retryWait) :=
    (State.Proceeds.mapPsc s _ rfl).trans (.place _ n _)
  unfold State.enterRetryWait
  dsimp only
  split
  · exact hwait.trans (.setDrive _ _ _)
  · exact hwait

theorem stepRelation : StepRelation State.Proceeds where
  refl := refl
  trans := trans
  place := place
  act := applyAction
  check := enterCheck
  reset s := .mapPsc s _ rfl
  report := reportFailure
  wait := enterRetryWait
  done := sequenceDone
  halt := halt

theorem advanceSteps (s : State) (move : StepMove) : s.Proceeds (s.advanceSteps move) := stepRelation.advanceSteps s move

theorem gateNotice (s : State) : s.Proceeds s.gateNotice := stepRelation.gateNotice s

/-! ## Waking, sleep and mains (R164 to R175) -/

theorem enterWaking (s : State) (c : PowerCause) : s.Proceeds (s.enterWaking c) := by
  unfold State.enterWaking
  exact (State.Proceeds.drivesFromOutputs s).trans ((State.Proceeds.intend _ _).trans ((State.Proceeds.mapPsc _ _ rfl).trans
    ((State.Proceeds.enterPower _ _ _).trans (.advanceSteps _ _))))

theorem wakeNow (s : State) (c : WakeCause) : s.Proceeds (s.wakeNow c) := by
  unfold State.wakeNow
  exact (State.Proceeds.post s _ _).trans (.enterWaking _ _)

theorem endHolds (s : State) (r : HoldEnd) : s.Proceeds (s.endHolds r) :=
  (State.Proceeds.endHold s .a r).trans ((State.Proceeds.endHold _ .b r).trans ((State.Proceeds.darken _ .a).trans
    (.darken _ .b)))

theorem mainsRise (s : State) : s.Proceeds s.mainsRise := by
  unfold State.mainsRise
  split
  · exact .wakeNow s _
  · split
    · exact .wakeNow s _
    · exact .refl s
  · exact .wakeNow s _
  · split
    · exact (State.Proceeds.drivesFromOutputs s).trans ((State.Proceeds.endHolds _ _).trans (.wakeNow _ _))
    · have hnight := (State.Proceeds.endHolds s .mainsReturn).trans (.enterPower _ .night .mainsReturn)
      dsimp only
      split
      · exact hnight.trans (.wakeNow _ _)
      · exact hnight
  · exact .refl s

theorem mainsLoss (s : State) : s.Proceeds s.mainsLoss := by
  unfold State.mainsLoss
  dsimp only
  exact (State.Proceeds.mapPsc s _ rfl).trans ((State.Proceeds.enterPower _ _ _).trans ((State.Proceeds.endTest _ .a _).trans
    ((State.Proceeds.endTest _ .b _).trans ((State.Proceeds.takeHold _ .a _).trans ((State.Proceeds.takeHold _ .b _).trans
      ((State.Proceeds.allMotorsOff _).trans ((State.Proceeds.closePoints _).trans (.allOff _))))))))

theorem mainsFall (s : State) : s.Proceeds s.mainsFall := by
  unfold State.mainsFall
  split
  · exact .mainsLoss s
  · exact .mainsLoss s
  · exact .mainsLoss s
  · exact .refl s
  · exact .refl s
  · exact .refl s

theorem shutNext (s : State) : s.Proceeds s.shutNext := by
  unfold State.shutNext
  split
  · exact .mapPsc s _ rfl
  · exact (State.Proceeds.mapPsc s _ rfl).trans (.setDrive _ _ _)

theorem completeDrain (s : State) : s.Proceeds s.completeDrain :=
  (State.Proceeds.drainPoints s).trans ((State.Proceeds.allMotorsOff _).trans ((State.Proceeds.enterPower _ _ _).trans
    ((State.Proceeds.mapPsc _ _ rfl).trans (.shutNext _))))

theorem drainTest (s before : State) : s.Proceeds (s.drainTest before) := by
  unfold State.drainTest
  split
  · exact .completeDrain s
  · exact .refl s

theorem settle (s before : State) : s.Proceeds (s.settle before) :=
  (State.Proceeds.gateNotice s).trans ((State.Proceeds.drainTest _ before).trans (.commit _))

/-! ## The comparators (R154, R155) -/

theorem retimeAll (s : State) : s.Proceeds s.retimeAll := by
  have hretime (u : State) (m : Meter) : u.Proceeds (u.retime m) := by
    have hcounter (j : Meter) : ((u.retime m).channel j).counter = (u.channel j).counter := by
      rw [State.retime_channel]
      split
      · rename_i hj
        rw [hj]
      · rfl
    exact { State.Proceeds.refl u with counter := hcounter }
  exact (hretime s .m1).trans ((hretime _ .m2).trans ((hretime _ .m3).trans (hretime _ .m4)))

theorem handCondition (s : State) (c : Comparator) (good : Bool) : s.Proceeds (s.handCondition c good) := by
  unfold State.handCondition
  split
  · split
    · exact .mainsRise s
    · exact .mainsFall s
  · split
    · exact .endHolds s _
    · exact .refl s
  · exact (State.Proceeds.retimeAll s).trans (.valveSupplyEvent _ _)
  · split
    · exact .refl s
    · refine { State.Proceeds.refl s with counter := fun m => ?_ }
      simp [State.suspendAll, State.channel]
  · exact .readerSupplyEvent s _
  · exact .refl s
  · exact .driveHeaters s
  · exact .driveHeaters s

end State.Proceeds

end Sys2Proof.Machine
end

section
/-! PROOFS. Family 4, acts on one point and what they leave of the other (R64, R66, R73 to R78), and the end of an event that
ends sales (R79, R169). -/

namespace Sys2Proof.Machine

/-! ## What an act on one point leaves of the other -/

/-- What an act on the other point leaves of a point: the start queue may open the valves of one in STARTING that holds its
meter, and nothing else of it moves (R63, R176, R177). -/
structure State.Spares (s t : State) (q : Point) : Prop where
  point : t.point q = s.point q ∨ ((s.point q).st = .starting ∧ (∃ j : Meter, s.dle.holders.get j = some q)
    ∧ (t.point q).st.flowing = true ∧ (t.point q).current = (s.point q).current)
  channel : ∀ m, (s.point q).st ≠ .starting → s.dle.holders.get m = some q → t.channel m = s.channel m
  side : t.side q = s.side q
  holders : t.dle.holders = s.dle.holders
  waiters : ∀ m, t.dle.waiters.get m = some q ↔ s.dle.waiters.get m = some q

namespace State.Spares

variable {s t u : State} {q : Point}

theorem refl (s : State) (q : Point) : s.Spares s q := ⟨.inl rfl, fun _ _ _ => rfl, rfl, rfl, fun _ => Iff.rfl⟩

theorem same (h : s.Spares t q) (hst : (s.point q).st ≠ .starting) : t.point q = s.point q :=
  h.point.resolve_right fun ho => hst ho.1

/-- A point that holds no meter is not moved. -/
theorem same_of_unheld (h : s.Spares t q) (hheld : s.heldBy q = none) : t.point q = s.point q :=
  h.point.resolve_right fun ho => by
    obtain ⟨-, ⟨j, hj⟩, -⟩ := ho
    exact (State.heldBy_eq_none s).1 hheld j hj

theorem current (h : s.Spares t q) : (t.point q).current = (s.point q).current := by
  rcases h.point with hp | ⟨-, -, -, hcur⟩
  · rw [hp]
  · exact hcur

/-- A point that may be stopped still may (R64, R66). -/
theorem stoppable (h : s.Spares t q) (hst : (s.point q).st = .starting ∨ (s.point q).st.flowing = true) :
    (t.point q).st = .starting ∨ (t.point q).st.flowing = true := by
  rcases h.point with hp | ⟨-, -, hflow, -⟩
  · rwa [hp]
  · exact .inr hflow

theorem trans (h : s.Spares t q) (k : t.Spares u q) : s.Spares u q where
  point := by
    rcases h.point with hp | ⟨hst, hheld, hflow, hcur⟩
    · rcases k.point with kp | ⟨kst, ⟨j, hj⟩, kflow, kcur⟩
      · exact .inl (kp.trans hp)
      · rw [hp] at kst kcur
        exact .inr ⟨kst, ⟨j, by rw [← h.holders]; exact hj⟩, kflow, kcur⟩
    · have hne : (t.point q).st ≠ .starting := fun hs => by simp [hs, PointSt.flowing] at hflow
      have kp := k.same hne
      exact .inr ⟨hst, hheld, by rw [kp, hflow], by rw [kp, hcur]⟩
  channel m hst hm := by
    have hp := h.same hst
    exact (k.channel m (by rw [hp]; exact hst) (by rw [h.holders, hm])).trans (h.channel m hst hm)
  side := k.side.trans h.side
  holders := k.holders.trans h.holders
  waiters m := (k.waiters m).trans (h.waiters m)

/-- An update that leaves the point, the meters, the sides and the arbiter as they were. -/
theorem of_fields (hpoint : t.point q = s.point q) (hmiu : t.miu = s.miu) (hddu : t.ddu = s.ddu) (hdle : t.dle = s.dle) :
    s.Spares t q where
  point := .inl hpoint
  channel m _ _ := by rw [State.channel, hmiu]; rfl
  side := by rw [State.side, hddu]; rfl
  holders := by rw [hdle]
  waiters m := by rw [hdle]

end State.Spares

/-! ## Acts at a point -/

/-- Acts on the points: of the rest of the part the start queue, the prices, the displays' checks and the report queue alone
move. -/
structure State.ActsOnPoints (s t : State) : Prop where
  proceeds : s.Proceeds t
  crg : t.crg = s.crg
  psc : t.psc = { s.psc with startQueue := t.psc.startQueue, lastGrant := t.psc.lastGrant }
  newest : t.ptu.newest = s.ptu.newest
  holders : t.dle.holders = s.dle.holders

theorem State.ActsOnPoints.refl (s : State) : s.ActsOnPoints s := ⟨.refl s, rfl, rfl, rfl, rfl⟩

theorem State.ActsOnPoints.trans {s t u : State} (h : s.ActsOnPoints t) (k : t.ActsOnPoints u) : s.ActsOnPoints u where
  proceeds := h.proceeds.trans k.proceeds
  crg := k.crg.trans h.crg
  psc := by rw [k.psc, h.psc]
  newest := k.newest.trans h.newest
  holders := k.holders.trans h.holders

/-- An act at a point, which spares the other. -/
structure State.ActsAt (s t : State) (p : Point) : Prop extends State.ActsOnPoints s t where
  spares : ∀ q, q ≠ p → s.Spares t q

namespace State.ActsAt

variable {s t u : State} {p : Point}

theorem trans (h : s.ActsAt t p) (k : t.ActsAt u p) : s.ActsAt u p :=
  ⟨h.toActsOnPoints.trans k.toActsOnPoints, fun q hq => (h.spares q hq).trans (k.spares q hq)⟩

theorem refl (s : State) (p : Point) : s.ActsAt s p := ⟨.refl s, fun q _ => .refl s q⟩

theorem post (s : State) (p : Point) (target : ReportTarget) (data : ReportData) : s.ActsAt (s.post target data) p :=
  ⟨⟨.post s _ _, rfl, rfl, rfl, rfl⟩, fun _ _ => .of_fields rfl rfl rfl rfl⟩

theorem enterIdle (s : State) (p : Point) : s.ActsAt (s.enterIdle p) p where
  proceeds := .enterIdle s p
  crg := by simp
  psc := by simp
  newest := by
    have hadopt := (State.adopt_ptu (s.mapPoint p (·.toFree .idle)) p).1
    unfold State.enterIdle State.callIfUp
    split
    · exact hadopt
    · exact hadopt
  holders := by simp
  spares q hq := .of_fields (by rw [State.enterIdle_point, if_neg hq]) (by simp) (by simp) (by simp)

theorem endAuthorization (s : State) (p : Point) (r : AuthEnd) : s.ActsAt (s.endAuthorization p r) p :=
  (State.ActsAt.post s p _ _).trans (.enterIdle _ p)

theorem leaveStarting (s : State) (p : Point) : s.ActsAt (s.leaveStarting p) p where
  proceeds := .leaveStarting s p
  crg := rfl
  psc := rfl
  newest := rfl
  holders := rfl
  spares q hq := by
    refine ⟨.inl (by rw [State.leaveStarting_point, if_neg hq]), fun _ _ _ => rfl, rfl, rfl, fun m => ?_⟩
    have hw : (s.leaveStarting p).dle.waiters.get m =
        if s.dle.waiters.get m = some p then none else s.dle.waiters.get m := by
      have hdle : (s.leaveStarting p).dle.waiters = s.dle.waiters.map fun w => if w = some p then none else w := rfl
      rw [hdle, Quad.get_map]
    rw [hw]
    split
    · rename_i h
      simp [h, Ne.symm hq]
    · exact Iff.rfl

/-- The stop of a holder: a withdrawn start may grant the other point's motor (R62, R68, R177). -/
theorem enterStopping (s : State) {p : Point} {m : Meter} (hm : s.dle.holders.get m = some p) (c : StopCause) :
    s.ActsAt (s.enterStopping p m c) p where
  proceeds := .enterStopping s p m c
  crg := by simp
  psc := (s.enterStopping_moves p m c).psc
  newest := by simp
  holders := (s.enterStopping_table p m c).1
  spares q hq := by
    have hgrants := State.Grants.dropMotor (s.shut p m c) m
    have hopens := State.Opens.dropMotor (s.shut p m c) m
    have hdle := s.shut_dle p m c
    have hpoint : (s.shut p m c).point q = s.point q := by rw [State.shut_point, if_neg hq]
    have hpoint' : (s.enterStopping p m c).point q = ((s.shut p m c).dropMotor m).point q := by
      rw [State.enterStopping_eq]
      simp [State.point]
    refine ⟨?_, fun j hst hj => ?_, ?_, (s.enterStopping_table p m c).1, fun j => ?_⟩
    · rw [hpoint', ← hpoint]
      refine (hopens.point q).imp_right fun ⟨⟨j, _, hj⟩, hst, hflow, hcur⟩ => ⟨hst, ⟨j, ?_⟩, hflow, hcur⟩
      rw [← hdle, hj]
    · have hno : ¬ (s.shut p m c).mayOpen q := fun h => hst (by rw [← hpoint]; exact h.1)
      have hjm : j ≠ m := fun h => hq (Option.some.inj (hj.symm.trans (h ▸ hm)))
      have hshut : (s.shut p m c).channel j = s.channel j :=
        (State.commandValves_channel (s.mapPoint p fun d => d.stopped c s.now) m j false false).1 hjm
      have hchan : (s.enterStopping p m c).channel j = ((s.shut p m c).dropMotor m).channel j := by
        rw [State.enterStopping_eq]
        simp [State.channel]
      rw [hchan, hgrants.channel q j hno (by rw [hdle, hj]), hshut]
    · have hddu : (s.shut p m c).ddu = s.ddu := by simp [State.shut]
      rw [State.enterStopping_eq]
      simp [State.side, State.withdrawZero, hddu, hq]
    · rw [(s.enterStopping_table p m c).2]

theorem stopHolder (s : State) (p : Point) (c : StopCause) : s.ActsAt (s.stopHolder p c) p := by
  obtain h | ⟨m, hm, h⟩ := s.stopHolder_cases p c <;> rw [h]
  · exact .refl s p
  · exact .enterStopping s (State.holder_of_heldBy s hm) c

theorem cancelPoint (s : State) (p : Point) : s.ActsAt (s.cancelPoint p) p := by
  unfold State.cancelPoint
  split
  · exact .enterIdle s p
  · split
    · exact (State.ActsAt.leaveStarting s p).trans (.enterIdle _ p)
    · exact .stopHolder s p _

theorem endPermission (s : State) (p : Point) (r : AuthEnd) (c : StopCause) : s.ActsAt (s.endPermission p r c) p := by
  unfold State.endPermission
  split
  · exact .endAuthorization s p r
  · split
    · exact (State.ActsAt.leaveStarting s p).trans (.endAuthorization _ p r)
    · split
      · exact .stopHolder s p c
      · exact .refl s p

theorem emergencyDelivery (s : State) (p : Point) : s.ActsAt (s.emergencyDelivery p) p := by
  unfold State.emergencyDelivery
  split
  · exact .stopHolder s p _
  · split
    · exact .endPermission s p _ _
    · exact .refl s p

theorem emergencyAuthorized (s : State) (p : Point) : s.ActsAt (s.emergencyAuthorized p) p := by
  unfold State.emergencyAuthorized
  split
  · exact .endAuthorization s p _
  · exact .refl s p

theorem silencePoint (s : State) (p : Point) : s.ActsAt (s.silencePoint p) p := by
  unfold State.silencePoint
  split
  · exact .endAuthorization s p _
  · exact .refl s p

end State.ActsAt

/-! ## What the acts do at their point -/

/-- The begun record of a point is discarded, its sequence number given back (R52, R64). -/
def PointData.discarded (d : PointData) : PointData :=
  { d with current := none, saleTable := none, figuresAt := none, lastSeq := (d.lastSeq + 65535) % 65536 }

section
variable (s : State) (p : Point)

theorem State.endAuthorization_point (r : AuthEnd) :
    (s.endAuthorization p r).point p = (s.point p).freed (s.lowestUp p) s.ptu.newest := by
  rw [State.endAuthorization, State.enterIdle_point, if_pos rfl]
  rfl

/-- A point that leaves STARTING without its meter waits for none (R64). -/
theorem State.leaveStarting_waiters (m : Meter) : (s.leaveStarting p).dle.waiters.get m ≠ some p := by
  have hdle : (s.leaveStarting p).dle.waiters = s.dle.waiters.map fun w => if w = some p then none else w := rfl
  rw [hdle, Quad.get_map]
  split
  · simp
  · assumption

/-- A waiter that is freed: its record is discarded, and it waits no more (R64, R73). -/
theorem State.leaveStarting_enterIdle : ((s.leaveStarting p).enterIdle p).point p =
      (s.point p).discarded.freed (s.lowestUp p) s.ptu.newest
    ∧ ∀ m, ((s.leaveStarting p).enterIdle p).dle.waiters.get m ≠ some p := by
  refine ⟨?_, fun m => ?_⟩
  · rw [State.enterIdle_point, if_pos rfl, State.leaveStarting_point, if_pos rfl]
    rfl
  · rw [State.enterIdle_eq]
    exact s.leaveStarting_waiters p m

/-- A waiter whose authorization ends with a report. -/
theorem State.leaveStarting_endAuthorization (r : AuthEnd) : ((s.leaveStarting p).endAuthorization p r).point p =
      (s.point p).discarded.freed (s.lowestUp p) s.ptu.newest
    ∧ ∀ m, ((s.leaveStarting p).endAuthorization p r).dle.waiters.get m ≠ some p := by
  refine ⟨?_, fun m => ?_⟩
  · rw [State.endAuthorization_point, State.leaveStarting_point, if_pos rfl]
    rfl
  · rw [State.endAuthorization, State.enterIdle_eq]
    exact s.leaveStarting_waiters p m

end

/-- A holder that has been stopped with a cause: in STOPPING with its record, its valves closed and its zero check withdrawn
(R64, R66, R68, R118). -/
structure State.StoppingAt (t : State) (p : Point) (m : Meter) (r : DeliveryRecord) (c : StopCause) (now : Nat) : Prop where
  st : (t.point p).st = .stopping
  current : (t.point p).current = some { r with cause := some c }
  quiet : (t.point p).quietDue = some (now + r.quiet)
  zero : (t.side p).zero = .none
  valves : (t.channel m).mainOpen = false ∧ (t.channel m).slowOpen = false
  holder : t.dle.holders.get m = some p

theorem State.stopHolder_stopped {s : State} {p : Point} {m : Meter} {r : DeliveryRecord} (hheld : s.heldBy p = some m)
    (hst : (s.point p).st = .starting ∨ (s.point p).st.flowing = true) (hcur : (s.point p).current = some r)
    (c : StopCause) : (s.stopHolder p c).StoppingAt p m r c s.now := by
  have hm := State.holder_of_heldBy s hheld
  obtain ⟨hstopping, hrecord, hquiet, -⟩ := PointData.stopped_record hcur c s.now
  rw [State.stopHolder_eq hheld hst]
  refine ⟨?_, ?_, ?_, ?_, s.enterStopping_valves p m c hm, ?_⟩
  · rw [State.enterStopping_point, hstopping]
  · rw [State.enterStopping_point, hrecord]
  · rw [State.enterStopping_point, hquiet]
  · rw [State.enterStopping_side]
  · rw [(s.enterStopping_table p m c).1, hm]

/-- A stopped holder stays as it is where the other point is acted on. -/
theorem State.StoppingAt.spared {s t : State} {p : Point} {m : Meter} {r : DeliveryRecord} {c : StopCause} {now : Nat}
    (h : s.StoppingAt p m r c now) (k : s.Spares t p) : t.StoppingAt p m r c now := by
  have hne : (s.point p).st ≠ .starting := by simp [h.st]
  have hp := k.same hne
  exact ⟨by rw [hp, h.st], by rw [hp, h.current], by rw [hp, h.quiet], by rw [k.side, h.zero],
    by rw [k.channel m hne h.holder]; exact h.valves, by rw [k.holders, h.holder]⟩

/-- It stays so at the end of the event, be it that of a drain. -/
theorem State.StoppingAt.drained {s before : State} {p : Point} {m : Meter} {r : DeliveryRecord} {c : StopCause} {now : Nat}
    (h : s.StoppingAt p m r c now) : (s.drainTest before).StoppingAt p m r c now := by
  rw [State.drainTest_of_selling (p := p) (by rw [h.st]; rfl)]
  exact h

/-! ## The end of the event for a freed point -/

/-- A point that a completed drain has passed is the same, or was IDLE or CALLING and is CLOSED on the newest generation
(R79). -/
theorem State.drainPoint_point (s : State) (p q : Point) : (s.drainPoint p).point q = s.point q
    ∨ (((s.point q).st = .idle ∨ (s.point q).st = .calling)
      ∧ (s.drainPoint p).point q = { (s.point q).toFree .closed with generation := s.ptu.newest }) := by
  unfold State.drainPoint
  split
  · rename_i hst
    rw [State.enterClosed_point]
    split
    · rename_i hq
      exact .inr ⟨hq ▸ hst, by rw [hq]⟩
    · exact .inl rfl
  · exact .inl rfl

theorem State.enterClosed_newest (s : State) (p : Point) : (s.enterClosed p).ptu.newest = s.ptu.newest :=
  (State.adopt_ptu (s.mapPoint p (·.toFree .closed)) p).1

theorem State.drainPoints_point (s : State) (q : Point) : s.drainPoints.point q = s.point q
    ∨ (((s.point q).st = .idle ∨ (s.point q).st = .calling)
      ∧ s.drainPoints.point q = { (s.point q).toFree .closed with generation := s.ptu.newest }) := by
  have hnewest : (s.drainPoint .a).ptu.newest = s.ptu.newest := by
    unfold State.drainPoint
    split
    · exact s.enterClosed_newest .a
    · rfl
  rcases s.drainPoint_point .a q with ha | ⟨hst, ha⟩ <;> rcases (s.drainPoint .a).drainPoint_point .b q with hb | ⟨hst', hb⟩
  · exact .inl (hb.trans ha)
  · rw [ha] at hst' hb
    exact .inr ⟨hst', by rw [State.drainPoints, hb, hnewest]⟩
  · exact .inr ⟨hst, hb.trans ha⟩
  · rw [ha] at hst'
    simp [PointData.toFree] at hst'

/-- The completion of a drain moves the points as their closing does (R79, R170). -/
theorem State.completeDrain_points {s : State} (hidle : ∀ p, (s.point p).st.selling = false) :
    s.completeDrain.points = s.drainPoints.points := by
  have hpoints : s.Drained s.drainPoints := (State.Drained.drainPoint s .a).trans (.drainPoint _ .b)
  have hsame : ((s.drainPoints.allMotorsOff).enterPower .night .drainDone).points = s.drainPoints.points := rfl
  have hselling (p : Point) := (State.Drained.enterNight s.drainPoints).selling p (hpoints.selling p (hidle p))
  generalize hu : (s.drainPoints.allMotorsOff).enterPower .night .drainDone = u at hsame hselling
  have hrests (l : List Load) (n : Nat) :
      u.Rests (u.mapPsc fun c => { c with shutdown := l, shutdownDue := n }).shutNext := by
    have hlist : u.Rests (u.mapPsc fun c => { c with shutdown := l, shutdownDue := n }) := .mapPsc u rfl
    exact hlist.trans (.shutNext (hlist.selling hselling))
  simp only [State.completeDrain, hu]
  exact (hrests _ _).points.trans hsame

/-- A point at the end of an event stands, or was IDLE or CALLING in DRAINING and is CLOSED on the newest generation (R79,
R169). -/
theorem State.drainTest_point (s before : State) (q : Point) : (s.drainTest before).point q = s.point q
    ∨ (s.psc.power = .draining ∧ ((s.point q).st = .idle ∨ (s.point q).st = .calling)
      ∧ (s.drainTest before).point q = { (s.point q).toFree .closed with generation := s.ptu.newest }) := by
  unfold State.drainTest
  split
  · rename_i h
    obtain ⟨hpower, hidle, -⟩ := h
    rw [State.point, State.completeDrain_points (State.selling_of_anySelling hidle), ← State.point]
    exact (s.drainPoints_point q).imp_right fun ⟨hst, hp⟩ => ⟨hpower, hst, hp⟩
  · exact .inl rfl

theorem State.drainTest_current (s before : State) (q : Point) :
    ((s.drainTest before).point q).current = (s.point q).current := by
  rcases s.drainTest_point before q with h | ⟨-, -, h⟩ <;> rw [h]
  rfl

/-- What of a freed point stands at the end of the event, whether a drain completes with it or not. -/
structure PointData.FreedAs (d e : PointData) (newest : Nat) : Prop where
  free : e.st.free = true
  auth : e.auth = none
  generation : e.generation = newest
  current : e.current = d.current
  lastSeq : e.lastSeq = d.lastSeq

theorem State.drainTest_freed {s before : State} {p : Point} {d : PointData} {up : Option Position} {newest : Nat}
    (h : s.point p = d.freed up newest) (hnewest : s.ptu.newest = newest) :
    d.FreedAs ((s.drainTest before).point p) newest
      ∧ (s.psc.power ≠ .draining →
        ((s.drainTest before).point p).st = if up.isSome then .calling else .idle) := by
  rcases s.drainTest_point before p with hp | ⟨hpower, -, hp⟩ <;> rw [hp, h]
  · refine ⟨⟨?_, rfl, rfl, rfl, rfl⟩, fun _ => rfl⟩
    cases up <;> rfl
  · exact ⟨⟨rfl, rfl, hnewest, rfl, rfl⟩, fun hne => absurd hpower hne⟩

end Sys2Proof.Machine
end

section
/-! PROOFS. Family 4, CANCEL (R73), the emergency stop (R77, R78), and the authorization timeout and host silence (R74, R75). -/

namespace Sys2Proof.Machine

/-! ## One act between what leaves its point alone -/

theorem State.ActsOnPoints.lowestUp {s t : State} (h : s.ActsOnPoints t) (p : Point) : t.lowestUp p = s.lowestUp p :=
  State.lowestUp_congr h.proceeds.pins p

theorem State.Spares.heldBy {s t : State} {p : Point} (h : s.Spares t p) : t.heldBy p = s.heldBy p :=
  State.heldBy_congr h.holders p

theorem State.Spares.waiting {s t : State} {p : Point} (h : s.Spares t p) (hw : s.waiting p = true) :
    t.waiting p = true ∧ t.point p = s.point p := by
  simp only [State.waiting, State.holds, Bool.and_eq_true, decide_eq_true_eq, Bool.not_eq_true', Option.isSome_eq_false_iff,
    Option.isNone_iff_eq_none] at hw ⊢
  obtain ⟨hst, hheld⟩ := hw
  have hp := h.same_of_unheld hheld
  exact ⟨⟨by rw [hp, hst], by rw [h.heldBy, hheld]⟩, hp⟩

/-- The waiters of the meters stand at the end of the event (R169). -/
theorem State.drainTest_waiters (s before : State) : (s.drainTest before).dle.waiters = s.dle.waiters := by
  rw [State.drainTest_drained.1.dle]

/-- A point freed by an act stands so where the other is acted on, and at the end of the event. -/
theorem State.freed_drained {s t before : State} {p : Point} {d : PointData} {up : Option Position} {newest : Nat}
    (h : s.point p = d.freed up newest) (k : s.Spares t p) (hnewest : t.ptu.newest = newest) :
    d.FreedAs ((t.drainTest before).point p) newest
      ∧ (t.psc.power ≠ .draining → ((t.drainTest before).point p).st = if up.isSome then .calling else .idle) := by
  have hst : (s.point p).st ≠ .starting := by
    rw [h]
    cases up <;> simp [PointData.freed, PointData.toFree]
  exact State.drainTest_freed ((k.same hst).trans h) hnewest

/-- The waits of a point stay ended where the other is acted on, and at the end of the event. -/
theorem State.unwaited_drained {s t before : State} {p : Point} (h : ∀ m, s.dle.waiters.get m ≠ some p) (k : s.Spares t p)
    (m : Meter) : (t.drainTest before).dle.waiters.get m ≠ some p := by
  rw [State.drainTest_waiters]
  exact mt (k.waiters m).1 (h m)

/-! ## CANCEL (R73) -/

theorem exec_cancel {s : State} {n : Nat} {l : List Point} (ht : s.takes (.cancel n) = true) (hl : pointsOf n = some l) :
    exec (.cancel n) s = .next (s.answered 0x15 (.acts (l.foldl State.cancelPoint s) [0])) := by
  have hexec : exec (.cancel n) s = execCancel n s := rfl
  rw [hexec, execCancel, State.request_taken ht, hl]
  rfl

theorem State.cancelPoint_authorized {s : State} {p : Point} (hst : (s.point p).st = .authorized) :
    s.cancelPoint p = s.enterIdle p := by rw [State.cancelPoint, if_pos hst]

theorem State.cancelPoint_waiting {s : State} {p : Point} (hw : s.waiting p = true) :
    s.cancelPoint p = (s.leaveStarting p).enterIdle p := by
  have hst : (s.point p).st ≠ .authorized := by
    simp only [State.waiting, Bool.and_eq_true, decide_eq_true_eq] at hw
    simp [hw.1]
  rw [State.cancelPoint, if_neg hst, if_pos hw]

/-- Any other point is stopped where it may be (R64, R66, R73). -/
theorem State.cancelPoint_stops {s : State} {p : Point} (hst : (s.point p).st ≠ .authorized) (hw : s.waiting p = false) :
    s.cancelPoint p = s.stopHolder p .hostCancel := by
  rw [State.cancelPoint, if_neg hst, if_neg (by simp [hw])]

theorem PointSt.not_stoppable {st : PointSt} (h : st ∈ [.closed, .idle, .calling, .stopping, .finished]) :
    st ≠ .authorized ∧ st ≠ .starting ∧ ¬ (st = .starting ∨ st.flowing = true) := by
  cases st <;> simp [PointSt.flowing] at h ⊢

theorem State.cancelPoint_same {s : State} {p : Point}
    (hst : (s.point p).st ∈ [.closed, .idle, .calling, .stopping, .finished]) : s.cancelPoint p = s := by
  obtain ⟨hauth, hstarting, hstop⟩ := PointSt.not_stoppable hst
  rw [State.cancelPoint_stops hauth (by simp [State.waiting, hstarting]), State.stopHolder_of_not hstop]

/-- A point is cancelled among acts on the other: the state in which its turn comes, and what follows it. -/
structure State.CancelledIn (s t : State) (p : Point) : Prop where
  turn : ∃ u, s.Spares u p ∧ s.ActsOnPoints u ∧ (u.cancelPoint p).Spares t p
  acts : s.ActsOnPoints t

/-- CANCEL of a list of points cancels each of them and spares the others. -/
theorem State.cancel_foldl (s : State) {n : Nat} {l : List Point} (hl : pointsOf n = some l) :
    s.ActsOnPoints (l.foldl State.cancelPoint s)
      ∧ ∀ p, (p ∈ l → s.CancelledIn (l.foldl State.cancelPoint s) p)
        ∧ (p ∉ l → s.Spares (l.foldl State.cancelPoint s) p) := by
  have hone (q : Point) : s.ActsOnPoints (s.cancelPoint q)
      ∧ ∀ p, (p ∈ [q] → s.CancelledIn (s.cancelPoint q) p) ∧ (p ∉ [q] → s.Spares (s.cancelPoint q) p) := by
    have hacts := State.ActsAt.cancelPoint s q
    refine ⟨hacts.toActsOnPoints, fun p => ⟨fun hp => ?_, fun hp => hacts.spares p (by simpa using hp)⟩⟩
    rw [List.mem_singleton.1 hp]
    exact ⟨⟨s, .refl s q, .refl s, .refl _ q⟩, hacts.toActsOnPoints⟩
  have ha := State.ActsAt.cancelPoint s .a
  have hb := State.ActsAt.cancelPoint (s.cancelPoint .a) .b
  have hboth := ha.toActsOnPoints.trans hb.toActsOnPoints
  match n, hl with
  | 1, hl =>
    obtain rfl := Option.some.inj hl
    exact hone .a
  | 2, hl =>
    obtain rfl := Option.some.inj hl
    exact hone .b
  | 3, hl =>
    obtain rfl := Option.some.inj hl
    refine ⟨hboth, fun p => ⟨fun _ => ?_, fun hp => absurd (by cases p <;> simp) hp⟩⟩
    cases p with
    | a => exact ⟨⟨s, .refl s .a, .refl s, hb.spares .a (by decide)⟩, hboth⟩
    | b => exact ⟨⟨_, ha.spares .b (by decide), ha.toActsOnPoints, .refl _ .b⟩, hboth⟩

section
variable {s t before : State} {p : Point} (h : s.CancelledIn t p)
include h

theorem State.CancelledIn.authorized (hst : (s.point p).st = .authorized) :
    (s.point p).FreedAs ((t.drainTest before).point p) s.ptu.newest
      ∧ (s.psc.power ≠ .draining →
        ((t.drainTest before).point p).st = if (s.lowestUp p).isSome then .calling else .idle) := by
  obtain ⟨⟨u, hu, hacts, ht⟩, htacts⟩ := h
  have hp := hu.same (by simp [hst])
  have hpower : t.psc.power = s.psc.power := by rw [htacts.psc]
  rw [State.cancelPoint_authorized (by rw [hp, hst])] at ht
  have hfreed : (u.enterIdle p).point p = (s.point p).freed (s.lowestUp p) s.ptu.newest := by
    rw [State.enterIdle_point, if_pos rfl, hp, hacts.lowestUp, hacts.newest]
  rw [← hpower]
  exact State.freed_drained hfreed ht htacts.newest

theorem State.CancelledIn.waiting (hw : s.waiting p = true) :
    ((s.point p).discarded.FreedAs ((t.drainTest before).point p) s.ptu.newest
      ∧ (s.psc.power ≠ .draining →
        ((t.drainTest before).point p).st = if (s.lowestUp p).isSome then .calling else .idle))
    ∧ ∀ m, (t.drainTest before).dle.waiters.get m ≠ some p := by
  obtain ⟨⟨u, hu, hacts, ht⟩, htacts⟩ := h
  obtain ⟨hwu, hp⟩ := hu.waiting hw
  have hpower : t.psc.power = s.psc.power := by rw [htacts.psc]
  rw [State.cancelPoint_waiting hwu] at ht
  obtain ⟨hfreed, hwaiters⟩ := u.leaveStarting_enterIdle p
  rw [hp, hacts.lowestUp, hacts.newest] at hfreed
  rw [← hpower]
  exact ⟨State.freed_drained hfreed ht htacts.newest, State.unwaited_drained hwaiters ht⟩

theorem State.CancelledIn.holder {m : Meter} {r : DeliveryRecord}
    (hst : (s.point p).st = .starting ∨ (s.point p).st.flowing = true) (hheld : s.heldBy p = some m)
    (hcur : (s.point p).current = some r) : (t.drainTest before).StoppingAt p m r .hostCancel s.now := by
  obtain ⟨⟨u, hu, hacts, ht⟩, -⟩ := h
  have hheld' : u.heldBy p = some m := hu.heldBy.trans hheld
  have hst' := hu.stoppable hst
  have hauth : (u.point p).st ≠ .authorized := by
    rintro ha
    simp [ha, PointSt.flowing] at hst'
  rw [State.cancelPoint_stops hauth (State.waiting_of_held hheld')] at ht
  have hstopped := State.stopHolder_stopped hheld' hst' (hu.current.trans hcur) .hostCancel
  rw [hacts.proceeds.now] at hstopped
  exact (hstopped.spared ht).drained

theorem State.CancelledIn.same (hst : (s.point p).st ∈ [.closed, .idle, .calling, .stopping, .finished])
    (hpower : s.psc.power ≠ .draining) : (t.drainTest before).point p = s.point p := by
  obtain ⟨⟨u, hu, -, ht⟩, htacts⟩ := h
  obtain ⟨-, hstarting, -⟩ := PointSt.not_stoppable hst
  have hp := hu.same hstarting
  rw [State.cancelPoint_same (by rw [hp]; exact hst)] at ht
  rw [State.drainTest_of_power (by rw [htacts.psc]; exact hpower), ht.same (by rw [hp]; exact hstarting), hp]

end

/-- Settles O28: the points are cancelled one after the other, and the cancelling of one can at most open the valves of the
other, by a start that its own withdrawal grants, before that one is cancelled too. -/
theorem cancelActsByState : Obligations.CancelActsByState := by
  refine ⟨fun s n l hr ht hl => ?_, fun s n p hr ht hp => ?_⟩
  · have hnamed : pointsOf n = some l := by rcases hl with ⟨rfl, rfl⟩ | ⟨rfl, rfl⟩ | ⟨rfl, rfl⟩ <;> rfl
    obtain ⟨hacts, hpoints⟩ := s.cancel_foldl hnamed
    rw [exec_cancel ht hnamed, State.answered_eq_drain hr hacts.crg hacts.psc]
    generalize l.foldl State.cancelPoint s = t at hacts hpoints
    have hproceeds := hacts.proceeds.trans (.drainTest t s)
    refine ⟨_, rfl, State.respond_answer _ _ _, ?_⟩
    rw [State.respond_eq]
    refine ⟨hproceeds.pins, hproceeds.display, hproceeds.now, hproceeds.counter, fun p => ?_⟩
    obtain ⟨hin, hout⟩ := hpoints p
    refine ⟨fun hp => (t.drainTest_current s p).trans (hout hp).current, fun hp => ⟨?_, fun m r hst hheld hcur => ?_,
      fun hst hpower => (hin hp).same hst hpower⟩⟩
    · rintro (hst | ⟨hst, hheld⟩)
      · obtain ⟨⟨hfree, hauth, hgen, hcur, hseq⟩, hst'⟩ := (hin hp).authorized (before := s) hst
        exact ⟨hfree, hauth, hgen, hst', fun _ => ⟨hcur, hseq⟩, fun hs => absurd (hst.symm.trans hs) (by decide)⟩
      · obtain ⟨⟨⟨hfree, hauth, hgen, hcur, hseq⟩, hst'⟩, hwaiters⟩ :=
          (hin hp).waiting (before := s) (State.waiting_of_unheld hst hheld)
        exact ⟨hfree, hauth, hgen, hst', fun hs => absurd (hst.symm.trans hs) (by decide), fun _ => ⟨hcur, hseq, hwaiters⟩⟩
    · obtain ⟨hstopping, hrecord, hquiet, hzero, ⟨hmain, hslow⟩, -⟩ :=
        (hin hp).holder (before := s) (PointSt.stoppable hst) hheld hcur
      exact ⟨hstopping, hrecord, hquiet, hzero, hmain, hslow⟩
  · have hnamed : pointsOf n = some [p] := by
      match n, hp with
      | 1, hp => rw [← Option.some.inj hp]; rfl
      | 2, hp => rw [← Option.some.inj hp]; rfl
    refine ⟨fun hst hrun hnewest hup => ?_, fun hst => ?_⟩
    · have hcancel : [p].foldl State.cancelPoint s = s.mapPoint p (·.toFree .idle) :=
        (State.cancelPoint_authorized hst).trans (s.enterIdle_plain p hnewest hup)
      rw [exec_cancel ht hnamed, hcancel]
      exact congrArg _ (State.answered_run (t := s.mapPoint p (·.toFree .idle)) hr rfl rfl hrun rfl _ _)
    · have hcancel : [p].foldl State.cancelPoint s = s := State.cancelPoint_same hst
      obtain ⟨-, hc, hd, hn⟩ := State.runs_iff.1 hr
      rw [exec_cancel ht hnamed, hcancel, State.answered_plain hn rfl rfl hc hd]

end Sys2Proof.Machine
end

section
/-! PROOFS. Family 4, the emergency stop (R77, R78), and the authorization timeout and host silence (R74, R75). -/

namespace Sys2Proof.Machine

/-! ## The emergency stop (R77, R78) -/

/-- A waiter among the deliveries of an emergency stop leaves STARTING, and its authorization ends (R64, R77). -/
theorem State.emergencyDelivery_waiting {s : State} {p : Point} (hw : s.waiting p = true) :
    s.emergencyDelivery p = (s.leaveStarting p).endAuthorization p .emergency := by
  have hst : (s.point p).st = .starting := by
    simp only [State.waiting, Bool.and_eq_true, decide_eq_true_eq] at hw
    exact hw.1
  rw [State.emergencyDelivery, if_neg (by simp [hst, PointSt.flowing]), if_pos hst, State.endPermission,
    if_neg (by simp [hst]), if_pos hw]

/-- A holder among them stops (R64, R66). -/
theorem State.emergencyDelivery_holder {s : State} {p : Point} {m : Meter} (hheld : s.heldBy p = some m)
    (hst : (s.point p).st = .starting ∨ (s.point p).st.flowing = true) :
    s.emergencyDelivery p = s.stopHolder p .emergency := by
  unfold State.emergencyDelivery
  split
  · rfl
  · rename_i hflow
    have hstarting := hst.resolve_right hflow
    rw [if_pos hstarting, State.endPermission, if_neg (by simp [hstarting]),
      if_neg (by simp [State.waiting_of_held hheld]), if_pos hstarting]

theorem State.emergencyDelivery_authorized {s : State} {p : Point} (hst : (s.point p).st = .authorized) :
    s.emergencyDelivery p = s := by
  rw [State.emergencyDelivery, if_neg (by simp [hst, PointSt.flowing]), if_neg (by simp [hst])]

theorem State.emergencyAuthorized_of_not {s : State} {p : Point} (hst : (s.point p).st ≠ .authorized) :
    s.emergencyAuthorized p = s := by rw [State.emergencyAuthorized, if_neg hst]

/-- The two turns of a point in an emergency stop, each among acts on the other point. -/
structure State.EmergencyIn (s t : State) (p : Point) : Prop where
  turns : ∃ u v, s.Spares u p ∧ s.ActsOnPoints u ∧ (u.emergencyDelivery p).Spares v p ∧ s.ActsOnPoints v
    ∧ (v.emergencyAuthorized p).Spares t p
  acts : s.ActsOnPoints t

theorem State.emergencyStop_in (s : State) (p : Point) : s.EmergencyIn s.emergencyStop p := by
  have h1 := State.ActsAt.emergencyDelivery s .a
  have h2 := State.ActsAt.emergencyDelivery (s.emergencyDelivery .a) .b
  have h3 := State.ActsAt.emergencyAuthorized ((s.emergencyDelivery .a).emergencyDelivery .b) .a
  have h4 := State.ActsAt.emergencyAuthorized (((s.emergencyDelivery .a).emergencyDelivery .b).emergencyAuthorized .a) .b
  have h12 := h1.toActsOnPoints.trans h2.toActsOnPoints
  have h13 := h12.trans h3.toActsOnPoints
  refine ⟨?_, h13.trans h4.toActsOnPoints⟩
  cases p with
  | a => exact ⟨s, _, .refl s .a, .refl s, h2.spares .a (by decide), h12, h4.spares .a (by decide)⟩
  | b => exact ⟨_, _, h1.spares .b (by decide), h1.toActsOnPoints, h3.spares .b (by decide), h13, .refl _ .b⟩

section
variable {s t before : State} {p : Point} (h : s.EmergencyIn t p)
include h

theorem State.EmergencyIn.authorized (hst : (s.point p).st = .authorized) :
    (s.point p).FreedAs ((t.drainTest before).point p) s.ptu.newest := by
  obtain ⟨⟨u, v, hu, -, hv, hvacts, ht⟩, htacts⟩ := h
  have hp := hu.same (by simp [hst])
  rw [State.emergencyDelivery_authorized (by rw [hp, hst])] at hv
  have hpv : v.point p = s.point p := (hv.same (by simp [hp, hst])).trans hp
  rw [State.emergencyAuthorized, if_pos (by rw [hpv, hst])] at ht
  have hfreed := v.endAuthorization_point p .emergency
  rw [hpv, hvacts.newest] at hfreed
  exact (State.freed_drained hfreed ht htacts.newest).1

theorem State.EmergencyIn.waiting (hw : s.waiting p = true) :
    (s.point p).discarded.FreedAs ((t.drainTest before).point p) s.ptu.newest
      ∧ ∀ m, (t.drainTest before).dle.waiters.get m ≠ some p := by
  obtain ⟨⟨u, v, hu, hacts, hv, -, ht⟩, htacts⟩ := h
  obtain ⟨hwu, hp⟩ := hu.waiting hw
  rw [State.emergencyDelivery_waiting hwu] at hv
  obtain ⟨hfreed, hwaiters⟩ := u.leaveStarting_endAuthorization p .emergency
  rw [hp, hacts.newest] at hfreed
  have hst : (((u.leaveStarting p).endAuthorization p .emergency).point p).st ≠ .starting
      ∧ (((u.leaveStarting p).endAuthorization p .emergency).point p).st ≠ .authorized := by
    rw [hfreed]
    cases u.lowestUp p <;> simp [PointData.freed, PointData.toFree]
  rw [State.emergencyAuthorized_of_not (by rw [hv.same hst.1]; exact hst.2)] at ht
  exact ⟨(State.freed_drained hfreed (hv.trans ht) htacts.newest).1, State.unwaited_drained hwaiters (hv.trans ht)⟩

theorem State.EmergencyIn.holder {m : Meter} {r : DeliveryRecord}
    (hst : (s.point p).st = .starting ∨ (s.point p).st.flowing = true) (hheld : s.heldBy p = some m)
    (hcur : (s.point p).current = some r) : (t.drainTest before).StoppingAt p m r .emergency s.now := by
  obtain ⟨⟨u, v, hu, hacts, hv, -, ht⟩, -⟩ := h
  have hheld' : u.heldBy p = some m := hu.heldBy.trans hheld
  rw [State.emergencyDelivery_holder hheld' (hu.stoppable hst)] at hv
  have hstopped := State.stopHolder_stopped hheld' (hu.stoppable hst) (hu.current.trans hcur) .emergency
  rw [hacts.proceeds.now] at hstopped
  have hstopped' := hstopped.spared hv
  rw [State.emergencyAuthorized_of_not (by simp [hstopped'.st])] at ht
  exact (hstopped'.spared ht).drained

end

theorem exec_stopAll {s : State} (ht : s.takes .stopAll = true) :
    exec .stopAll s = .next (s.answered 0x17 (.acts s.emergencyStop [0])) := by
  have hexec : exec .stopAll s = execStopAll s := rfl
  rw [hexec, execStopAll, State.request_taken ht]
  rfl

theorem exec_emergencyStopAssert (s : State) : exec .emergencyStopAssert s =
    s.inputEvent (s.moveEmergency true) fun t =>
      if s.pins.emergency then t else (t.changed .emergencyStop true).emergencyStop := rfl

theorem exec_emergencyStopRelease (s : State) : exec .emergencyStopRelease s =
    s.inputEvent (s.moveEmergency false) fun t =>
      if s.pins.emergency then t.changed .emergencyStop false else t := rfl

/-- The emergency line asserted, its change told (R77, R189). -/
def State.lineAsserted (s : State) : State := (s.moveEmergency true).changed .emergencyStop true

theorem State.lineAsserted_frame (s : State) :
    s.lineAsserted.points = s.points ∧ s.lineAsserted.dle = s.dle ∧ s.lineAsserted.miu = s.miu
      ∧ s.lineAsserted.now = s.now ∧ s.lineAsserted.display = s.display ∧ s.lineAsserted.crg = s.crg
      ∧ s.lineAsserted.psc = s.psc ∧ s.lineAsserted.pins.emergency = true := by
  unfold State.lineAsserted
  simp [State.moveEmergency]

/-- What an emergency stop leaves at the points of the state it finds (R77, R78). -/
structure State.Stopped (s t : State) : Prop where
  still : t.display = s.display ∧ t.now = s.now ∧ ∀ m : Meter, (t.channel m).counter = (s.channel m).counter
  authorized : ∀ p, (s.point p).st = .authorized → (t.point p).st.free = true ∧ (t.point p).auth = none
  holder : ∀ p (m : Meter) (r : DeliveryRecord), (s.point p).st = .starting ∨ (s.point p).st.flowing = true →
    s.heldBy p = some m → (s.point p).current = some r →
    (t.point p).st = .stopping ∧ (t.point p).current = some { r with cause := some .emergency }
  waiting : ∀ p, (s.point p).st = .starting → s.heldBy p = none →
    (t.point p).st.free = true ∧ (t.point p).auth = none ∧ (t.point p).current = none
      ∧ (t.point p).lastSeq = ((s.point p).lastSeq + 65535) % 65536 ∧ ∀ m : Meter, t.dle.waiters.get m ≠ some p

/-- What it leaves rests on the points, the arbiter, the meters, the moment and the display settings alone. -/
theorem State.Stopped.congr {s s' t t' : State} (h : s.Stopped t)
    (hs : s.points = s'.points ∧ s.dle = s'.dle ∧ s.miu = s'.miu ∧ s.now = s'.now ∧ s.display = s'.display)
    (ht : t'.points = t.points ∧ t'.dle = t.dle ∧ t'.miu = t.miu ∧ t'.now = t.now ∧ t'.display = t.display) :
    s'.Stopped t' := by
  obtain ⟨hpoints, hdle, hmiu, hnow, hdisplay⟩ := hs
  obtain ⟨hpoints', hdle', hmiu', hnow', hdisplay'⟩ := ht
  obtain ⟨hstill, hauthorized, hholder, hwaiting⟩ := h
  simp only [State.point, State.heldBy, State.channel, hpoints, hdle, hmiu, hnow, hdisplay] at hstill hauthorized hholder hwaiting
  refine ⟨?_, ?_, ?_, ?_⟩ <;>
    simp only [State.point, State.heldBy, State.channel, hpoints', hdle', hmiu', hnow', hdisplay']
  · exact hstill
  · exact hauthorized
  · exact hholder
  · exact hwaiting

theorem State.emergencyStop_stopped (s before : State) : s.Stopped (s.emergencyStop.drainTest before) := by
  have hin := s.emergencyStop_in
  have hproceeds := (hin .a).acts.proceeds.trans (.drainTest _ before)
  refine ⟨⟨hproceeds.display, hproceeds.now, hproceeds.counter⟩, fun p hst => ?_, fun p m r hst hheld hcur => ?_,
    fun p hst hheld => ?_⟩
  · have hfreed := (hin p).authorized (before := before) hst
    exact ⟨hfreed.free, hfreed.auth⟩
  · have hstopped := (hin p).holder (before := before) hst hheld hcur
    exact ⟨hstopped.st, hstopped.current⟩
  · obtain ⟨hfreed, hwaiters⟩ := (hin p).waiting (before := before) (State.waiting_of_unheld hst hheld)
    exact ⟨hfreed.free, hfreed.auth, hfreed.current, hfreed.lastSeq, hwaiters⟩

section
variable {s : State} (hr : s.runs = true)
include hr

theorem exec_stopAll_drained (ht : s.takes .stopAll = true) :
    exec .stopAll s = .next ((s.emergencyStop.drainTest s).respond 0x17 [0]) := by
  have hacts := (s.emergencyStop_in .a).acts
  rw [exec_stopAll ht, State.answered_eq_drain hr hacts.crg hacts.psc]

theorem exec_emergencyStopAssert_drained (hline : s.pins.emergency = false) :
    exec .emergencyStopAssert s = .next ((s.lineAsserted.emergencyStop.drainTest s).commit) := by
  have hacts := (s.lineAsserted.emergencyStop_in .a).acts
  obtain ⟨-, -, -, -, -, hcrg, hpsc, -⟩ := s.lineAsserted_frame
  have hacrg := hacts.crg
  have hapsc := hacts.psc
  rw [hcrg] at hacrg
  rw [hpsc] at hapsc
  have hasserted : exec .emergencyStopAssert s = .next (s.lineAsserted.emergencyStop.settle s) := by
    rw [exec_emergencyStopAssert, State.inputEvent_powered (State.powered_of_runs hr), if_neg (by simp [hline])]
    rfl
  rw [hasserted, State.settle_eq_drain hr hacrg hapsc]

end

/-- An assertion of an asserted line leaves the state as it is. -/
theorem State.moveEmergency_same {s : State} {level : Bool} (h : s.pins.emergency = level) :
    s.moveEmergency level = s := by
  subst h
  rfl

theorem State.changed_emergencyStop_release (s : State) : s.changed .emergencyStop false =
    if s.hlp.modes.emergencyStop = .onChange then s.post .none (.condition .emergencyStop false) else s := by
  unfold State.changed
  have hmode : s.hlp.modes.of .emergencyStop = s.hlp.modes.emergencyStop := rfl
  rw [hmode]
  cases s.hlp.modes.emergencyStop <;> rfl

section
variable {s : State} (hr : s.runs = true)
include hr

theorem exec_emergencyStopAssert_same (hline : s.pins.emergency = true) : exec .emergencyStopAssert s = .next s := by
  rw [exec_emergencyStopAssert, State.inputEvent_powered (State.powered_of_runs hr), if_pos hline,
    State.moveEmergency_same hline, State.settle_same hr rfl rfl rfl rfl]

/-- A release moves the line, and posts its change where there is one and the mode asks for it (R77, R189). -/
theorem exec_emergencyStopRelease_eq : exec .emergencyStopRelease s = .next (
    if s.pins.emergency = true ∧ s.hlp.modes.emergencyStop = .onChange then
      (s.moveEmergency false).post .none (.condition .emergencyStop false) else s.moveEmergency false) := by
  rw [exec_emergencyStopRelease, State.inputEvent_powered (State.powered_of_runs hr),
    State.changed_emergencyStop_release]
  have hmodes : (s.moveEmergency false).hlp.modes.emergencyStop = s.hlp.modes.emergencyStop := rfl
  rw [hmodes]
  by_cases hline : s.pins.emergency = true
  · by_cases hmode : s.hlp.modes.emergencyStop = .onChange
    · rw [if_pos hline, if_pos hmode, if_pos ⟨hline, hmode⟩]
      exact congrArg _ (State.settle_same hr rfl rfl rfl rfl)
    · rw [if_pos hline, if_neg hmode, if_neg fun h => hmode h.2]
      exact congrArg _ (State.settle_same hr rfl rfl rfl rfl)
  · rw [if_neg hline, if_neg fun h => hline h.1]
    exact congrArg _ (State.settle_same hr rfl rfl rfl rfl)

end

/-- Settles O30: an emergency stop acts on the points alone, first on their deliveries and then on their authorizations, and the
line's change comes before it. -/
theorem emergencyStops : Obligations.EmergencyStops := by
  refine ⟨fun s t hr hcases => ?_, fun s hr ht => ?_, fun s hr => ⟨?_, fun hline => ?_, ?_⟩⟩
  · have hstopped : s.Stopped t := by
      rcases hcases with ⟨ht, hexec⟩ | ⟨hline, hexec⟩
      · rw [exec_stopAll_drained hr ht] at hexec
        obtain rfl := Host.Outcome.next.inj hexec
        refine (s.emergencyStop_stopped s).congr ⟨rfl, rfl, rfl, rfl, rfl⟩ ?_
        rw [State.respond_eq]
        exact ⟨rfl, rfl, rfl, rfl, rfl⟩
      · rw [exec_emergencyStopAssert_drained hr hline] at hexec
        obtain rfl := Host.Outcome.next.inj hexec
        obtain ⟨hpoints, hdle, hmiu, hnow, hdisplay, -⟩ := s.lineAsserted_frame
        exact (s.lineAsserted.emergencyStop_stopped s).congr ⟨hpoints, hdle, hmiu, hnow, hdisplay⟩ (by simp)
    obtain ⟨⟨hdisplay, hnow, hcounter⟩, hauthorized, hholder, hwaiting⟩ := hstopped
    exact ⟨hdisplay, hnow, hcounter, fun p => ⟨hauthorized p, hholder p, hwaiting p⟩⟩
  · have hproceeds := (s.emergencyStop_in .a).acts.proceeds.trans (.drainTest _ s)
    refine ⟨_, exec_stopAll_drained hr ht, ?_, State.respond_answer _ _ _⟩
    rw [State.respond_eq]
    exact hproceeds.pins
  · cases hline : s.pins.emergency with
    | false =>
      have hproceeds := (s.lineAsserted.emergencyStop_in .a).acts.proceeds.trans (.drainTest _ s)
      obtain ⟨-, -, -, -, -, -, -, hasserted⟩ := s.lineAsserted_frame
      refine ⟨_, exec_emergencyStopAssert_drained hr hline, ?_⟩
      simp [hproceeds.pins, hasserted]
    | true => exact ⟨s, exec_emergencyStopAssert_same hr hline, hline⟩
  · exact exec_emergencyStopAssert_same hr hline
  · exact exec_emergencyStopRelease_eq hr

/-! ## The ends of authorizations by time (R74, R75) -/

theorem exec_authorizationTimeout (p : Point) (s : State) : exec (.authorizationTimeout p) s =
    s.event ((s.point p).authDue.map fun t => (s.reach t).endAuthorization p .expired) := rfl

/-- The state in which the silence timer has run out (R191). -/
def State.silent (s : State) (due : Nat) : State := (s.reach due).mapHlp fun h => { h with silence := .expired }

theorem exec_hostSilenceExpiry (s : State) : exec .hostSilenceExpiry s =
    s.event (s.hlp.silence.due.map fun t => ((s.silent t).silencePoint .a).silencePoint .b) := rfl

theorem SilenceTimer.due_eq_none {x : SilenceTimer} (h : ∀ due, x ≠ .running due) : x.due = none := by
  cases x with
  | running due => exact absurd rfl (h due)
  | _ => rfl

theorem State.silencePoint_of_not {s : State} {p : Point} (hst : (s.point p).st ≠ .authorized) : s.silencePoint p = s := by
  rw [State.silencePoint, if_neg hst]

/-- The turn of a point as host silence ends the authorizations, among acts on the other point. -/
theorem State.silence_in (s : State) (p : Point) : s.ActsOnPoints ((s.silencePoint .a).silencePoint .b)
    ∧ ∃ u, s.Spares u p ∧ s.ActsOnPoints u ∧ (u.silencePoint p).Spares ((s.silencePoint .a).silencePoint .b) p := by
  have ha := State.ActsAt.silencePoint s .a
  have hb := State.ActsAt.silencePoint (s.silencePoint .a) .b
  refine ⟨ha.toActsOnPoints.trans hb.toActsOnPoints, ?_⟩
  cases p with
  | a => exact ⟨s, .refl s .a, .refl s, hb.spares .a (by decide)⟩
  | b => exact ⟨_, ha.spares .b (by decide), ha.toActsOnPoints, .refl _ .b⟩

section
variable {s before : State} {p : Point}

theorem State.silence_authorized (hst : (s.point p).st = .authorized) :
    (s.point p).FreedAs ((((s.silencePoint .a).silencePoint .b).drainTest before).point p) s.ptu.newest := by
  obtain ⟨hacts, u, hu, huacts, ht⟩ := s.silence_in p
  have hp := hu.same (by simp [hst])
  rw [State.silencePoint, if_pos (by rw [hp, hst])] at ht
  have hfreed := u.endAuthorization_point p .hostSilent
  rw [hp, huacts.newest] at hfreed
  exact (State.freed_drained hfreed ht hacts.newest).1

/-- No authorization ends, and no valve opens with one that does. -/
theorem State.silence_other (hst : (s.point p).st ≠ .authorized) :
    ((s.silencePoint .a).silencePoint .b).point p = s.point p := by
  have hone (u : State) (q : Point) (hq : (u.point p).st ≠ .authorized) : (u.silencePoint q).point p = u.point p := by
    by_cases hqp : q = p
    · rw [hqp, State.silencePoint_of_not hq]
    · unfold State.silencePoint
      split
      · rw [State.endAuthorization, State.enterIdle_point, if_neg (Ne.symm hqp)]
        rfl
      · rfl
  have ha := hone s .a hst
  rw [hone _ .b (by rw [ha]; exact hst), ha]

end

/-- An event in RUN that leaves the gate, the power controller and the retained memory as they were is whole. -/
theorem State.settle_run {s t : State} (hr : s.runs = true) (hcrg : t.crg = s.crg) (hpsc : t.psc = s.psc)
    (hrun : s.psc.power = .run) (hrtm : t.rtm = s.rtm) : t.settle s = t := by
  obtain ⟨-, hc, hd, -⟩ := State.runs_iff.1 hr
  rw [State.settle_eq_drain hr hcrg (by rw [hpsc]), State.drainTest_of_power (by rw [hpsc]; simp [hrun]),
    State.commit_clean (by rw [hrtm, hc]) (by rw [hrtm, hd])]

/-- Settles O32: each expiry ends authorizations in AUTHORIZED alone, and in RUN no drain completes with one. -/
theorem authorizationsExpire : Obligations.AuthorizationsExpire := by
  refine ⟨fun s p due hr hdue hrun hnewest hup => ?_, fun s due hr hsilence => ?_, fun s p => ⟨fun hdue => ?_, fun hsilence => ?_⟩⟩
  · have hpowered := State.powered_of_runs hr
    have hend : (s.reach due).endAuthorization p .expired =
        ((s.reach due).post (.point p) (.authEnded .expired)).mapPoint p (·.toFree .idle) :=
      State.enterIdle_plain _ p hnewest hup
    rw [exec_authorizationTimeout, hdue, Option.map_some, State.event_some hpowered, hend]
    exact congrArg _ (State.settle_run hr rfl rfl hrun rfl)
  · have hdue : s.hlp.silence.due = some due := by rw [hsilence]; rfl
    obtain ⟨hacts, -⟩ := (s.silent due).silence_in .a
    have hsettle := State.settle_eq_drain (s := s) hr hacts.crg hacts.psc
    have hproceeds := hacts.proceeds.trans (.drainTest _ s)
    have hpower : ((((s.silent due).silencePoint .a).silencePoint .b)).psc.power = s.psc.power := by rw [hacts.psc]; rfl
    rw [exec_hostSilenceExpiry, hdue, Option.map_some, State.event_some (State.powered_of_runs hr), hsettle]
    refine ⟨_, rfl, ?_, ?_, ?_, ?_, fun m => ?_, fun p => ⟨fun hst => ?_, fun hst hfree => ?_⟩⟩
    · rw [State.commit_eq]
      exact congrArg Hlp.silence hproceeds.hlp.rest
    · rw [State.commit_eq]
      exact hproceeds.pins
    · rw [State.commit_eq]
      exact hproceeds.display
    · rw [State.commit_eq]
      exact hproceeds.now
    · rw [State.commit_channel]
      exact hproceeds.counter m
    · have hfreed := State.silence_authorized (s := s.silent due) (before := s) (p := p) hst
      rw [State.commit_point]
      exact ⟨hfreed.auth, hfreed.free⟩
    · rw [State.commit_point]
      have hkept : (((s.silent due).silencePoint .a).silencePoint .b).point p = s.point p := State.silence_other hst
      rcases State.drainTest_point (((s.silent due).silencePoint .a).silencePoint .b) s p with h | ⟨hdraining, hst', -⟩
      · rw [h, hkept]
      · rcases hfree with hne | hbusy
        · exact absurd (hpower ▸ hdraining) hne
        · rw [hkept] at hst'
          rcases hst' with h | h <;> simp [h, PointSt.free] at hbusy
  · rw [exec_authorizationTimeout, hdue]
    rfl
  · rw [exec_hostSilenceExpiry, SilenceTimer.due_eq_none hsilence]
    rfl

end Sys2Proof.Machine
end

section
/-! PROOFS. Family 4, what the acts on the gate and the loads move of the power controller (R148, R158), and how the step
sequence begins (R158, R160 to R163, R166). -/

namespace Sys2Proof.Machine

/-! ## Acts that move of the power controller the start queue alone -/

/-- Of the power controller the motor start queue alone has moved (R176). -/
def Psc.QueueMoved (c d : Psc) : Prop := d = { c with startQueue := d.startQueue, lastGrant := d.lastGrant }

namespace Psc.QueueMoved

variable {c d e : Psc}

theorem trans (h : c.QueueMoved d) (k : d.QueueMoved e) : c.QueueMoved e := by
  rw [Psc.QueueMoved, k, h]

theorem of_eq (h : d = c) : c.QueueMoved d := by
  rw [h]
  rfl

theorem stopHolder (s : State) (p : Point) (c : StopCause) : s.psc.QueueMoved (s.stopHolder p c).psc :=
  (s.stopHolder_moves p c).psc

theorem zeroFailed (s : State) (x : Side) : s.psc.QueueMoved (s.zeroFailed x).psc := by
  unfold State.zeroFailed
  dsimp only
  split
  · exact .stopHolder (s.withdrawZero x) x _
  · exact .of_eq rfl

theorem darken (s : State) (x : Side) : s.psc.QueueMoved (s.darken x).psc := by
  unfold State.darken
  split
  · exact .of_eq rfl
  · have hended : s.psc.QueueMoved (s.endTest x .aborted).psc := .of_eq (by simp)
    dsimp only
    split
    · exact hended
    · exact hended.trans (.zeroFailed _ x)

theorem tellSessionEnd (s : State) (session : Option Nat) : s.psc.QueueMoved (s.tellSessionEnd session).psc := by
  have hpoint (u : State) (p : Point) (n : Nat) : u.psc.QueueMoved (u.sessionEndPoint p n).psc := by
    unfold State.sessionEndPoint
    split
    · exact (State.ActsAt.endPermission u p _ _).psc
    · exact .of_eq rfl
  unfold State.tellSessionEnd
  split
  · exact (hpoint s .a _).trans (hpoint _ .b _)
  · exact .of_eq rfl

theorem flushOutbound (s : State) : s.psc.QueueMoved s.flushOutbound.psc := by
  have hposts (l : List Outbound) (u : State) :
      (l.foldl (fun s e => s.post .none (.readerOutboundEnd e.tag .flushed)) u).psc = u.psc := by
    induction l generalizing u with
    | nil => rfl
    | cons e l ih => exact ih _
  exact .of_eq (hposts s.crg.outbound s)

theorem moveGate (s : State) (c : GateCause) (f : Crg → Crg) : s.psc.QueueMoved (s.moveGate c f).psc := by
  unfold State.moveGate
  exact (Psc.QueueMoved.flushOutbound s).trans
    (.tellSessionEnd ((s.flushOutbound.mapCrg fun c => f { c with session := none }).post .none _) _)

theorem readerOnFromOff (s : State) (c : GateCause) : s.psc.QueueMoved (s.readerOnFromOff c).psc := by
  unfold State.readerOnFromOff State.powerGate
  exact .moveGate s c _

theorem readerOffAct (s : State) (c : GateCause) : s.psc.QueueMoved (s.readerOffAct c).psc := by
  unfold State.readerOffAct
  split
  · exact .of_eq rfl
  · exact .moveGate s c _

/-- The drive of a load takes its value, and what hangs on it moves the start queue alone (R148, R158). -/
theorem setDrive (s : State) (l : Load) (on : Bool) :
    Psc.QueueMoved { s.psc with drives := s.psc.drives.with l on } (s.setDrive l on).psc := by
  unfold State.setDrive
  dsimp only
  split
  · split
    · exact .of_eq rfl
    · exact .readerOffAct (s.mapPsc fun c => { c with drives := c.drives.with .reader on }) _
  · split
    · exact .darken (s.mapPsc fun c => { c with drives := c.drives.with l on }) _
    · exact .of_eq rfl

/-- Every drive goes off (R158). -/
theorem allOff (s : State) : Psc.QueueMoved { s.psc with drives := noDrives } s.allOff.psc := by
  unfold State.allOff
  exact (Psc.QueueMoved.darken (s.mapPsc fun c => { c with drives := noDrives }) .a).trans
    ((Psc.QueueMoved.darken _ .b).trans (.readerOffAct _ _))

end Psc.QueueMoved

/-! ## Drives -/

theorem State.drive_congr {s t : State} (h : t.psc.drives = s.psc.drives) (l : Load) : t.drive l = s.drive l := by
  cases l <;> simp only [State.drive, h]

theorem State.drive_with {s t : State} {l : Load} {on : Bool} (h : t.psc.drives = s.psc.drives.with l on) (k : Load) :
    t.drive k = if k = l then on else s.drive k := by
  cases l <;> cases k <;> simp [State.drive, h, Drives.with]

/-! ## Moves of the step sequence -/

/-- What the step sequence leaves of the power controller while it runs: the intended state, the wake that waits, the shutdown
run, and that the part is in WAKING, RUN or HALTED. -/
structure State.Sequences (s t : State) : Prop where
  intended : t.psc.intended = s.psc.intended
  wakePending : t.psc.wakePending = s.psc.wakePending
  shutdown : t.psc.shutdown = s.psc.shutdown
  power : s.psc.power ∈ [.waking, .run, .halted] → t.psc.power ∈ [.waking, .run, .halted]

namespace State.Sequences

variable {s t u : State}

theorem trans (h : s.Sequences t) (k : t.Sequences u) : s.Sequences u where
  intended := k.intended.trans h.intended
  wakePending := k.wakePending.trans h.wakePending
  shutdown := k.shutdown.trans h.shutdown
  power hs := k.power (h.power hs)

/-- Moves of the drives, the cursor, the retry count and the last failure. -/
theorem of_psc {c : Psc} (hc : c = { s.psc with
    drives := c.drives, cursor := c.cursor, retries := c.retries, lastFailure := c.lastFailure })
    (h : c.QueueMoved t.psc) : s.Sequences t := by
  rw [Psc.QueueMoved, hc] at h
  exact ⟨by rw [h], by rw [h], by rw [h], fun hs => by rw [h]; exact hs⟩

theorem applyAction (s : State) (st : PowerStep) : s.Sequences (s.applyAction st).1 := by
  unfold State.applyAction
  split
  · exact .of_psc (c := s.psc) rfl (.of_eq rfl)
  · dsimp only
    split
    · exact .of_psc rfl ((Psc.QueueMoved.setDrive s .reader st.turnOn).trans (.readerOnFromOff _ _))
    · exact .of_psc rfl (.setDrive s .reader st.turnOn)
  · exact .of_psc rfl (.setDrive s _ _)

theorem enterCheck_psc (s : State) (st : PowerStep) : (s.enterCheck st).1.psc = s.psc := by
  unfold State.enterCheck
  dsimp only
  split
  · rfl
  · rfl
  · rfl
  · split <;> rfl

theorem enterRetryWait (s : State) (n : Nat) (st : PowerStep) : s.Sequences (s.enterRetryWait n st) := by
  unfold State.enterRetryWait
  dsimp only
  split
  · exact .of_psc rfl (.setDrive _ _ _)
  · exact .of_psc rfl (.of_eq rfl)

end State.Sequences

/-- The end of the sequence (R163). -/
theorem State.sequenceDone_psc (s : State) : s.sequenceDone.psc = { s.psc with
    cursor := none, retries := 0, power := .run
    drives := { s.psc.drives with heaterA := s.heaterDemand .a, heaterB := s.heaterDemand .b } } := by
  have hopen : ((s.mapPsc fun c => { c with cursor := none, retries := 0 }).enterPower .run .sequenceDone).openPoints.psc =
      { s.psc with cursor := none, retries := 0, power := .run } := by
    simp [State.enterPower]
  unfold State.sequenceDone
  dsimp only
  generalize ((s.mapPsc fun c => { c with cursor := none, retries := 0 }).enterPower .run .sequenceDone).openPoints = u at hopen
  have hdemand (x : Side) : u.heaterDemand x = s.heaterDemand x := by cases x <;> simp [State.heaterDemand, State.good, hopen]
  rw [State.driveHeaters, if_pos (by simp [State.pointsOpen, hopen])]
  simp only [State.mapPsc_psc, hopen, hdemand]

theorem State.halt_psc (s : State) : Psc.QueueMoved
    { s.psc with cursor := none, retries := 0, power := .halted, drives := noDrives } s.halt.psc := by
  unfold State.halt
  exact .allOff ((s.mapPsc fun c => { c with cursor := none, retries := 0 }).enterPower .halted .stepAbort)

theorem State.Sequences.stepRelation : StepRelation State.Sequences where
  refl s := .of_psc (c := s.psc) rfl (.of_eq rfl)
  trans := .trans
  place s n phase := .of_psc (c := (s.place n phase).psc) rfl (.of_eq rfl)
  act := .applyAction
  check s st := .of_psc (c := s.psc) rfl (.of_eq (State.Sequences.enterCheck_psc s st))
  reset s := .of_psc (c := { s.psc with retries := 0 }) rfl (.of_eq rfl)
  report s n st r ddu a := .of_psc (c := (s.reportFailure n st r ddu a).psc) rfl (.of_eq rfl)
  wait := .enterRetryWait
  done s := by
    have h := s.sequenceDone_psc
    exact ⟨by rw [h], by rw [h], by rw [h], fun _ => by rw [h]; simp⟩
  halt s := by
    have h := s.halt_psc
    rw [Psc.QueueMoved] at h
    exact ⟨by rw [h], by rw [h], by rw [h], fun _ => by rw [h]; simp⟩

/-! ## Reports that stay in the queue (R186) -/

/-- The queue keeps the oldest and takes a report more, and more of them after it. -/
def Hlp.takes (h : Hlp) (n : Nat) : Prop := h.policy = .keepOldest ∧ h.reports.length + n ≤ reportRoom

theorem Hlp.takes_of_hasRoom {h : Hlp} (hroom : h.hasRoom = true) : h.takes 24 := by
  simp only [Hlp.hasRoom, Bool.and_eq_true, decide_eq_true_eq] at hroom
  exact ⟨hroom.2, by have := hroom.1; simp only [reportRoom]; omega⟩

theorem Hlp.post_of_takes {h : Hlp} {n : Nat} (htakes : h.takes (n + 1)) (r : Report) :
    (h.post r).takes n ∧ r ∈ (h.post r).reports := by
  obtain ⟨hpolicy, hlength⟩ := htakes
  have hpost : h.post r = { h with reports := h.reports ++ [r] } := by
    rw [Hlp.post, if_pos (by simp only [reportRoom] at hlength ⊢; omega)]
  rw [hpost]
  refine ⟨⟨hpolicy, ?_⟩, by simp⟩
  simp only [List.length_append, List.length_cons, List.length_nil]
  omega

theorem State.post_takes {s : State} {n : Nat} (h : s.hlp.takes (n + 1)) (target : ReportTarget) (data : ReportData) :
    (s.post target data).hlp.takes n ∧ ⟨target, s.stamp, data⟩ ∈ (s.post target data).hlp.reports :=
  Hlp.post_of_takes h _

theorem Hlp.takes_mono {h : Hlp} {m n : Nat} (htakes : h.takes m) (hle : n ≤ m) : h.takes n :=
  ⟨htakes.1, by have := htakes.2; omega⟩

/-- A report in a queue that keeps the oldest is there when the event ends (R186). -/
theorem State.Proceeds.keeps {s t : State} {n : Nat} (h : s.Proceeds t) (htakes : s.hlp.takes n) {r : Report}
    (hr : r ∈ s.hlp.reports) : r ∈ t.hlp.reports := h.hlp.kept htakes.1 r hr

/-! ## A step that stops (R162) -/

/-- An event that leaves no READER_OPEN check waiting and no drain is whole when its changes are handed over. -/
theorem State.settle_stepped {t : State} (before : State) (hpower : t.psc.power ≠ .draining)
    (hcheck : t.psc.checking .readerOpen = false) : t.settle before = t.commit := by
  rw [State.settle, State.gateNotice_of_noStepDue (State.noStepDue_of_checking hcheck), State.drainTest_of_power hpower]

theorem Psc.checking_of_power {c : Psc} (h : c.power ≠ .waking) (k : Check) : c.checking k = false := by
  simp [Psc.checking, h]

theorem Psc.checking_of_phase {c : Psc} {x : Cursor} (hx : c.cursor = some x) (h : x.phase ≠ .check) (k : Check) :
    c.checking k = false := by
  simp [Psc.checking, hx, h]

/-- A failed step, as it is reported (R162). -/
def PowerStep.failure (st : PowerStep) (n : Nat) (reason : StepReason) (ddu retries : Nat) (a : StepAction) : StepFailure :=
  ⟨n, st.load, st.check, reason, ddu, a, 1 + retries⟩

section
variable {w : State} {st : PowerStep} {n : Nat} (hhand : w.psc.inHand = some (n, st)) (reason : StepReason) (ddu fuel : Nat)
include hhand

/-- A failure that aborts halts the part (R162). -/
theorem State.runSteps_fails_abort (h : st.onFail = .abort ∨ st.onFail = .retry w.psc.retries) :
    w.runSteps (fuel + 1) (.fails reason ddu) = (w.reportFailure n st reason ddu .abort).halt := by
  unfold State.runSteps
  rw [hhand]
  rcases h with h | h
  · simp only [h]
  · simp only [h, Nat.lt_irrefl, if_false]

/-- A failure with a retry left waits for it where the step has a settle time (R162). -/
theorem State.runSteps_fails_retry {k : Nat} (h : st.onFail = .retry k) (hleft : w.psc.retries < k)
    (hsettle : 1 ≤ st.settle) : w.runSteps (fuel + 1) (.fails reason ddu) =
      (w.reportFailure n st reason ddu .retry).enterRetryWait n st := by
  unfold State.runSteps
  rw [hhand]
  simp only [h, if_pos hleft, if_neg (by omega : ¬ st.settle = 0)]

end

/-- RETRY_WAIT, with the next retry counted and the load of an ON step off (R162). -/
theorem State.enterRetryWait_psc (s : State) (n : Nat) (st : PowerStep) : ∃ d, Psc.QueueMoved
    { s.psc with retries := s.psc.retries + 1, cursor := some ⟨n, .retryWait, s.now⟩, drives := d }
      (s.enterRetryWait n st).psc
    ∧ ∀ l, (s.enterRetryWait n st).drive l = if st.turnOn = true ∧ st.load = some l then false else s.drive l := by
  unfold State.enterRetryWait
  dsimp only
  split
  · rename_i l hon hload
    have h := Psc.QueueMoved.setDrive ((s.mapPsc fun c => { c with retries := c.retries + 1 }).place n .retryWait) l false
    refine ⟨_, h, fun k => ?_⟩
    have hdrives := congrArg Psc.drives h
    rw [State.drive_with (s := s) hdrives]
    simp [hon, hload, eq_comm]
  · rename_i hnot
    refine ⟨_, .of_eq rfl, fun k => ?_⟩
    rw [if_neg fun h => hnot k h.1 h.2]
    exact State.drive_congr rfl k

end Sys2Proof.Machine
end

section
/-! PROOFS. Family 4, how a step begins and stops, and the entry to WAKING (R158, R160 to R163, R166). -/

namespace Sys2Proof.Machine

/-! ## A step that stops (R162) -/

section
variable {s w before : State} {st : PowerStep} {n : Nat} {reason : StepReason} {ddu fuel : Nat} {drives : Load → Bool}

/-- The failure report and what follows it. -/
theorem State.reportFailure_told (htakes : w.hlp.takes 1) (a : StepAction) {t : State}
    (h : (w.reportFailure n st reason ddu a).Proceeds t) :
    ⟨.none, t.psc.clock, .stepFailed (st.failure n reason ddu w.psc.retries a)⟩ ∈ t.hlp.reports := by
  obtain ⟨hroom, hmem⟩ := State.post_takes (s := w.mapPsc fun c =>
    { c with lastFailure := some (st.failure n reason ddu w.psc.retries a) }) htakes .none
      (.stepFailed (st.failure n reason ddu w.psc.retries a))
  rw [h.clock]
  exact h.keeps hroom hmem

theorem State.stepStops_of_fails (hhand : w.psc.inHand = some (n, st)) (htakes : s.hlp.hasRoom = true → w.hlp.takes 1)
    (hpower : w.psc.power = .waking) (hdrives : ∀ l, ¬ (st.turnOn = true ∧ st.load = some l) → w.drive l = drives l) :
    s.stepStops ((w.runSteps (fuel + 1) (.fails reason ddu)).settle before) n st drives reason ddu w.psc.retries := by
  refine ⟨fun h => ?_, fun k h hleft hsettle => ?_⟩
  · have hhalt := (w.reportFailure n st reason ddu .abort).halt_psc
    have hproceeds := State.Proceeds.halt (w.reportFailure n st reason ddu .abort)
    rw [State.runSteps_fails_abort hhand reason ddu fuel h]
    generalize (w.reportFailure n st reason ddu .abort).halt = u at hhalt hproceeds
    have hpsc : u.psc = _ := hhalt
    have hhalted : u.psc.power = .halted := by rw [hpsc]
    rw [State.settle_stepped before (by simp [hhalted]) (Psc.checking_of_power (by simp [hhalted]) _)]
    simp only [State.commit_frame]
    refine ⟨hhalted, by rw [hpsc], by rw [hpsc], by rw [hpsc], by rw [hpsc]; rfl, fun hroom => ?_⟩
    exact State.reportFailure_told (htakes hroom) .abort hproceeds
  · obtain ⟨d, hwait, hdrive⟩ := (w.reportFailure n st reason ddu .retry).enterRetryWait_psc n st
    have hproceeds := State.Proceeds.enterRetryWait (w.reportFailure n st reason ddu .retry) n st
    rw [State.runSteps_fails_retry hhand reason ddu fuel h hleft hsettle]
    generalize (w.reportFailure n st reason ddu .retry).enterRetryWait n st = u at hwait hproceeds hdrive
    have hpsc : u.psc = _ := hwait
    have hwaking : u.psc.power = .waking := by rw [hpsc]; exact hpower
    have hcursor : u.psc.cursor = some ⟨n, .retryWait, u.now⟩ := by rw [hpsc, hproceeds.now]
    rw [State.settle_stepped before (by simp [hwaking]) (Psc.checking_of_phase hcursor (by simp) _)]
    simp only [State.commit_frame]
    refine ⟨hwaking, hcursor, by rw [hpsc]; rfl, ⟨by rw [hpsc]; rfl, fun hroom => ?_⟩, fun l => ?_⟩
    · exact State.reportFailure_told (htakes hroom) .retry hproceeds
    · rw [State.drive_congr (s := u) (by simp), hdrive]
      split
      · rfl
      · rename_i hnot
        exact hdrives l hnot

end

/-! ## A step that begins (R160, R161) -/

theorem Psc.QueueMoved.withCursor {c d : Psc} (h : c.QueueMoved d) (x : Option Cursor) :
    Psc.QueueMoved { c with cursor := x } { d with cursor := x } := by
  have hx := congrArg (fun e : Psc => ({ e with cursor := x } : Psc)) h
  exact hx

theorem Psc.step?_congr {c d : Psc} (h : d.steps = c.steps) (n : Nat) : d.step? n = c.step? n := by
  rw [Psc.step?, h]
  rfl

theorem Psc.inHand_of_cursor {c : Psc} {x : Cursor} {st : PowerStep} (hx : c.cursor = some x)
    (hst : c.step? x.step = some st) : c.inHand = some (x.step, st) := by
  simp [Psc.inHand, hx, hst]

/-- The action of a step turns on READER at a gate in QUARANTINE, which does not take it (R131, R160). -/
def PowerStep.barredAt (st : PowerStep) (g : GateSt) : Bool :=
  st.turnOn && decide (st.load = some .reader) && decide (g = .quarantine)

theorem State.applyAction_taken (s : State) (st : PowerStep) : (s.applyAction st).2 = !st.barredAt s.crg.st := by
  unfold State.applyAction PowerStep.barredAt
  cases hload : st.load with
  | none => simp
  | some l =>
    cases l <;> cases hon : st.turnOn <;> cases hst : s.crg.st <;> simp

/-- The drive of the step's load is as its action commands, and every other as it was (R160). -/
theorem State.applyAction_psc (s : State) (st : PowerStep) :
    ∃ d, Psc.QueueMoved { s.psc with drives := d } (s.applyAction st).1.psc
      ∧ ∀ l, (s.applyAction st).1.drive l = if st.load = some l then st.turnOn else s.drive l := by
  have hdriven (l : Load) (t : State) (hload : st.load = some l)
      (h : Psc.QueueMoved { s.psc with drives := s.psc.drives.with l st.turnOn } t.psc) (k : Load) :
      t.drive k = if st.load = some k then st.turnOn else s.drive k := by
    have hdrives : t.psc.drives = s.psc.drives.with l st.turnOn := by rw [h]
    rw [State.drive_with hdrives, hload]
    simp [eq_comm]
  unfold State.applyAction
  split
  · rename_i hload
    exact ⟨_, .of_eq rfl, fun l => by simp [hload]⟩
  · rename_i hload
    dsimp only
    split
    · have h := (Psc.QueueMoved.setDrive s .reader st.turnOn).trans (.readerOnFromOff _ .sequence)
      exact ⟨_, h, hdriven .reader _ hload h⟩
    · have h := Psc.QueueMoved.setDrive s .reader st.turnOn
      exact ⟨_, h, hdriven .reader _ hload h⟩
  · rename_i l _ hload
    have h := Psc.QueueMoved.setDrive s l st.turnOn
    exact ⟨_, h, hdriven l _ hload h⟩

/-- A barred step has driven its load and posts nothing. -/
theorem State.applyAction_barred {s : State} {st : PowerStep} (h : st.barredAt s.crg.st = true) :
    (s.applyAction st).1.hlp = s.hlp := by
  simp only [PowerStep.barredAt, Bool.and_eq_true, decide_eq_true_eq] at h
  obtain ⟨⟨hon, hload⟩, hst⟩ := h
  simp [State.applyAction, hon, hload, hst, State.setDrive, State.mapPsc]

/-- The state in which step `n` has begun: in SETTLE, its action taken (R160). -/
def State.stepBegun (w : State) (n : Nat) (st : PowerStep) : State := ((w.place n .settle).applyAction st).1

section
variable {w : State} {st : PowerStep} {n : Nat} (hstep : w.psc.step? n = some st)
include hstep

theorem State.runSteps_begins (fuel : Nat) : w.runSteps (fuel + 1) (.begins n) =
    if st.barredAt w.crg.st = true then (w.stepBegun n st).runSteps fuel (.fails .quarantined 0)
    else if st.settle = 0 then (w.stepBegun n st).runSteps fuel .checks else w.stepBegun n st := by
  have htaken : ((w.place n .settle).applyAction st).2 = !st.barredAt w.crg.st := State.applyAction_taken _ st
  conv_lhs => unfold State.runSteps
  rw [hstep]
  dsimp only
  rw [htaken, Bool.not_not]
  rfl

/-- What of the power controller stands once the step has begun. -/
theorem State.stepBegun_psc : ∃ d, Psc.QueueMoved
      { w.psc with cursor := some ⟨n, .settle, w.now⟩, drives := d } (w.stepBegun n st).psc
    ∧ (∀ l, (w.stepBegun n st).drive l = if st.load = some l then st.turnOn else w.drive l)
    ∧ (w.stepBegun n st).psc.inHand = some (n, st) := by
  obtain ⟨d, hpsc, hdrive⟩ := (w.place n .settle).applyAction_psc st
  refine ⟨d, hpsc, fun l => ?_, ?_⟩
  · rw [State.stepBegun, hdrive, State.drive_congr (s := w) (t := w.place n .settle) rfl]
  · have heq : (w.stepBegun n st).psc = _ := hpsc
    refine Psc.inHand_of_cursor (x := ⟨n, .settle, w.now⟩) (by rw [heq]; rfl) ?_
    rw [heq]
    exact hstep

end

/-- A step with no settle time whose condition is false and has time stays in CHECK (R160, R161). -/
theorem State.runSteps_checks_waits {w : State} {st : PowerStep} {n : Nat} {c : Comparator} (hcheck : st.check = .condition c) (hbad : w.good c = false)
    (htime : 1 ≤ st.timeout) {u : State} (hhand : u.psc.inHand = some (n, st)) (hgood : u.good c = w.good c) (fuel : Nat) :
    u.runSteps (fuel + 1) .checks = u.place n .check := by
  have hchecked : (u.place n .check).enterCheck st = (u.place n .check, none) := by
    have hbad' : (u.place n .check).good c = false := hgood.trans hbad
    have htime' : st.timeout ≠ 0 := by omega
    simp [State.enterCheck, hcheck, hbad', htime']
  unfold State.runSteps
  rw [hhand]
  dsimp only
  rw [hchecked]

/-- Where a step waits once it has begun, it has a settle time, or its check is a false condition with time (R160). -/
theorem State.stepWaits_cases {t : State} {st : PowerStep} (h : t.stepWaits st = true) :
    1 ≤ st.settle ∨ (st.settle = 0 ∧ 1 ≤ st.timeout ∧ ∃ c, st.check = .condition c ∧ t.good c = false) := by
  by_cases hsettle : 1 ≤ st.settle
  · exact .inl hsettle
  · refine .inr ⟨by omega, ?_⟩
    simp only [State.stepWaits, hsettle, decide_false, Bool.false_or, Bool.and_eq_true, decide_eq_true_eq] at h
    obtain ⟨htime, hcheck⟩ := h
    refine ⟨htime, ?_⟩
    split at hcheck
    · rename_i c hc
      exact ⟨c, hc, by simpa using hcheck⟩
    all_goals exact absurd hcheck (by decide)

/-- A step that waits once it has begun is all that the sequence does in its event: it is in SETTLE or in CHECK, its load driven
(R160). -/
theorem State.settle_begins_waits {w before : State} {st : PowerStep} {n : Nat} (hstep : w.psc.step? n = some st)
    (hpower : w.psc.power = .waking) (hbar : st.barredAt w.crg.st = false) (hwaits : w.stepWaits st = true) (fuel : Nat) :
    ∃ u : State, (w.runSteps (fuel + 2) (.begins n)).settle before = u.commit ∧ u.now = w.now
      ∧ (∃ d, Psc.QueueMoved
        { w.psc with cursor := some ⟨n, if 1 ≤ st.settle then .settle else .check, w.now⟩, drives := d } u.psc)
      ∧ ∀ l, u.drive l = if st.load = some l then st.turnOn else w.drive l := by
  obtain ⟨d, hpsc, hdrive, hhand⟩ := State.stepBegun_psc hstep
  have hproceeds : w.Proceeds (w.stepBegun n st) := (State.Proceeds.place w n .settle).trans (.applyAction _ st)
  have heq : (w.stepBegun n st).psc = _ := hpsc
  have hwaking : (w.stepBegun n st).psc.power = .waking := by rw [heq, ← hpower]
  rw [State.runSteps_begins hstep, if_neg (by simp [hbar])]
  rcases State.stepWaits_cases hwaits with hsettle | ⟨hsettle, htime, c, hcheck, hbad⟩
  · have hcursor : (w.stepBegun n st).psc.cursor = some ⟨n, .settle, w.now⟩ := by rw [heq]
    rw [if_neg (by omega), State.settle_stepped before (by simp [hwaking]) (Psc.checking_of_phase hcursor (by simp) _),
      if_pos hsettle]
    exact ⟨_, rfl, hproceeds.now, ⟨d, hpsc⟩, hdrive⟩
  · have hstep' : ((w.stepBegun n st).place n .check).psc.step? n = some st := by
      rw [← hstep]
      exact Psc.step?_congr (congrArg Psc.steps heq) n
    have hplaced : ((w.stepBegun n st).place n .check).psc.checking .readerOpen = false := by
      have hhand' : ((w.stepBegun n st).place n .check).psc.inHand = some (n, st) :=
        Psc.inHand_of_cursor (x := ⟨n, .check, _⟩) rfl hstep'
      simp [Psc.checking, hhand', hcheck]
    rw [if_pos hsettle, State.runSteps_checks_waits hcheck hbad htime hhand (hproceeds.good c),
      State.settle_stepped before (by simpa [State.place] using fun h => by simp [hwaking] at h) hplaced, if_neg (by omega)]
    have hmoved := hpsc.withCursor (some ⟨n, .check, w.now⟩)
    refine ⟨_, rfl, hproceeds.now, ⟨d, ?_⟩, fun l => (State.drive_congr (s := w.stepBegun n st) rfl l).trans (hdrive l)⟩
    rw [← hproceeds.now] at hmoved ⊢
    exact hmoved

theorem State.stepBegins_of_begins {s w before : State} {st : PowerStep} {n fuel : Nat} (hstep : w.psc.step? n = some st)
    (hpower : w.psc.power = .waking) (htakes : s.hlp.hasRoom = true → w.hlp.takes 1) :
    s.stepBegins ((w.runSteps (fuel + 2) (.begins n)).settle before) n st w.drive w.psc.retries w.psc.lastFailure := by
  have hproceeds : w.Proceeds ((w.runSteps (fuel + 2) (.begins n)).settle before) :=
    (State.Proceeds.stepRelation.runSteps _ _ w).trans (.settle _ before)
  have hbarred : (st.turnOn && decide (st.load = some .reader)
      && decide (((w.runSteps (fuel + 2) (.begins n)).settle before).crg.st = .quarantine)) = st.barredAt w.crg.st := by
    rw [PowerStep.barredAt, decide_eq_decide.2 hproceeds.gate]
  have hwaits : ((w.runSteps (fuel + 2) (.begins n)).settle before).stepWaits st = w.stepWaits st := by
    simp only [State.stepWaits, hproceeds.good]
  unfold State.stepBegins
  rw [hbarred, hwaits]
  refine ⟨fun hbar hwait => ?_, fun hbar => ?_⟩
  · obtain ⟨u, hu, hnow, ⟨d, hpsc⟩, hdrive⟩ := State.settle_begins_waits (before := before) hstep hpower hbar hwait fuel
    have heq : u.psc = _ := hpsc
    rw [hu]
    simp only [State.commit_frame]
    refine ⟨by rw [heq, ← hpower], by rw [heq, hnow], by rw [heq], by rw [heq], fun l => ?_⟩
    rw [State.drive_congr (s := u) (by simp), hdrive]
  · obtain ⟨d, hpsc, hdrive, hhand⟩ := State.stepBegun_psc hstep
    have heq : (w.stepBegun n st).psc = _ := hpsc
    have hhlp : (w.stepBegun n st).hlp = w.hlp := State.applyAction_barred (s := w.place n .settle) hbar
    have hretries : (w.stepBegun n st).psc.retries = w.psc.retries := by rw [heq]
    rw [State.runSteps_begins hstep, if_pos hbar, ← hretries]
    refine State.stepStops_of_fails hhand (by rw [hhlp]; exact htakes) (by rw [heq, ← hpower]) fun l hl => ?_
    rw [hdrive, if_neg]
    intro hload
    simp only [PowerStep.barredAt, Bool.and_eq_true] at hbar
    exact hl ⟨hbar.1.1, hload⟩

end Sys2Proof.Machine
end

section
/-! PROOFS. Family 4, the entry to WAKING (R158, R163, R166). -/

namespace Sys2Proof.Machine

/-! ## The end of the sequence (R79, R163) -/

theorem State.openPoint_point (s : State) (p q : Point) : (s.openPoint p).point q =
    if q = p ∧ (s.point p).st = .closed then (s.point p).freed (s.lowestUp p) s.ptu.newest else s.point q := by
  unfold State.openPoint
  split
  · rename_i hst
    rw [State.enterIdle_point]
    simp only [hst, and_true]
  · rename_i hst
    rw [if_neg fun h => hst h.2]

theorem PointData.freed_st (d : PointData) (up : Option Position) (newest : Nat) :
    (d.freed up newest).st = .idle ∨ (d.freed up newest).st = .calling := by
  cases up <;> simp [PointData.freed, PointData.toFree]

/-- Each CLOSED point is IDLE or CALLING once the points have opened (R79). -/
theorem State.openPoints_closed {s : State} {p : Point} (hst : (s.point p).st = .closed) :
    (s.openPoints.point p).st = .idle ∨ (s.openPoints.point p).st = .calling := by
  have hb : (s.openPoint .a).point .b = s.point .b := by rw [State.openPoint_point, if_neg (by simp)]
  rw [State.openPoints, State.openPoint_point]
  cases p with
  | a =>
    rw [if_neg (by simp), State.openPoint_point, if_pos ⟨rfl, hst⟩]
    exact PointData.freed_st _ _ _
  | b =>
    rw [hb, if_pos ⟨rfl, hst⟩]
    exact PointData.freed_st _ _ _

theorem State.driveHeaters_points (s : State) : s.driveHeaters.points = s.points := by
  unfold State.driveHeaters
  dsimp only
  split <;> rfl

theorem State.sequenceDone_closed {s : State} {p : Point} (hst : (s.point p).st = .closed) :
    (s.sequenceDone.point p).st = .idle ∨ (s.sequenceDone.point p).st = .calling := by
  unfold State.sequenceDone
  dsimp only
  rw [State.point, State.driveHeaters_points, ← State.point]
  exact State.openPoints_closed hst

/-- The part is in RUN with no step in hand, the heaters driven by their demand and the closed points open (R163). -/
theorem State.sequenceDone_settled (w before : State) :
    let t := w.sequenceDone.settle before
    t.psc.power = .run ∧ t.psc.cursor = none ∧ t.psc.retries = 0 ∧ t.psc.lastFailure = w.psc.lastFailure
      ∧ (∀ l : Load, t.drive l = match l with
          | .heaterA => t.heaterDemand .a
          | .heaterB => t.heaterDemand .b
          | l => w.drive l)
      ∧ ∀ p : Point, (w.point p).st = .closed → (t.point p).st = .idle ∨ (t.point p).st = .calling := by
  have hpsc := w.sequenceDone_psc
  have hrun : w.sequenceDone.psc.power = .run := by rw [hpsc]
  have hproceeds := (State.Proceeds.sequenceDone w).trans (.commit w.sequenceDone)
  rw [State.settle_stepped before (by simp [hrun]) (Psc.checking_of_power (by simp [hrun]) _)]
  refine ⟨by simp [hrun], by simp [hpsc], by simp [hpsc], by simp [hpsc], fun l => ?_, fun p hst => ?_⟩
  · rw [State.drive_congr (s := w.sequenceDone) (by simp)]
    cases l <;> simp [State.drive, hpsc, State.heaterDemand, hproceeds.good]
  · rw [State.commit_point]
    exact State.sequenceDone_closed hst

/-! ## The entry to WAKING (R166) -/

/-- The part in WAKING before its first step, each drive at the value of its load's output (R158, R166). -/
def State.waking (u : State) (cause : PowerCause) : State :=
  ((u.drivesFromOutputs.intend .run).mapPsc fun c =>
    { c with wakePending := none, shutdown := [], retries := 0, lastFailure := none }).enterPower .waking cause

theorem State.enterWaking_eq (u : State) (cause : PowerCause) :
    u.enterWaking cause = (u.waking cause).advanceSteps (.begins 1) := rfl

theorem State.waking_psc (u : State) (cause : PowerCause) : (u.waking cause).psc = { u.drivesFromOutputs.psc with
    intended := .run, wakePending := none, shutdown := [], retries := 0, lastFailure := none, power := .waking } := by
  unfold State.waking State.intend
  split
  · rename_i h
    rw [← h]
    rfl
  · rfl

theorem State.waking_drive (u : State) (cause : PowerCause) (l : Load) : (u.waking cause).drive l = u.output l := by
  rw [State.drive_congr (s := u.drivesFromOutputs) (by rw [State.waking_psc])]
  cases l <;> rfl

theorem State.waking_points (u : State) (cause : PowerCause) : (u.waking cause).points = u.points := by
  have hintend (v : State) (i : Intended) : (v.intend i).points = v.points := by
    unfold State.intend
    split <;> rfl
  simp only [State.waking, State.enterPower, State.post_points, State.mapPsc_points, hintend]
  rfl

theorem State.waking_takes {u : State} {n : Nat} (h : u.hlp.takes (n + 1)) (cause : PowerCause) :
    (u.waking cause).hlp.takes n := by
  have hhlp : ((u.drivesFromOutputs.intend .run).mapPsc fun c =>
      { c with wakePending := none, shutdown := [], retries := 0, lastFailure := none }).hlp = u.hlp := by
    unfold State.intend
    split <;> rfl
  unfold State.waking State.enterPower
  exact (State.post_takes (s := State.mapPsc _ _) (by rw [State.mapPsc_hlp, hhlp]; exact h) _ _).1

/-- The entry to WAKING begins the sequence from the outputs of the loads, whatever the event goes on with (R158, R166). -/
theorem State.wakes_of_enterWaking {s u : State} {outputs : Load → Bool} (before : State) (cause : PowerCause)
    (hsteps : u.psc.steps = s.psc.steps) (hclosed : ∀ p, (s.point p).st = .closed → (u.point p).st = .closed)
    (hout : ∀ l, u.output l = outputs l) (htakes : s.hlp.hasRoom = true → u.hlp.takes 2) :
    s.wakes ((u.enterWaking cause).settle before) outputs := by
  have hpsc := u.waking_psc cause
  have hsteps' : (u.waking cause).psc.steps = s.psc.steps := by rw [hpsc, ← hsteps]; rfl
  have hdrive (l : Load) : (u.waking cause).drive l = outputs l := (u.waking_drive cause l).trans (hout l)
  have hpoint (p : Point) : (u.waking cause).point p = u.point p := by rw [State.point, State.waking_points]; rfl
  have htakes' : s.hlp.hasRoom = true → (u.waking cause).hlp.takes 1 := fun h => State.waking_takes (htakes h) cause
  rw [State.enterWaking_eq]
  generalize u.waking cause = w at hpsc hsteps' hdrive hpoint htakes'
  have hwaking : w.psc.power = .waking := by rw [hpsc]
  have hseq : w.Sequences ((w.advanceSteps (.begins 1)).gateNotice) :=
    (State.Sequences.stepRelation.advanceSteps w _).trans (State.Sequences.stepRelation.gateNotice _)
  have hpower := hseq.power (by simp [hwaking])
  have hsettled : ((w.advanceSteps (.begins 1)).settle before).psc = (w.advanceSteps (.begins 1)).gateNotice.psc := by
    have hne : (w.advanceSteps (.begins 1)).gateNotice.psc.power ≠ .draining := by
      intro h
      simp [h] at hpower
    rw [State.settle, State.drainTest_of_power hne]
    simp
  refine ⟨?_, ?_, ?_, ?_, ?_⟩
  · rw [hsettled, hseq.intended, hpsc]
  · rw [hsettled, hseq.wakePending, hpsc]
  · rw [hsettled, hseq.shutdown, hpsc]
  · rw [hsettled]
    simpa using hpower
  · unfold State.goesOn
    split
    · rename_i st hst
      have hstep : w.psc.step? 1 = some st := by simp [Psc.step?, hsteps', hst]
      have hbegins := State.stepBegins_of_begins (s := s) (before := before) (fuel := 16 * w.psc.steps.length + 14) hstep
        hwaking htakes'
      have hzero : w.psc.retries = 0 ∧ w.psc.lastFailure = none := by rw [hpsc]; exact ⟨rfl, rfl⟩
      have hdrives : w.drive = outputs := funext hdrive
      rw [hzero.1, hzero.2, hdrives] at hbegins
      exact hbegins
    · rename_i hnone
      have hstep : w.psc.step? 1 = none := by simp [Psc.step?, hsteps', hnone]
      have hdone : w.advanceSteps (.begins 1) = w.sequenceDone := by
        have hfuel : w.psc.stepFuel = 16 * w.psc.steps.length + 15 + 1 := by rw [Psc.stepFuel]; omega
        rw [State.advanceSteps, hfuel, State.runSteps, hstep]
      have hlast : w.psc.lastFailure = none := by rw [hpsc]
      obtain ⟨hrun, hcursor, hretries, hfailure, hdrives, hopened⟩ := w.sequenceDone_settled before
      rw [hdone]
      refine ⟨hrun, hcursor, hretries, hfailure.trans hlast, fun l => ?_, fun p hst => hopened p ?_⟩
      · rw [hdrives]
        cases l <;> simp only [hdrive]
      · rw [hpoint, hclosed p hst]

end Sys2Proof.Machine
end

section
/-! PROOFS. Family 4, lifts and hangs at points that the state answers at once (R53, R55 to R57, R164). -/

namespace Sys2Proof.Machine

/-! ## Wake lines (R164) -/

theorem State.output_congr {s t : State} (hcrg : t.crg = s.crg) (hdrives : t.psc.drives = s.psc.drives)
    (hpoints : t.points = s.points) (hddu : t.ddu = s.ddu) (l : Load) : t.output l = s.output l := by
  cases l <;> simp only [State.output, State.drive, State.heldOn, State.pulserHold, State.point, State.side, hcrg, hdrives,
    hpoints, hddu] <;> rfl

/-- A wake line does nothing outside NIGHT, or where it is not enabled. -/
theorem State.wakeLine_of_not {s : State} {enabled : Bool} (h : enabled = false ∨ s.psc.power ≠ .night) (c : WakeCause) :
    s.wakeLine c enabled = s := by
  rw [State.wakeLine, if_neg]
  rintro ⟨he, hn⟩
  rcases h with h | h
  · simp [h] at he
  · exact h hn

theorem State.wakeLine_night {s : State} (hnight : s.psc.power = .night) (c : WakeCause) :
    s.wakeLine c true = if s.good .mains then s.wakeNow c else s.wakeLater c := by
  rw [State.wakeLine, if_pos ⟨rfl, hnight⟩]
  rfl

/-- A wake with mains present begins the sequence from the outputs of the loads (R164, R166). -/
theorem State.wakes_of_wakeNow {s u : State} {outputs : Load → Bool} (before : State) (c : WakeCause)
    (hsteps : u.psc.steps = s.psc.steps) (hclosed : ∀ p, (s.point p).st = .closed → (u.point p).st = .closed)
    (hout : ∀ l, u.output l = outputs l) (htakes : s.hlp.hasRoom = true → u.hlp.takes 3) :
    s.wakes ((u.wakeNow c).settle before) outputs := by
  have hposted : s.hlp.hasRoom = true → (u.post .none (.wake c .waking)).hlp.takes 2 :=
    fun h => (State.post_takes (htakes h) _ _).1
  exact State.wakes_of_enterWaking before c.power hsteps hclosed
    (fun l => (State.output_congr rfl rfl rfl rfl l).trans (hout l)) hposted

/-! ## Lifts (R53, R55) -/

section
variable {s : State} {p : Point} {k : Position} (hr : s.runs = true) (hup : s.up p k = false)
include hr hup

/-- A lift that calls, is refused as a conflict, or is told uncleared or closed: the switch moves, and the report is posted. -/
theorem exec_nozzleLift_told {data : ReportData}
    (h : (s.moveNozzle p k true).lift p k = (s.moveNozzle p k true).post (.point p) data) :
    exec (.nozzleLift p k none) s = .next ((s.moveNozzle p k true).post (.point p) data) := by
  rw [exec_nozzleLift_alone hr hup, h]
  exact congrArg _ (State.settle_same hr rfl rfl rfl rfl)

theorem exec_nozzleLift_idle (hst : (s.point p).st = .idle) : exec (.nozzleLift p k none) s =
    .next (((s.moveNozzle p k true).mapPoint p fun d => { d with st := .calling, position := some k }).post (.point p)
      (.nozzleCall k false false)) := by
  have hst' : ((s.moveNozzle p k true).point p).st = .idle := hst
  have hlift : (s.moveNozzle p k true).lift p k =
      ((s.moveNozzle p k true).mapPoint p fun d => { d with st := .calling, position := some k }).post (.point p)
        (.nozzleCall k false false) := by simp only [State.lift, hst']
  rw [exec_nozzleLift_alone hr hup, hlift]
  refine congrArg _ (State.settle_unretained hr rfl rfl (fun q hq => ?_) rfl)
  have hqp : q ≠ p := by
    rintro rfl
    simp [hst, PointSt.selling] at hq
  simpa [State.point, hqp, State.moveNozzle] using hq

/-- A lift at a CLOSED point is a closed call, and the nozzle's wake line is asserted (R53, R164). -/
theorem exec_nozzleLift_closed (hst : (s.point p).st = .closed) : exec (.nozzleLift p k none) s =
    .next ((((s.moveNozzle p k true).post (.point p) (.nozzleCall k true false)).wakeLine .nozzle
      s.psc.schedule.nozzleWake).settle s) := by
  have hst' : ((s.moveNozzle p k true).point p).st = .closed := hst
  have hlift : (s.moveNozzle p k true).lift p k =
      ((s.moveNozzle p k true).post (.point p) (.nozzleCall k true false)).wakeLine .nozzle s.psc.schedule.nozzleWake := by
    simp only [State.lift, hst']
    rfl
  rw [exec_nozzleLift_alone hr hup, hlift]

/-- A closed call that wakes nothing. -/
theorem exec_nozzleLift_closed_asleep (hst : (s.point p).st = .closed)
    (hwake : s.psc.schedule.nozzleWake = false ∨ s.psc.power ≠ .night) : exec (.nozzleLift p k none) s =
      .next ((s.moveNozzle p k true).post (.point p) (.nozzleCall k true false)) := by
  have hwake' : s.psc.schedule.nozzleWake = false
      ∨ ((s.moveNozzle p k true).post (.point p) (.nozzleCall k true false)).psc.power ≠ .night := hwake
  rw [exec_nozzleLift_closed hr hup hst, State.wakeLine_of_not hwake']
  exact congrArg _ (State.settle_same hr rfl rfl rfl rfl)

/-- A closed call that wakes the part where mains is present, and waits for mains where it is not. -/
theorem exec_nozzleLift_closed_wakes (hst : (s.point p).st = .closed) (hwake : s.psc.schedule.nozzleWake = true)
    (hnight : s.psc.power = .night) : exec (.nozzleLift p k none) s =
      .next ((if s.good .mains then ((s.moveNozzle p k true).post (.point p) (.nozzleCall k true false)).wakeNow .nozzle
        else ((s.moveNozzle p k true).post (.point p) (.nozzleCall k true false)).wakeLater .nozzle).settle s) := by
  have hnight' : ((s.moveNozzle p k true).post (.point p) (.nozzleCall k true false)).psc.power = .night := hnight
  rw [exec_nozzleLift_closed hr hup hst, hwake, State.wakeLine_night hnight']
  rfl

end

/-! ## Hangs (R56, R57) -/

/-- A hang of a nozzle that is not the active one, and of the active one in a state that takes no notice of it, is no act. -/
theorem State.hang_same {s : State} {p : Point} {k : Position} (h : (s.point p).position ≠ some k
    ∨ (s.point p).st ∈ [.closed, .idle, .authorized, .stopping, .finished]) : s.hang p k = s := by
  rw [State.hang]
  split
  · rename_i hk
    have hst := h.resolve_left fun hne => hne hk
    have hcall : (s.point p).st ≠ .calling := fun he => by simp [he] at hst
    have hstart : (s.point p).st ≠ .starting := fun he => by simp [he] at hst
    have hstop : ¬ ((s.point p).st = .starting ∨ (s.point p).st.flowing = true) := by
      rintro (he | he)
      · exact hstart he
      · cases hs : (s.point p).st <;> simp [hs, PointSt.flowing] at hst he
    rw [if_neg hcall, if_neg (by simp [State.waiting, hstart]), State.stopHolder_of_not hstop]
  · rfl

theorem exec_nozzleHang_same {s : State} {p : Point} {k : Position} (hr : s.runs = true) (h : (s.point p).position ≠ some k
    ∨ s.up p k = false ∨ (s.point p).st ∈ [.closed, .idle, .authorized, .stopping, .finished]) :
    exec (.nozzleHang p k) s = .next (s.moveNozzle p k false) := by
  have hact : (if s.up p k = true then (s.moveNozzle p k false).hang p k else s.moveNozzle p k false) =
      s.moveNozzle p k false := by
    split
    · rename_i hup
      refine State.hang_same (h.imp_right fun h => h.resolve_left ?_)
      simp [hup]
    · rfl
  rw [exec_nozzleHang, State.inputEvent_powered (State.powered_of_runs hr), hact]
  exact congrArg _ (State.settle_same hr rfl rfl rfl rfl)

/-- The entry to IDLE on the newest generation, and on to CALLING where a nozzle is up (R57). -/
theorem State.enterIdle_newest {s : State} {p : Point} (h : (s.point p).generation = s.ptu.newest) :
    s.enterIdle p = (s.mapPoint p (·.toFree .idle)).callIfUp p := by
  have hadopt : (s.mapPoint p (·.toFree .idle)).adopt p = s.mapPoint p (·.toFree .idle) := by
    rw [State.adopt, if_pos]
    rw [State.point_mapPoint, if_pos rfl]
    exact h
  rw [State.enterIdle, hadopt]

/-- The hang of the calling nozzle ends the call (R56, R57). -/
theorem exec_nozzleHang_calling {s : State} {p : Point} {k : Position} (hr : s.runs = true)
    (hst : (s.point p).st = .calling) (hk : (s.point p).position = some k) (hup : s.up p k = true)
    (hnewest : (s.point p).generation = s.ptu.newest) : exec (.nozzleHang p k) s =
      .next ((((s.moveNozzle p k false).post (.point p) (.nozzleHang k)).mapPoint p (·.toFree .idle)).callIfUp p) := by
  have hst' : ((s.moveNozzle p k false).point p).st = .calling := hst
  have hk' : ((s.moveNozzle p k false).point p).position = some k := hk
  have hhang : (s.moveNozzle p k false).hang p k =
      (((s.moveNozzle p k false).post (.point p) (.nozzleHang k)).mapPoint p (·.toFree .idle)).callIfUp p := by
    rw [State.hang, if_pos hk', if_pos hst']
    exact State.enterIdle_newest hnewest
  rw [exec_nozzleHang_up hr hup, hhang]
  have hfree (u : State) : (u.callIfUp p).crg = u.crg ∧ (u.callIfUp p).psc = u.psc ∧ (u.callIfUp p).rtm = u.rtm
      ∧ ∀ q, q ≠ p → (u.callIfUp p).point q = u.point q := by
    unfold State.callIfUp
    split
    · exact ⟨rfl, rfl, rfl, fun _ _ => rfl⟩
    · exact ⟨rfl, rfl, rfl, fun q hq => by simp [State.point, hq]⟩
  obtain ⟨hcrg, hpsc, hrtm, hother⟩ :=
    hfree (((s.moveNozzle p k false).post (.point p) (.nozzleHang k)).mapPoint p (·.toFree .idle))
  refine congrArg _ (State.settle_unretained hr hcrg (by rw [hpsc]; rfl) (fun q hq => ?_) hrtm)
  have hqp : q ≠ p := by
    rintro rfl
    simp [hst, PointSt.selling] at hq
  rw [hother q hqp, State.point_mapPoint, if_neg hqp]
  exact hq

/-- Settles O26: what a lift or a hang does is a case of the point's state; a wake that it brings begins the sequence as any
other does. -/
theorem nozzlesAtOtherPoints : Obligations.NozzlesAtOtherPoints := by
  intro s p k hr
  refine ⟨fun hup => ⟨fun hst => ?_, fun hst => ?_, fun hst => ?_, fun hst hwake => ?_, fun hst hwake hnight => ⟨?_, ?_⟩⟩,
    fun h => exec_nozzleHang_same hr h, fun hst hk hup hnewest => ?_⟩
  · exact exec_nozzleLift_idle hr hup hst
  · have hst' : ((s.moveNozzle p k true).point p).st = .finished := hst
    exact exec_nozzleLift_told hr hup (by simp only [State.lift, hst'])
  · refine exec_nozzleLift_told hr hup ?_
    have hst' : ((s.moveNozzle p k true).point p).st = .calling ∨ ((s.moveNozzle p k true).point p).st.delivering = true := hst
    cases h : ((s.moveNozzle p k true).point p).st <;> simp [h, PointSt.delivering] at hst' <;> simp only [State.lift, h]
  · exact exec_nozzleLift_closed_asleep hr hup hst hwake
  · intro hmains
    obtain ⟨-, hc, hd, hn⟩ := State.runs_iff.1 hr
    have hcheck (c : Psc) (hc : c.power = .night) : c.checking .readerOpen = false :=
      Psc.checking_of_power (by simp [hc]) _
    rw [exec_nozzleLift_closed_wakes hr hup hst hwake hnight, if_neg (by simp [hmains])]
    exact congrArg _ (State.settle_plain (State.noStepDue_of_checking (hcheck _ hnight)) rfl rfl hc hd)
  · intro hmains
    generalize hu : (s.moveNozzle p k true).post (.point p) (.nozzleCall k true false) = u
    have hsame : u.psc = s.psc ∧ u.crg = s.crg ∧ u.points = s.points ∧ u.ddu = s.ddu := by
      rw [← hu]
      exact ⟨rfl, rfl, rfl, rfl⟩
    obtain ⟨hpsc, hcrg, hpoints, hddu⟩ := hsame
    have hproceeds := (State.Proceeds.wakeNow u .nozzle).trans (.settle _ s)
    rw [exec_nozzleLift_closed_wakes hr hup hst hwake hnight, if_pos hmains, hu]
    refine ⟨_, rfl, hproceeds.pins.trans (by rw [← hu]; rfl), ?_, hproceeds.display.trans (by rw [← hu]; rfl), fun m => ?_⟩
    · refine State.wakes_of_wakeNow s .nozzle (by rw [hpsc]) (fun q hq => ?_)
        (State.output_congr hcrg (by rw [hpsc]) hpoints hddu) fun hroom => ?_
      · rw [State.point, hpoints]
        exact hq
      · have htakes := (State.post_takes (s := s.moveNozzle p k true) (n := 23) (Hlp.takes_of_hasRoom hroom) (.point p)
          (.nozzleCall k true false)).1
        rw [hu] at htakes
        exact Hlp.takes_mono htakes (by decide)
    · rw [hproceeds.counter, ← hu]
      rfl
  · have hup' : (((s.moveNozzle p k false).post (.point p) (.nozzleHang k)).mapPoint p (·.toFree .idle)).lowestUp p =
        (s.moveNozzle p k false).lowestUp p := rfl
    dsimp only
    rw [exec_nozzleHang_calling hr hst hk hup hnewest, State.callIfUp, hup']
    refine ⟨fun hnone => ?_, fun j hj => ?_⟩
    · rw [hnone]
      rfl
    · rw [hj]
      cases p <;> rfl

end Sys2Proof.Machine
end

section
/-! PROOFS. Family 4, the comparators (R154, R155): the timer that follows the input, and what the change of a condition moves
besides the blocks that it is handed to. -/

namespace Sys2Proof.Machine

/-! ## The input of a comparator (R154) -/

theorem exec_senseInputChange (c : Comparator) (mv : Nat) (s : State) : exec (.senseInputChange c mv) s =
    s.inputEvent (s.moveVoltage c mv) fun t => t.followInput c := rfl

theorem exec_sensePersistenceExpiry (c : Comparator) (s : State) : exec (.sensePersistenceExpiry c) s =
    s.event ((s.psc.sensors.sc c).since.map fun t =>
      (s.reach (t + (s.psc.sensors.sc c).persistence)).conditionBecomes c (!(s.psc.sensors.sc c).good)) := rfl

/-- The input of a comparator once it has changed. -/
theorem State.moveVoltage_sc (s : State) (c : Comparator) (mv : Nat) : (s.moveVoltage c mv).pins.millivolts.sc c = mv := by
  simp [State.moveVoltage]

/-! ## A condition that changes (R155) -/

/-- A comparator is replaced (R154). -/
def State.setSensor (s : State) (c : Comparator) (x : Sensor) : State :=
  s.mapPsc fun k => { k with sensors := k.sensors.setSc c x }

/-- The comparator whose condition has become a value, its timer of the new direction judged against its input (R154). -/
def State.sensorBecome (s : State) (c : Comparator) (value : Bool) : Sensor :=
  (s.psc.sensors.sc c).become value (s.pins.millivolts.sc c) s.now

/-- The state in which a condition has become a value, posted and not yet handed on (R155, R189). -/
def State.sensed (s : State) (c : Comparator) (value : Bool) : State :=
  (s.setSensor c (s.sensorBecome c value)).changed (.sense c) value

section
variable (s : State) (c : Comparator) (value : Bool)

theorem State.sensed_eq : s.sensed c value = { s with
    hlp := (s.sensed c value).hlp
    psc := { s.psc with sensors := s.psc.sensors.setSc c (s.sensorBecome c value) } } := by
  unfold State.sensed State.changed
  split <;> rfl

/-- The blocks that a change of a condition does not move before it is handed on. -/
theorem State.sensed_frame : (s.sensed c value).now = s.now ∧ (s.sensed c value).pins = s.pins
    ∧ (s.sensed c value).display = s.display ∧ (s.sensed c value).miu = s.miu ∧ (s.sensed c value).dle = s.dle
    ∧ (s.sensed c value).points = s.points ∧ (s.sensed c value).ddu = s.ddu ∧ (s.sensed c value).crg = s.crg
    ∧ (s.sensed c value).rtm = s.rtm := by
  rw [State.sensed_eq]
  exact ⟨rfl, rfl, rfl, rfl, rfl, rfl, rfl, rfl, rfl⟩

theorem State.sensed_psc :
    (s.sensed c value).psc = { s.psc with sensors := s.psc.sensors.setSc c (s.sensorBecome c value) } := by
  rw [State.sensed_eq]

/-- The condition has its value, and every other keeps its own. -/
theorem State.sensed_sensor (k : Comparator) : (s.sensed c value).psc.sensors.sc k =
    if k = c then s.sensorBecome c value else s.psc.sensors.sc k := by
  rw [State.sensed_psc, Oct.sc_setSc]

theorem State.sensed_good : (s.sensed c value).good c = value := by
  rw [State.good, State.sensed_sensor, if_pos rfl]
  rfl

theorem State.sensed_takes {n : Nat} (h : s.hlp.takes (n + 1)) : (s.sensed c value).hlp.takes n := by
  unfold State.sensed State.changed
  split
  · exact (State.post_takes (s := State.mapPsc _ _) h _ _).1
  · exact Hlp.takes_mono h (Nat.le_succ n)

/-- The blocks are handed the condition, and a step in hand that checks it passes (R155, R160). -/
theorem State.conditionBecomes_eq : s.conditionBecomes c value =
    if value = true ∧ (s.sensed c value).psc.checking (.condition c) = true
        ∧ ((s.sensed c value).handCondition c value).psc.checking (.condition c) = true then
      ((s.sensed c value).handCondition c value).advanceSteps .passes
    else (s.sensed c value).handCondition c value := by
  have hchecked : (s.setSensor c (s.sensorBecome c value)).psc.checking (.condition c) =
      (s.sensed c value).psc.checking (.condition c) := by
    rw [State.sensed_psc]
    rfl
  have heq : s.conditionBecomes c value =
      if (value && (s.setSensor c (s.sensorBecome c value)).psc.checking (.condition c)
          && ((s.sensed c value).handCondition c value).psc.checking (.condition c)) = true then
        ((s.sensed c value).handCondition c value).advanceSteps .passes
      else (s.sensed c value).handCondition c value := rfl
  rw [heq, hchecked]
  simp only [Bool.and_eq_true, and_assoc]

theorem State.conditionBecomes_proceeds : (s.sensed c value).Proceeds (s.conditionBecomes c value) := by
  have hhanded := State.Proceeds.handCondition (s.sensed c value) c value
  rw [State.conditionBecomes_eq]
  split
  · exact hhanded.trans (.advanceSteps _ _)
  · exact hhanded

end

/-- Outside WAKING no step checks the condition. -/
theorem State.conditionBecomes_awake {s : State} (h : s.psc.power ≠ .waking) (c : Comparator) (value : Bool) :
    s.conditionBecomes c value = (s.sensed c value).handCondition c value := by
  have hcheck : (s.sensed c value).psc.checking (.condition c) = false :=
    Psc.checking_of_power (by rw [State.sensed_psc]; exact h) _
  rw [State.conditionBecomes_eq, if_neg (by simp [hcheck])]

/-- A condition that becomes false passes no step. -/
theorem State.conditionBecomes_bad (s : State) (c : Comparator) :
    s.conditionBecomes c false = (s.sensed c false).handCondition c false := by
  rw [State.conditionBecomes_eq, if_neg (by simp)]

/-! ## The event of a condition (R154) -/

/-- The event in which a condition changes at a moment: what all of its consequences leave, whichever block they are handed
to (R154, R155). -/
theorem State.conditionBecomes_settled (s before : State) (c : Comparator) (value : Bool) :
    let t := (s.conditionBecomes c value).settle before
    t.now = s.now ∧ t.good c = value ∧ (∀ k : Comparator, k ≠ c → t.good k = s.good k) ∧ t.pins = s.pins
      ∧ t.display = s.display ∧ (∀ m : Meter, (t.channel m).counter = (s.channel m).counter)
      ∧ (t.psc.sensors.sc c).settings = (s.psc.sensors.sc c).settings := by
  have hproceeds := (s.conditionBecomes_proceeds c value).trans (.settle _ before)
  obtain ⟨hnow, hpins, hdisplay, hmiu, -⟩ := s.sensed_frame c value
  have hsensor := s.sensed_sensor c value
  refine ⟨hproceeds.now.trans hnow, (hproceeds.good c).trans (s.sensed_good c value), fun k hk => ?_,
    hproceeds.pins.trans hpins, hproceeds.display.trans hdisplay, fun m => ?_, ?_⟩
  · rw [hproceeds.good, State.good, hsensor, if_neg hk]
    rfl
  · rw [hproceeds.counter, State.channel, hmiu]
    rfl
  · rw [hproceeds.sensors, hsensor, if_pos rfl]
    rfl

/-- An event that leaves the gate's state and the step in hand as they were, and ends no sale, has nothing at its end but the
hand-over of its changes (R97, R161, R169). -/
theorem State.settle_kept {s t : State} (hr : s.runs = true) (hcrg : t.crg.st = s.crg.st)
    (hcheck : t.psc.checking .readerOpen = s.psc.checking .readerOpen) (hpower : t.psc.power = s.psc.power)
    (hsell : ∀ p, (s.point p).st.selling = true → (t.point p).st.selling = true) : t.settle s = t.commit := by
  obtain ⟨-, -, -, hn⟩ := State.runs_iff.1 hr
  rw [State.settle, State.gateNotice_of_noStepDue (State.noStepDue_congr hcrg hcheck hn), State.drainTest_of_kept hpower hsell]

/-- The comparator whose timer has followed an input that changes no condition (R154). -/
def State.sensorTimed (s : State) (c : Comparator) (mv : Nat) : Sensor :=
  { s.psc.sensors.sc c with
    since := if (s.psc.sensors.sc c).timing mv then some ((s.psc.sensors.sc c).since.getD s.now) else none }

/-- An input that changes no condition moves the timer of its comparator alone (R154). -/
theorem exec_senseInputChange_timer {s : State} {c : Comparator} {mv : Nat} (hr : s.runs = true)
    (h : (s.psc.sensors.sc c).timing mv = false ∨ (s.psc.sensors.sc c).persistence ≠ 0) :
    exec (.senseInputChange c mv) s = .next ((s.moveVoltage c mv).setSensor c (s.sensorTimed c mv)) := by
  have hpsc : (s.moveVoltage c mv).psc = s.psc := rfl
  have hfollow : (s.moveVoltage c mv).followInput c = (s.moveVoltage c mv).setSensor c (s.sensorTimed c mv) := by
    simp only [State.followInput, State.moveVoltage_sc, hpsc]
    rw [if_neg]
    · rfl
    · rintro ⟨htiming, hzero⟩
      rcases h with h | h
      · simp [htiming] at h
      · exact h hzero
  obtain ⟨-, hc, hd, hn⟩ := State.runs_iff.1 hr
  rw [exec_senseInputChange, State.inputEvent_powered (State.powered_of_runs hr), hfollow]
  exact congrArg _ (State.settle_plain (State.noStepDue_congr rfl rfl hn) rfl rfl hc hd)

/-- An input that passes the reference of a comparator with a persistence of 0 changes its condition at once (R154). -/
theorem exec_senseInputChange_changes {s : State} {c : Comparator} {mv : Nat} (hr : s.runs = true)
    (htiming : (s.psc.sensors.sc c).timing mv = true) (hzero : (s.psc.sensors.sc c).persistence = 0) :
    exec (.senseInputChange c mv) s =
      .next (((s.moveVoltage c mv).conditionBecomes c (!(s.psc.sensors.sc c).good)).settle s) := by
  have hpsc : (s.moveVoltage c mv).psc = s.psc := rfl
  have hfollow : (s.moveVoltage c mv).followInput c =
      (s.moveVoltage c mv).conditionBecomes c (!(s.psc.sensors.sc c).good) := by
    simp only [State.followInput, State.moveVoltage_sc, hpsc]
    rw [if_pos ⟨htiming, hzero⟩]
  rw [exec_senseInputChange, State.inputEvent_powered (State.powered_of_runs hr), hfollow]

end Sys2Proof.Machine
end

section
/-! PROOFS. Family 4, the display holds and tests that stand while loads and points move (R120 to R123). -/

namespace Sys2Proof.Machine

/-- The flush of the mailbox tells the end of each packet, and empties it (R134). -/
theorem State.flushOutbound_eq (s : State) : s.flushOutbound =
    { s with hlp := s.flushOutbound.hlp, crg := { s.crg with outbound := [] } } := by
  have hposts (l : List Outbound) (u : State) :
      l.foldl (fun s e => s.post .none (.readerOutboundEnd e.tag .flushed)) u =
        { u with hlp := (l.foldl (fun s e => s.post .none (.readerOutboundEnd e.tag .flushed)) u).hlp } := by
    induction l generalizing u with
    | nil => rfl
    | cons e l ih => exact ih _
  unfold State.flushOutbound
  dsimp only
  rw [hposts]
  rfl

/-! ## Holds that stand -/

/-- The display holds stand, and no display test begins. -/
def State.LeavesSides (s t : State) : Prop :=
  ∀ y, (t.side y).hold = (s.side y).hold ∧ ((s.side y).test = none → (t.side y).test = none)

namespace State.LeavesSides

variable {s t u : State}

theorem of_ddu (h : t.ddu = s.ddu) : s.LeavesSides t := fun y => by
  rw [State.side, h]
  exact ⟨rfl, id⟩

theorem refl (s : State) : s.LeavesSides s := .of_ddu rfl

theorem trans (h : s.LeavesSides t) (k : t.LeavesSides u) : s.LeavesSides u := fun y =>
  ⟨(k y).1.trans (h y).1, fun hnone => (k y).2 ((h y).2 hnone)⟩

theorem mapSide (s : State) (x : Side) {f : DduSide → DduSide} (hhold : (f (s.side x)).hold = (s.side x).hold)
    (htest : (s.side x).test = none → (f (s.side x)).test = none) : s.LeavesSides (s.mapSide x f) := fun y => by
  rw [State.side_mapSide]
  split
  · rename_i hy
    rw [hy]
    exact ⟨hhold, htest⟩
  · exact ⟨rfl, id⟩

theorem stopHolder (s : State) (p : Point) (c : StopCause) : s.LeavesSides (s.stopHolder p c) := fun y => by
  by_cases hy : y = p
  · rw [hy, State.stopHolder_side]
    exact ⟨rfl, id⟩
  · rw [((State.ActsAt.stopHolder s p c).spares y hy).side]
    exact ⟨rfl, id⟩

theorem endTest_aborted (s : State) (x : Side) : s.LeavesSides (s.endTest x .aborted) := by
  unfold State.endTest
  split
  · exact .refl s
  · have hended : s.LeavesSides (s.mapSide x fun d => { d with test := none }) := .mapSide s x rfl fun _ => rfl
    exact hended.trans (.of_ddu rfl)

theorem darken (s : State) (x : Side) : s.LeavesSides (s.darken x) := by
  have hzero (u : State) : u.LeavesSides (u.zeroFailed x) := by
    have hwithdrawn : u.LeavesSides (u.withdrawZero x) := .mapSide u x rfl id
    unfold State.zeroFailed
    dsimp only
    split
    · exact hwithdrawn.trans (.stopHolder _ x _)
    · exact hwithdrawn
  unfold State.darken
  split
  · exact .refl s
  · dsimp only
    split
    · exact .endTest_aborted s x
    · exact (State.LeavesSides.endTest_aborted s x).trans (hzero _)

theorem endPermission (s : State) (p : Point) (r : AuthEnd) (c : StopCause) : s.LeavesSides (s.endPermission p r c) := by
  unfold State.endPermission
  split
  · exact .of_ddu (by simp)
  · split
    · exact .of_ddu (by simp)
    · split
      · exact .stopHolder s p c
      · exact .refl s

theorem tellSessionEnd (s : State) (session : Option Nat) : s.LeavesSides (s.tellSessionEnd session) := by
  have hpoint (u : State) (p : Point) (n : Nat) : u.LeavesSides (u.sessionEndPoint p n) := by
    unfold State.sessionEndPoint
    split
    · exact .endPermission u p _ _
    · exact .refl u
  unfold State.tellSessionEnd
  split
  · exact (hpoint s .a _).trans (hpoint _ .b _)
  · exact .refl s

theorem moveGate (s : State) (c : GateCause) (f : Crg → Crg) : s.LeavesSides (s.moveGate c f) := by
  unfold State.moveGate
  refine State.LeavesSides.trans (.of_ddu ?_) (.tellSessionEnd _ _)
  rw [State.post_ddu, State.mapCrg_ddu, State.flushOutbound_eq]

theorem readerOnFromOff (s : State) (c : GateCause) : s.LeavesSides (s.readerOnFromOff c) := by
  unfold State.readerOnFromOff State.powerGate
  exact .moveGate s c _

theorem readerOffAct (s : State) (c : GateCause) : s.LeavesSides (s.readerOffAct c) := by
  unfold State.readerOffAct
  split
  · exact .refl s
  · exact .moveGate s c _

theorem setDrive (s : State) (l : Load) (on : Bool) : s.LeavesSides (s.setDrive l on) := by
  have hdrive : s.LeavesSides (s.mapPsc fun c => { c with drives := c.drives.with l on }) := .of_ddu rfl
  unfold State.setDrive
  dsimp only
  split
  · split
    · exact hdrive
    · exact hdrive.trans (.readerOffAct _ _)
  · split
    · exact hdrive.trans (.darken _ _)
    · exact hdrive

theorem allOff (s : State) : s.LeavesSides s.allOff := by
  have hdrives : s.LeavesSides (s.mapPsc fun c => { c with drives := noDrives }) := .of_ddu rfl
  exact hdrives.trans ((State.LeavesSides.darken _ .a).trans ((State.LeavesSides.darken _ .b).trans (.readerOffAct _ _)))

theorem closePoints (s : State) : s.LeavesSides s.closePoints := by
  have hauthorized (u : State) (p : Point) : u.LeavesSides (u.closeAuthorized p) := by
    unfold State.closeAuthorized
    split
    · exact .of_ddu (by simp)
    · exact .refl u
  have hdelivery (u : State) (p : Point) : u.LeavesSides (u.closeDelivery p) := by
    unfold State.closeDelivery
    split
    · exact .of_ddu (by simp)
    · exact .stopHolder u p _
  have hdrained : s.LeavesSides s.drainPoints := .of_ddu (by simp)
  exact hdrained.trans ((hauthorized _ .a).trans ((hauthorized _ .b).trans ((hdelivery _ .a).trans (hdelivery _ .b))))

end State.LeavesSides

/-- The display holds stand. -/
def State.KeepsHolds (s t : State) : Prop := ∀ y, (t.side y).hold = (s.side y).hold

theorem State.LeavesSides.holds {s t : State} (h : s.LeavesSides t) : s.KeepsHolds t := fun y => (h y).1

namespace State.KeepsHolds

variable {s t u : State}

theorem of_ddu (h : t.ddu = s.ddu) : s.KeepsHolds t := (State.LeavesSides.of_ddu h).holds

theorem refl (s : State) : s.KeepsHolds s := fun _ => rfl

theorem trans (h : s.KeepsHolds t) (k : t.KeepsHolds u) : s.KeepsHolds u := fun y => (k y).trans (h y)

theorem applyAction (s : State) (st : PowerStep) : s.KeepsHolds (s.applyAction st).1 := by
  unfold State.applyAction
  split
  · exact .refl s
  · dsimp only
    split
    · exact ((State.LeavesSides.setDrive s .reader st.turnOn).trans (.readerOnFromOff _ _)).holds
    · exact (State.LeavesSides.setDrive s .reader st.turnOn).holds
  · exact (State.LeavesSides.setDrive s _ _).holds

theorem enterCheck (s : State) (st : PowerStep) : s.KeepsHolds (s.enterCheck st).1 := by
  have htest (x : Side) : s.KeepsHolds (s.startSequenceTest x) := fun y => by
    rw [State.startSequenceTest, State.side_mapSide]
    split
    · rename_i hy
      rw [hy]
    · rfl
  unfold State.enterCheck
  dsimp only
  split
  · exact .refl s
  · exact .refl s
  · exact .refl s
  · split
    · exact .refl s
    · exact htest _

theorem enterRetryWait (s : State) (n : Nat) (st : PowerStep) : s.KeepsHolds (s.enterRetryWait n st) := by
  unfold State.enterRetryWait
  dsimp only
  split
  · exact (State.KeepsHolds.of_ddu rfl).trans (State.LeavesSides.setDrive _ _ _).holds
  · exact .of_ddu rfl

theorem sequenceDone (s : State) : s.KeepsHolds s.sequenceDone := by
  have hheaters (u : State) : u.driveHeaters.ddu = u.ddu := by
    unfold State.driveHeaters
    dsimp only
    split <;> rfl
  refine .of_ddu ((hheaters _).trans ?_)
  simp [State.enterPower]

theorem stepRelation : StepRelation State.KeepsHolds where
  refl := .refl
  trans := .trans
  place _ _ _ := .of_ddu rfl
  act := .applyAction
  check := .enterCheck
  reset _ := .of_ddu rfl
  report _ _ _ _ _ _ := .of_ddu rfl
  wait := .enterRetryWait
  done := .sequenceDone
  halt s := by
    have hentered : s.KeepsHolds ((s.mapPsc fun c => { c with cursor := none, retries := 0 }).enterPower .halted .stepAbort) :=
      .of_ddu rfl
    exact hentered.trans (State.LeavesSides.allOff _).holds

/-- A wake leaves the display holds as they are (R164, R166). -/
theorem wakeNow (s : State) (c : WakeCause) : s.KeepsHolds (s.wakeNow c) := by
  have hwaking : ((s.post .none (.wake c .waking)).waking c.power).ddu = s.ddu := by
    unfold State.waking State.intend
    split <;> rfl
  rw [State.wakeNow, State.enterWaking_eq]
  exact (State.KeepsHolds.of_ddu hwaking).trans (stepRelation.advanceSteps _ _)

/-- The end of an event that no drain can follow leaves the display holds as they are. -/
theorem settle {s : State} (before : State) (h : s.gateNotice.psc.power ≠ .draining) : s.KeepsHolds (s.settle before) := by
  rw [State.settle, State.drainTest_of_power h]
  exact (stepRelation.gateNotice s).trans (.of_ddu (by simp))

end State.KeepsHolds

/-! ## Holds that end (R123) -/

theorem State.endHold_side (s : State) (x y : Side) (r : HoldEnd) : (s.endHold x r).side y =
    if y = x then { s.side x with hold := .none } else s.side y := by
  unfold State.endHold
  split
  · rename_i hnone
    split
    · rename_i hyx
      rw [hyx, ← hnone]
    · rfl
  · rw [State.side, State.post_ddu, ← State.side, State.side_mapSide]

theorem State.endHolds_hold (s : State) (r : HoldEnd) (y : Side) : ((s.endHolds r).side y).hold = .none := by
  have hdark : ((s.endHold .a r).endHold .b r).KeepsHolds (s.endHolds r) :=
    ((State.LeavesSides.darken _ .a).trans (.darken _ .b)).holds
  rw [hdark y, State.endHold_side]
  split
  · rfl
  · rename_i hy
    rw [State.endHold_side, if_pos (by cases y <;> simp at hy ⊢)]

theorem State.endHolds_psc (s : State) (r : HoldEnd) : s.psc.QueueMoved (s.endHolds r).psc := by
  have hend (u : State) (x : Side) : (u.endHold x r).psc = u.psc := by
    unfold State.endHold
    split <;> rfl
  have hended : ((s.endHold .a r).endHold .b r).psc = s.psc := (hend _ .b).trans (hend s .a)
  exact hended ▸ (Psc.QueueMoved.darken ((s.endHold .a r).endHold .b r) .a).trans (.darken _ .b)

end Sys2Proof.Machine
end

section
/-! PROOFS. Family 4, the pulser supply, standby, the reader supply and the warmth of the displays as their conditions change
(R2, R123, R125, R143). -/

namespace Sys2Proof.Machine

/-- Between two events the clock alone moves. -/
structure State.Later (s v : State) : Prop where
  eq : v = { s with now := v.now }

theorem State.later_reach (s : State) (due : Nat) : s.Later (s.reach due) := ⟨rfl⟩

namespace State.Later

variable {s v : State} (h : s.Later v)
include h

theorem psc : v.psc = s.psc := by rw [h.eq]

theorem crg : v.crg = s.crg := by rw [h.eq]

theorem points : v.points = s.points := by rw [h.eq]

theorem ddu : v.ddu = s.ddu := by rw [h.eq]

theorem rtm : v.rtm = s.rtm := by rw [h.eq]

theorem dle : v.dle = s.dle := by rw [h.eq]

theorem miu : v.miu = s.miu := by rw [h.eq]

theorem hlp : v.hlp = s.hlp := by rw [h.eq]

/-- A check of the step in hand does not turn on the value of a condition. -/
theorem sensed_checking (c : Comparator) (value : Bool) (k : Check) :
    (v.sensed c value).psc.checking k = s.psc.checking k := by
  rw [State.sensed_psc, h.psc]
  rfl

theorem sensed_power (c : Comparator) (value : Bool) : (v.sensed c value).psc.power = s.psc.power := by
  rw [State.sensed_psc, h.psc]

theorem sensed_drives (c : Comparator) (value : Bool) : (v.sensed c value).psc.drives = s.psc.drives := by
  rw [State.sensed_psc, h.psc]

theorem sensed_crg (c : Comparator) (value : Bool) : (v.sensed c value).crg = s.crg := by
  rw [State.sensed_eq]
  exact h.crg

theorem sensed_point (c : Comparator) (value : Bool) (p : Point) : (v.sensed c value).point p = s.point p := by
  rw [State.sensed_eq, State.point, State.point]
  exact congrArg (Pair.get · p) h.points

theorem sensed_side (c : Comparator) (value : Bool) (y : Side) : (v.sensed c value).side y = s.side y := by
  rw [State.sensed_eq, State.side, State.side]
  exact congrArg (Pair.get · y) h.ddu

/-- An event of a condition that is followed by moves of the gate's queues, of no point and of nothing that the step in hand
checks has nothing at its end but the hand-over of its changes. -/
theorem settle_kept {t : State} (hr : s.runs = true) {c : Comparator} {value : Bool}
    (hcrg : t.crg.st = s.crg.st) (hcheck : t.psc.checking .readerOpen = (v.sensed c value).psc.checking .readerOpen)
    (hpower : t.psc.power = (v.sensed c value).psc.power) (hpoints : t.points = s.points) : t.settle s = t.commit :=
  State.settle_kept hr hcrg (hcheck.trans (h.sensed_checking c value _)) (hpower.trans (h.sensed_power c value)) fun p hp => by
    rw [State.point, hpoints]
    exact hp

end State.Later

section
variable {s v : State} (hr : s.runs = true) (hv : s.Later v)
include hr hv

/-! ## The pulser supply (R2) -/

/-- A loss of the pulser supply suspends every channel. -/
theorem State.pulserSupply_lost (m : Meter) :
    (((v.conditionBecomes .pulserSupply false).settle s).channel m).reference = none := by
  have hhanded : v.conditionBecomes .pulserSupply false = (v.sensed .pulserSupply false).suspendAll := by
    rw [State.conditionBecomes_bad]
    rfl
  rw [hhanded, hv.settle_kept hr (c := .pulserSupply) (value := false) (by simp [hv.sensed_crg]) (by simp) (by simp)
    (by simp [State.sensed_frame, hv.points]), State.commit_channel]
  simp [State.channel, State.suspendAll]

/-! ## Standby (R123) -/

omit hr in
/-- A loss of standby ends the holds where the part has lost its mains, and no drive moves. -/
theorem State.standby_lost_mainsLost (hpower : s.psc.power = .mainsLost) :
    let t := (v.conditionBecomes .standby false).settle s
    (∀ y : Side, (t.side y).hold = .none) ∧ t.psc.power = .mainsLost ∧ t.psc.drives = s.psc.drives := by
  generalize he : v.sensed .standby false = e
  have hepower : e.psc.power = .mainsLost := by rw [← he, hv.sensed_power, hpower]
  have hhanded : v.conditionBecomes .standby false = e.endHolds .standbyLost := by
    rw [State.conditionBecomes_bad, he]
    exact if_pos ⟨rfl, hepower⟩
  have hpsc := e.endHolds_psc .standbyLost
  have hpower' : (e.endHolds .standbyLost).psc.power = .mainsLost := by rw [hpsc, hepower]
  rw [hhanded, State.settle_stepped s (by simp [hpower']) (Psc.checking_of_power (by simp [hpower']) _)]
  refine ⟨fun y => ?_, ?_, ?_⟩
  · rw [State.commit_side, State.endHolds_hold]
  · rw [State.commit_eq, hpower']
  · rw [State.commit_eq, hpsc, ← he, hv.sensed_drives]

/-- Elsewhere a loss of standby moves its comparator alone. -/
theorem State.standby_lost_elsewhere (hpower : s.psc.power ≠ .mainsLost) :
    let t := (v.conditionBecomes .standby false).settle s
    { t with now := s.now, hlp := s.hlp, psc := s.psc } = s ∧ { t.psc with sensors := s.psc.sensors } = s.psc := by
  generalize he : v.sensed .standby false = e
  have hepower : e.psc.power ≠ .mainsLost := by rwa [← he, hv.sensed_power]
  have hhanded : v.conditionBecomes .standby false = e := by
    rw [State.conditionBecomes_bad, he]
    exact if_neg fun h => hepower h.2
  obtain ⟨-, hc, hd, hn⟩ := State.runs_iff.1 hr
  have hsettle : e.settle s = e := by
    rw [← he]
    refine State.settle_plain (State.noStepDue_congr (by rw [hv.sensed_crg]) (hv.sensed_checking _ _ _) hn) ?_ (hv.sensed_power _ _)
      ?_ ?_
    · rw [State.sensed_eq]
      exact hv.points
    · rw [State.sensed_eq]
      exact hv.rtm ▸ hc
    · rw [State.sensed_eq]
      exact hv.rtm ▸ hd
  rw [hhanded, hsettle, ← he]
  refine ⟨?_, ?_⟩
  · rw [State.sensed_eq, hv.eq]
  · rw [State.sensed_psc, hv.psc]

/-! ## The reader supply (R143) -/

omit hr hv in
/-- The gate after a change of its state that opens no session (R130, R134). -/
theorem State.moveGate_crg (s : State) (c : GateCause) (f : Crg → Crg) :
    (s.moveGate c f).crg = f { s.crg with outbound := [], session := none } := by
  have htold (u : State) (session : Option Nat) : (u.tellSessionEnd session).crg = u.crg := by
    unfold State.tellSessionEnd
    split
    · simp
    · rfl
  unfold State.moveGate
  rw [htold, State.post_crg, State.mapCrg_crg, State.flushOutbound_eq]

/-- A loss of the reader supply reaches no gate without a link. -/
theorem State.readerSupply_lost_unpowered (hst : s.crg.st = .off ∨ s.crg.st = .quarantine) :
    ((v.conditionBecomes .readerSupply false).settle s).crg = s.crg := by
  generalize he : v.sensed .readerSupply false = e
  have hecrg : e.crg = s.crg := by rw [← he, hv.sensed_crg]
  have hhanded : v.conditionBecomes .readerSupply false = e := by
    have hevent : e.readerSupplyEvent false = e := by
      unfold State.readerSupplyEvent
      rcases hst with h | h <;> rw [hecrg, h]
    rw [State.conditionBecomes_bad, he]
    exact hevent
  rw [hhanded, ← he, hv.settle_kept hr (c := .readerSupply) (value := false) (by rw [hv.sensed_crg]) rfl rfl
    (by rw [State.sensed_eq]; exact hv.points), State.commit_eq, hv.sensed_crg]

omit hr in
/-- A loss of the reader supply takes a linked gate back to POWERING, where an attempt begins afresh and no boot time runs. -/
theorem State.readerSupply_lost_linked (hst : s.crg.st = .sync ∨ s.crg.st = .opened ∨ s.crg.st = .echo)
    (hpower : s.psc.power ≠ .draining) :
    let t := (v.conditionBecomes .readerSupply false).settle s
    t.crg.st = .powering ∧ t.crg.session = none ∧ t.crg.outbound = [] ∧ t.crg.inbound = s.crg.inbound
      ∧ t.crg.attempts = s.crg.attempts ∧ t.crg.losses = s.crg.losses ∧ t.crg.attemptDue = v.now + 10000
      ∧ t.crg.bootDue = none ∧ t.crg.offDue = none ∧ t.crg.loadOn = true := by
  generalize he : v.sensed .readerSupply false = e
  have hecrg : e.crg = s.crg := by rw [← he, hv.sensed_crg]
  have henow : e.now = v.now := by rw [← he, State.sensed_eq]
  have hgood : e.good .readerSupply = false := by rw [← he, State.sensed_good]
  have hhanded : v.conditionBecomes .readerSupply false = e.powerGate .supplyLost id := by
    have hevent : e.readerSupplyEvent false = e.powerGate .supplyLost id := by
      unfold State.readerSupplyEvent
      rcases hst with h | h | h <;> rw [hecrg, h] <;> rfl
    rw [State.conditionBecomes_bad, he]
    exact hevent
  have hcrg : (e.powerGate .supplyLost id).crg =
      { ({ s.crg with outbound := [], session := none } : Crg).quietLink with st := .powering }.beginAttempt v.now false := by
    rw [State.powerGate, State.moveGate_crg, hecrg, henow, hgood]
    rfl
  have hpsc : e.psc.QueueMoved (e.powerGate .supplyLost id).psc := by
    unfold State.powerGate
    exact .moveGate e _ _
  have hpower' : (e.powerGate .supplyLost id).psc.power ≠ .draining := by
    rw [hpsc, ← he, hv.sensed_power]
    exact hpower
  have hquiet : (e.powerGate .supplyLost id).gateNotice = e.powerGate .supplyLost id := by
    unfold State.gateNotice
    split
    · rw [hcrg]
      rfl
    · rfl
  rw [hhanded, State.settle, hquiet, State.drainTest_of_power hpower', State.commit_eq, hcrg]
  exact ⟨rfl, rfl, rfl, rfl, rfl, rfl, rfl, rfl, rfl, rfl⟩

/-! ## The warmth of a display (R125) -/

/-- The warmth condition of a display. -/
def warmthOf : Side → Comparator
  | .a => .warmA
  | .b => .warmB

/-- The heater of a display. -/
def heaterOf : Side → Load
  | .a => .heaterA
  | .b => .heaterB

omit hr hv in
theorem State.driveHeaters_eq (s : State) : s.driveHeaters = { s with psc := { s.psc with
    drives := if s.pointsOpen = true then { s.psc.drives with heaterA := s.heaterDemand .a, heaterB := s.heaterDemand .b }
      else s.psc.drives } } := by
  unfold State.driveHeaters
  dsimp only
  split <;> rfl

/-- The warmth of a display moves its heater where the points are open, and no drive where the part is at rest. -/
theorem State.warmth_changed (y : Side) (value : Bool) :
    let t := (v.conditionBecomes (warmthOf y) value).settle s
    (s.psc.power = .run ∨ s.psc.power = .draining → t.drive (heaterOf y) = !value)
      ∧ (s.psc.power = .night ∨ s.psc.power = .halted ∨ s.psc.power = .mainsLost → t.psc.drives = s.psc.drives) := by
  generalize he : v.sensed (warmthOf y) value = e
  have hepower : e.psc.power = s.psc.power := by rw [← he, hv.sensed_power]
  have hsettled (hawake : s.psc.power ≠ .waking) :
      (v.conditionBecomes (warmthOf y) value).settle s = e.driveHeaters.commit := by
    have hhanded : v.conditionBecomes (warmthOf y) value = e.driveHeaters := by
      rw [State.conditionBecomes_awake (by rw [hv.psc]; exact hawake), he]
      cases y <;> rfl
    rw [hhanded, State.driveHeaters_eq, ← he]
    refine hv.settle_kept hr (c := warmthOf y) (value := value) ?_ rfl rfl ?_
    · exact congrArg Crg.st (hv.sensed_crg _ _)
    · rw [State.sensed_eq]
      exact hv.points
  refine ⟨fun hopen => ?_, fun hrest => ?_⟩
  · have hpoints : e.pointsOpen = true := by rcases hopen with h | h <;> simp [State.pointsOpen, hepower, h]
    have hgood : e.good (warmthOf y) = value := by rw [← he, State.sensed_good]
    rw [hsettled (by rcases hopen with h | h <;> simp [h]), State.commit_eq, State.driveHeaters_eq, if_pos hpoints, ← hgood]
    cases y <;> rfl
  · have hpoints : e.pointsOpen = false := by rcases hrest with h | h | h <;> simp [State.pointsOpen, hepower, h]
    rw [hsettled (by rcases hrest with h | h | h <;> simp [h]), State.commit_eq, State.driveHeaters_eq,
      if_neg (by simp [hpoints]), ← he]
    exact hv.sensed_drives _ _

end

end Sys2Proof.Machine
end

section
/-! PROOFS. Family 4, the return of mains in MAINS_LOST (R123, R174). -/

namespace Sys2Proof.Machine

/-! ## Holds that end while no point is in STARTING -/

section
variable {s : State} {x : Side}

/-- A side goes dark beside a point that is not in STARTING: at most a test's end is told. -/
theorem State.darken_still (hst : (s.point x).st ≠ .starting) :
    (s.darken x).points = s.points ∧ (s.darken x).crg = s.crg ∧ (s.darken x).psc = s.psc
      ∧ ∀ n, s.hlp.takes (n + 1) → (s.darken x).hlp.takes n := by
  have htest : (s.endTest x .aborted).points = s.points ∧ (s.endTest x .aborted).crg = s.crg
      ∧ (s.endTest x .aborted).psc = s.psc ∧ ∀ n, s.hlp.takes (n + 1) → (s.endTest x .aborted).hlp.takes n := by
    refine ⟨by simp, by simp, by simp, fun n htakes => ?_⟩
    unfold State.endTest
    split
    · exact Hlp.takes_mono htakes (Nat.le_succ n)
    · exact (State.post_takes (s := s.mapSide x fun d => { d with test := none }) htakes _ _).1
  have hwithdrawn : (s.endTest x .aborted).zeroFailed x = (s.endTest x .aborted).withdrawZero x := by
    unfold State.zeroFailed
    refine if_neg ?_
    rw [State.point, (State.withdrawZero_frame _ x).2.2.2.2.2.2.1, htest.1]
    exact hst
  unfold State.darken
  split
  · exact ⟨rfl, rfl, rfl, fun n htakes => Hlp.takes_mono htakes (Nat.le_succ n)⟩
  · dsimp only
    split
    · exact htest
    · rw [hwithdrawn]
      exact htest

theorem State.endHold_still (s : State) (x : Side) (r : HoldEnd) :
    (s.endHold x r).points = s.points ∧ (s.endHold x r).crg = s.crg ∧ (s.endHold x r).psc = s.psc
      ∧ ∀ n, s.hlp.takes (n + 1) → (s.endHold x r).hlp.takes n := by
  unfold State.endHold
  split
  · exact ⟨rfl, rfl, rfl, fun n htakes => Hlp.takes_mono htakes (Nat.le_succ n)⟩
  · exact ⟨rfl, rfl, rfl, fun n htakes =>
      (State.post_takes (s := s.mapSide x fun d => { d with hold := .none }) htakes _ _).1⟩

/-- The display holds end beside points that are not in STARTING: neither a point nor the gate nor a drive moves (R123). -/
theorem State.endHolds_still (hst : ∀ p, (s.point p).st ≠ .starting) (r : HoldEnd) :
    (s.endHolds r).points = s.points ∧ (s.endHolds r).crg = s.crg ∧ (s.endHolds r).psc = s.psc
      ∧ ∀ n, s.hlp.takes (n + 4) → (s.endHolds r).hlp.takes n := by
  obtain ⟨ap, ac, aw, at'⟩ := s.endHold_still .a r
  obtain ⟨bp, bc, bw, bt⟩ := (s.endHold .a r).endHold_still .b r
  have hpoints : ((s.endHold .a r).endHold .b r).points = s.points := bp.trans ap
  obtain ⟨dp, dc, dw, dt⟩ := State.darken_still (s := (s.endHold .a r).endHold .b r) (x := .a) (by
    rw [State.point, hpoints]
    exact hst .a)
  obtain ⟨fp, fc, fw, ft⟩ := State.darken_still (s := ((s.endHold .a r).endHold .b r).darken .a) (x := .b) (by
    rw [State.point, dp, hpoints]
    exact hst .b)
  exact ⟨fp.trans (dp.trans hpoints), fc.trans (dc.trans (bc.trans ac)), fw.trans (dw.trans (bw.trans aw)),
    fun n htakes => ft n (dt _ (bt _ (at' _ htakes)))⟩

end

/-- The part as mains returns, before it wakes: each drive has taken the output of its load, and the holds have ended
(R123, R174). -/
def State.returned (s : State) : State := s.drivesFromOutputs.endHolds .mainsReturn

theorem State.returned_output {s : State} (hst : ∀ p, (s.point p).st ≠ .starting) (l : Load) :
    s.returned.output l = s.output l := by
  obtain ⟨hpoints, hcrg, hpsc, -⟩ := State.endHolds_still (s := s.drivesFromOutputs) hst .mainsReturn
  have hhold := s.drivesFromOutputs.endHolds_hold .mainsReturn
  have hpulser : s.returned.pulserHold = s.pulserHold := by
    simp only [State.pulserHold, State.point, State.returned, hpoints]
    rfl
  have hdrives : s.returned.psc.drives = s.drivesFromOutputs.psc.drives := congrArg Psc.drives hpsc
  have hcrg' : s.returned.crg = s.crg := hcrg
  have hhold' (y : Side) : (s.returned.side y).hold = .none := hhold y
  cases l <;> simp [State.output, State.drive, State.heldOn, hdrives, State.drivesFromOutputs, hhold', hpulser, hcrg']

/-- A wake leaves the part in WAKING, or past it in RUN or HALTED (R160 to R164). -/
theorem State.wakeNow_power (s : State) (c : WakeCause) :
    (s.wakeNow c).gateNotice.psc.power ∈ [PowerSt.waking, .run, .halted] := by
  have hwaking : ((s.post .none (.wake c .waking)).waking c.power).psc.power = .waking := by rw [State.waking_psc]
  have hseq := (State.Sequences.stepRelation.advanceSteps ((s.post .none (.wake c .waking)).waking c.power) (.begins 1)).trans
    (State.Sequences.stepRelation.gateNotice _)
  exact hseq.power (by simp [hwaking])

/-- A wake, and the end of its event, leave the display holds as they are (R164, R166). -/
theorem State.KeepsHolds.wakeNow_settle (s before : State) (c : WakeCause) :
    s.KeepsHolds ((s.wakeNow c).settle before) := by
  have hpower := s.wakeNow_power c
  refine (State.KeepsHolds.wakeNow s c).trans (.settle before ?_)
  intro h
  simp [h] at hpower

section
variable {s v : State} (hv : s.Later v) (hpower : s.psc.power = .mainsLost)
include hv hpower

/-- The return of mains in MAINS_LOST wakes the part, or takes it to NIGHT, where a wake that waits wakes it (R174). -/
theorem State.mains_returned_eq : v.conditionBecomes .mains true =
    if s.psc.intended = .run then (v.sensed .mains true).returned.wakeNow .mainsReturn
    else match s.psc.wakePending with
      | some cause => (((v.sensed .mains true).endHolds .mainsReturn).enterPower .night .mainsReturn).wakeNow cause
      | none => ((v.sensed .mains true).endHolds .mainsReturn).enterPower .night .mainsReturn := by
  generalize he : v.sensed .mains true = e
  have hepsc : e.psc = { s.psc with sensors := e.psc.sensors } := by
    rw [← he, State.sensed_psc, hv.psc]
  have hrise : v.conditionBecomes .mains true = e.mainsRise := by
    rw [State.conditionBecomes_awake (by rw [hv.psc, hpower]; simp), he]
    rfl
  have hepower : e.psc.power = .mainsLost := by rw [hepsc, hpower]
  have hintended : e.psc.intended = s.psc.intended := by rw [hepsc]
  have hpending : e.psc.wakePending = s.psc.wakePending := by rw [hepsc]
  rw [hrise, State.mainsRise, hepower]
  dsimp only
  rw [hintended, hpending]
  cases s.psc.wakePending <;> rfl

/-- The holds have ended at the end of the event. -/
theorem State.mains_returned_holds (y : Side) : (((v.conditionBecomes .mains true).settle s).side y).hold = .none := by
  rw [State.mains_returned_eq hv hpower]
  generalize v.sensed .mains true = e
  have hended (u : State) : (((u.endHolds .mainsReturn).enterPower .night .mainsReturn).side y).hold = .none :=
    u.endHolds_hold .mainsReturn y
  split
  · rw [State.KeepsHolds.wakeNow_settle]
    exact e.drivesFromOutputs.endHolds_hold .mainsReturn y
  · split
    · rw [State.KeepsHolds.wakeNow_settle]
      exact hended e
    · have hnight : ((e.endHolds .mainsReturn).enterPower .night .mainsReturn).psc.power = .night := rfl
      rw [State.settle_stepped s (by simp [hnight]) (Psc.checking_of_power (by simp [hnight]) _), State.commit_side]
      exact hended e

/-- With the intended state RUN the sequence begins from the outputs of the loads. -/
theorem State.mains_returned_wakes (hintended : s.psc.intended = .run) (hst : ∀ p, (s.point p).st ≠ .starting) :
    s.wakes ((v.conditionBecomes .mains true).settle s) s.output := by
  rw [State.mains_returned_eq hv hpower, if_pos hintended]
  have hsteps := (State.Proceeds.drivesFromOutputs (v.sensed .mains true)).trans (.endHolds _ .mainsReturn)
  have htakes (hroom : s.hlp.hasRoom = true) : (v.sensed .mains true).hlp.takes 23 :=
    State.sensed_takes v .mains true (by rw [hv.hlp]; exact Hlp.takes_of_hasRoom hroom)
  have hout (l : Load) : (v.sensed .mains true).output l = s.output l :=
    State.output_congr (hv.sensed_crg _ _) (hv.sensed_drives _ _) (by rw [State.sensed_eq]; exact hv.points)
      (by rw [State.sensed_eq]; exact hv.ddu) l
  have hpoint := hv.sensed_point .mains true
  have hpsteps : (v.sensed .mains true).psc.steps = s.psc.steps := by rw [State.sensed_psc, hv.psc]
  generalize v.sensed .mains true = e at hsteps htakes hout hpoint hpsteps
  have hest (p : Point) : (e.point p).st ≠ .starting := by rw [hpoint]; exact hst p
  obtain ⟨hpoints, -, -, hstill⟩ := State.endHolds_still (s := e.drivesFromOutputs) hest .mainsReturn
  refine State.wakes_of_wakeNow s .mainsReturn (hsteps.steps.trans hpsteps) (fun p hp => ?_)
    (fun l => (State.returned_output hest l).trans (hout l)) fun hroom => ?_
  · rw [State.point, State.returned, hpoints]
    exact (congrArg PointData.st (hpoint p)).trans hp
  · exact hstill 3 (Hlp.takes_mono (htakes hroom) (by decide))

/-- With the intended state NIGHT and no wake that waits, the part is in NIGHT and no drive has moved. -/
theorem State.mains_returned_night (hintended : s.psc.intended = .night) (hpending : s.psc.wakePending = none) :
    let t := (v.conditionBecomes .mains true).settle s
    t.psc.power = .night ∧ t.psc.drives = s.psc.drives := by
  rw [State.mains_returned_eq hv hpower, if_neg (by simp [hintended]), hpending]
  dsimp only
  generalize he : v.sensed .mains true = e
  have hnight : ((e.endHolds .mainsReturn).enterPower .night .mainsReturn).psc.power = .night := rfl
  have hdrives : ((e.endHolds .mainsReturn).enterPower .night .mainsReturn).psc.drives = s.psc.drives := by
    have hpsc := e.endHolds_psc .mainsReturn
    have hended : (e.endHolds .mainsReturn).psc.drives = e.psc.drives := by rw [hpsc]
    exact hended.trans (by rw [← he, hv.sensed_drives])
  rw [State.settle_stepped s (by simp [hnight]) (Psc.checking_of_power (by simp [hnight]) _), State.commit_eq]
  exact ⟨hnight, hdrives⟩

end

end Sys2Proof.Machine
end

section
/-! PROOFS. Family 4, the valve supply (R63, R66): its loss stops the deliveries whose valves are open, and its return opens
those that waited for it. -/

namespace Sys2Proof.Machine

/-! ## The mismatch timers (R12) -/

/-- Of the state the mismatch timers alone have moved. -/
structure State.Retimed (s t : State) : Prop where
  eq : t = { s with miu := t.miu }
  channel : ∀ m, t.channel m = { s.channel m with mismatchSince := (t.channel m).mismatchSince }

theorem State.Retimed.trans {s t u : State} (h : s.Retimed t) (k : t.Retimed u) : s.Retimed u where
  eq := by
    have hk := k.eq
    rw [h.eq] at hk
    exact hk
  channel m := by rw [k.channel m, h.channel m]

theorem State.retimed_retime (s : State) (m : Meter) : s.Retimed (s.retime m) where
  eq := by
    rw [State.retime_eq]
  channel j := by
    rw [State.retime_channel]
    split
    · rename_i hj
      rw [hj]
    · rfl

theorem State.retimed_retimeAll (s : State) : s.Retimed s.retimeAll :=
  (s.retimed_retime .m1).trans ((State.retimed_retime _ .m2).trans ((State.retimed_retime _ .m3).trans
    (State.retimed_retime _ .m4)))

/-! ## Both points in turn -/

section
variable {w : State} {p q : Point} {m : Meter} {r : DeliveryRecord} (hheld : w.heldBy p = some m)
include hheld

/-- The opening test of one point moves neither the other nor its meter (R58, R63). -/
theorem State.tryOpen_other (hpq : p ≠ q) :
    (w.tryOpen q).point p = w.point p ∧ (w.tryOpen q).channel m = w.channel m := by
  unfold State.tryOpen
  dsimp only
  split
  · rename_i j r hj _
    have hmj : m ≠ j := fun h => hpq (Option.some.inj
      ((State.holder_of_heldBy w hheld).symm.trans (h ▸ State.holder_of_heldBy w hj)))
    split
    · rw [State.openValves_point, if_neg hpq, State.openValves_channel, (w.commandValves_channel j m _ true).1 hmj]
      exact ⟨rfl, rfl⟩
    · exact ⟨rfl, rfl⟩
  · exact ⟨rfl, rfl⟩

/-- The opening tests of both points open the valves of one for which every condition holds (R63). -/
theorem State.tryOpen_both_opens (hcur : (w.point p).current = some r) (hst : (w.point p).st = .starting)
    (hzero : (w.point p).zeroPassed = true) (hdone : w.runUpDone m = true) (hgood : w.good .valveSupply = true) :
    let t := (w.tryOpen .a).tryOpen .b
    t.point p = (w.point p).opened (w.opensFull m r) r w.now ∧ (t.channel m).slowOpen = true
      ∧ (t.channel m).mainOpen = w.opensFull m r := by
  have hopens (u : State) (hpoint : u.point p = w.point p) (hchannel : u.channel m = w.channel m) (hdle : u.dle = w.dle)
      (hpsc : u.psc = w.psc) (hnow : u.now = w.now) :
      (u.tryOpen p).point p = (w.point p).opened (w.opensFull m r) r w.now ∧ ((u.tryOpen p).channel m).slowOpen = true
        ∧ ((u.tryOpen p).channel m).mainOpen = w.opensFull m r := by
    have hdone' : u.runUpDone m = true := by
      rw [State.runUpDone, State.motor, hdle, hchannel, hnow]
      exact hdone
    have hgood' : u.good .valveSupply = true := by simpa only [State.good, hpsc] using hgood
    have hfull : u.opensFull m r = w.opensFull m r := by simp only [State.opensFull, hchannel]
    have hheld' : u.heldBy p = some m := (State.heldBy_congr (by rw [hdle]) p).trans hheld
    obtain ⟨hmain, hslow⟩ := u.commandValves_commands m (w.opensFull m r) true
    rw [State.tryOpen_eq hheld' (by rw [hpoint, hcur]), if_pos ⟨by rw [hpoint, hst], by rw [hpoint, hzero], hdone', hgood'⟩,
      State.openValves_point, if_pos rfl, State.openValves_channel, hpoint, hfull, hnow]
    exact ⟨rfl, hslow, hmain⟩
  cases p with
  | a =>
    obtain ⟨hpoint, hslow, hmain⟩ := hopens w rfl rfl rfl rfl rfl
    have hheld' : (w.tryOpen .a).heldBy .a = some m := (State.heldBy_congr (by simp) .a).trans hheld
    obtain ⟨hpoint', hchannel⟩ := State.tryOpen_other hheld' (q := .b) (by decide)
    dsimp only
    rw [hpoint', hchannel]
    exact ⟨hpoint, hslow, hmain⟩
  | b =>
    obtain ⟨hpoint, hchannel⟩ := State.tryOpen_other hheld (q := .a) (by decide)
    exact hopens _ hpoint hchannel (by simp) (by simp) (by simp)

omit hheld in
theorem State.supplyLostPoint_acts (u : State) (x : Point) : u.ActsAt (u.supplyLostPoint x) x := by
  unfold State.supplyLostPoint
  split
  · exact .stopHolder u x _
  · exact .refl u x

/-- The loss of the valve supply stops a delivery whose valves are open (R64, R66). -/
theorem State.supplyLost_both_stopped (hcur : (w.point p).current = some r) (hflow : (w.point p).st.flowing = true) :
    ((w.supplyLostPoint .a).supplyLostPoint .b).StoppingAt p m r .valveSupplyLost w.now := by
  have hstops (u : State) (hpoint : u.point p = w.point p) (hheld' : u.heldBy p = some m) (hnow : u.now = w.now) :
      (u.supplyLostPoint p).StoppingAt p m r .valveSupplyLost w.now := by
    rw [State.supplyLostPoint, if_pos (by rw [hpoint, hflow]), ← hnow]
    exact State.stopHolder_stopped hheld' (.inr (by rw [hpoint, hflow])) (by rw [hpoint, hcur]) _
  cases p with
  | a => exact (hstops w rfl hheld rfl).spared ((State.supplyLostPoint_acts _ .b).spares .a (by decide))
  | b =>
    have hspared := (w.supplyLostPoint_acts .a).spares .b (by decide)
    refine hstops _ (hspared.same fun h => ?_) (hspared.heldBy.trans hheld) (w.supplyLostPoint_acts .a).proceeds.now
    rw [h] at hflow
    cases hflow

end

/-! ## The events of the valve supply -/

/-- The part as the valve supply changes, before its deliveries take it up (R12, R155). -/
def State.resupplied (v : State) (value : Bool) : State := (v.sensed .valveSupply value).retimeAll

section
variable {s v : State} (hr : s.runs = true) (hv : s.Later v) (value : Bool)

theorem State.resupplied_retimed : (v.sensed .valveSupply value).Retimed (v.resupplied value) := State.retimed_retimeAll _

theorem State.resupplied_good : (v.resupplied value).good .valveSupply = value := by
  rw [(v.resupplied_retimed value).eq]
  exact v.sensed_good _ _

include hv

theorem State.resupplied_point (p : Point) : (v.resupplied value).point p = s.point p := by
  rw [(v.resupplied_retimed value).eq]
  exact hv.sensed_point _ _ p

theorem State.resupplied_dle : (v.resupplied value).dle = s.dle := by
  rw [(v.resupplied_retimed value).eq, State.sensed_eq]
  exact hv.dle

theorem State.resupplied_crg : (v.resupplied value).crg = s.crg := by
  rw [(v.resupplied_retimed value).eq]
  exact hv.sensed_crg _ _

theorem State.resupplied_power : (v.resupplied value).psc.power = s.psc.power := by
  rw [(v.resupplied_retimed value).eq]
  exact hv.sensed_power _ _

theorem State.resupplied_checking (k : Check) : (v.resupplied value).psc.checking k = s.psc.checking k := by
  rw [(v.resupplied_retimed value).eq]
  exact hv.sensed_checking _ _ k

omit hv in
theorem State.resupplied_now : (v.resupplied value).now = v.now := by
  rw [(v.resupplied_retimed value).eq, State.sensed_eq]

theorem State.resupplied_channel (m : Meter) : ∃ since, (v.resupplied value).channel m =
    { s.channel m with mismatchSince := since } := by
  have hsensed : (v.sensed .valveSupply value).channel m = s.channel m := by
    rw [State.sensed_eq, State.channel, State.channel, ← hv.miu]
  refine ⟨((v.resupplied value).channel m).mismatchSince, ?_⟩
  rw [(v.resupplied_retimed value).channel m, hsensed]

end

section
variable {s v : State} (hr : s.runs = true) (hv : s.Later v) {p : Point} {m : Meter} {r : DeliveryRecord}
  (hheld : s.heldBy p = some m) (hcur : (s.point p).current = some r)
include hv hheld hcur

include hr in
/-- A loss of the valve supply stops a delivery whose valves are open, and closes them (R64, R66). -/
theorem State.valveSupply_lost (hflow : (s.point p).st.flowing = true) :
    ((v.conditionBecomes .valveSupply false).settle s).StoppingAt p m r .valveSupplyLost v.now := by
  have hhanded : v.conditionBecomes .valveSupply false =
      ((v.resupplied false).supplyLostPoint .a).supplyLostPoint .b := by
    rw [State.conditionBecomes_bad]
    rfl
  have hpoint := State.resupplied_point hv false p
  have hstopped := State.supplyLost_both_stopped (w := v.resupplied false)
    ((State.heldBy_congr (by rw [State.resupplied_dle hv]) p).trans hheld) (by rw [hpoint, hcur]) (by rw [hpoint, hflow])
  have hacts := ((v.resupplied false).supplyLostPoint_acts .a).toActsOnPoints.trans
    (State.supplyLostPoint_acts _ .b).toActsOnPoints
  have hcrg := hacts.crg
  have hpsc := hacts.psc
  rw [hhanded]
  generalize ((v.resupplied false).supplyLostPoint .a).supplyLostPoint .b = u at *
  obtain ⟨-, -, -, hn⟩ := State.runs_iff.1 hr
  have hdue : u.noStepDue = true := by
    refine State.noStepDue_congr (by rw [hcrg, State.resupplied_crg hv]) (Eq.trans ?_ (State.resupplied_checking hv false _)) hn
    rw [hpsc]
    rfl
  rw [State.settle, State.gateNotice_of_noStepDue hdue]
  rw [State.resupplied_now] at hstopped
  exact (hstopped.drained (before := s)).spared (.of_fields (State.commit_point _ p) (by simp) (by simp) (by simp))

/-- The return of the valve supply opens the valves of a delivery that waited for it alone (R63). -/
theorem State.valveSupply_returned (hpower : s.psc.power = .run ∨ s.psc.power = .draining)
    (hst : (s.point p).st = .starting) (hzero : (s.point p).zeroPassed = true) (hmotor : (s.motor m).st = .running)
    (hdone : (s.motor m).onSince + (s.channel m).record.runUp ≤ v.now) :
    let t := (v.conditionBecomes .valveSupply true).settle s
    t.point p = (s.point p).opened (s.opensFull m r) r v.now ∧ (t.channel m).slowOpen = true
      ∧ (t.channel m).mainOpen = s.opensFull m r := by
  have hhanded : v.conditionBecomes .valveSupply true = ((v.resupplied true).tryOpen .a).tryOpen .b := by
    rw [State.conditionBecomes_awake (by rw [hv.psc]; rcases hpower with h | h <;> simp [h])]
    rfl
  obtain ⟨since, hchannel⟩ := State.resupplied_channel hv true m
  have hheld' : (v.resupplied true).heldBy p = some m :=
    (State.heldBy_congr (by rw [State.resupplied_dle hv]) p).trans hheld
  have hpoint := State.resupplied_point hv true p
  have hdone' : (v.resupplied true).runUpDone m = true := by
    rw [State.runUpDone, State.motor, State.resupplied_dle hv, hchannel, State.resupplied_now]
    simpa using ⟨hmotor, hdone⟩
  have hfull : (v.resupplied true).opensFull m r = s.opensFull m r := by
    rw [State.opensFull, hchannel]
    rfl
  obtain ⟨hopened, hslow, hmain⟩ := State.tryOpen_both_opens hheld' (by rw [hpoint, hcur]) (by rw [hpoint, hst])
    (by rw [hpoint, hzero]) hdone' (v.resupplied_good true)
  have hpsc : (((v.resupplied true).tryOpen .a).tryOpen .b).psc = (v.resupplied true).psc := by simp
  rw [hpoint, hfull, State.resupplied_now] at hopened
  rw [hfull] at hmain
  have hawake : (((v.resupplied true).tryOpen .a).tryOpen .b).psc.power ≠ .waking := by
    rw [hpsc, State.resupplied_power hv]
    rcases hpower with h | h <;> simp [h]
  rw [hhanded]
  generalize ((v.resupplied true).tryOpen .a).tryOpen .b = u at *
  have hselling : (u.point p).st.selling = true := by
    rw [hopened]
    cases s.opensFull m r <;> rfl
  rw [State.settle, State.gateNotice_of_noStepDue (State.noStepDue_of_checking (Psc.checking_of_power hawake _)),
    State.drainTest_of_selling hselling]
  dsimp only
  rw [State.commit_point, State.commit_channel]
  exact ⟨hopened, hslow, hmain⟩

end

end Sys2Proof.Machine
end

section
/-! PROOFS. Family 4, the loss of mains at the motors, the points and the sides (R80, R122, R171, R172). -/

namespace Sys2Proof.Machine

/-! ## Motors that are off (R62) -/

/-- Every motor is off and none awaits a start. -/
def State.MotorsOff (s : State) : Prop := (∀ m, (s.motor m).st = .off) ∧ s.psc.startQueue = []

namespace State.MotorsOff

variable {s t : State} (h : s.MotorsOff)
include h

theorem of_fields (hmotors : t.dle.motors = s.dle.motors) (hqueue : t.psc.startQueue = s.psc.startQueue) : t.MotorsOff := by
  obtain ⟨hoff, hempty⟩ := h
  exact ⟨fun m => by rw [State.motor, hmotors]; exact hoff m, by rw [hqueue, hempty]⟩

/-- A stop turns no motor on that is off. -/
theorem stopHolder (p : Point) (c : StopCause) : (s.stopHolder p c).MotorsOff := by
  obtain hs | ⟨m, -, hs⟩ := s.stopHolder_cases p c <;> rw [hs]
  · exact h
  · have hshut : (s.shut p m c).MotorsOff := h.of_fields (by rw [State.shut_dle]) (by simp [State.shut])
    have hdropped : (s.shut p m c).dropMotor m = s.shut p m c := by
      simp only [State.dropMotor, hshut.1 m]
    rw [State.enterStopping_eq, hdropped]
    exact hshut.of_fields rfl rfl

end State.MotorsOff

theorem State.allMotorsOff_off (s : State) : s.allMotorsOff.MotorsOff :=
  ⟨fun m => by simp [State.motor, State.allMotorsOff], rfl⟩

/-! ## Loads that go off beside points that neither wait nor begin (R121, R158) -/

/-- No point moves but one that is authorized or begins a delivery, none comes to wait for a meter, and motors that are off
stay off. -/
structure State.Darkens (s t : State) : Prop where
  point : ∀ p, (s.point p).st ≠ .authorized → (s.point p).st ≠ .starting → t.point p = s.point p
  waiters : ∀ p m, t.dle.waiters.get m = some p → s.dle.waiters.get m = some p
  motors : s.MotorsOff → t.MotorsOff

namespace State.Darkens

variable {s t u : State}

theorem trans (h : s.Darkens t) (k : t.Darkens u) : s.Darkens u where
  point p hauthorized hstarting := by
    have hp := h.point p hauthorized hstarting
    exact (k.point p (by rwa [hp]) (by rwa [hp])).trans hp
  waiters p m hm := h.waiters p m (k.waiters p m hm)
  motors hs := k.motors (h.motors hs)

theorem of_fields (hpoints : t.points = s.points) (hdle : t.dle = s.dle) (hqueue : t.psc.startQueue = s.psc.startQueue) :
    s.Darkens t where
  point p _ _ := by
    rw [State.point, hpoints]
    rfl
  waiters p m hm := by rwa [← hdle]
  motors hs := hs.of_fields (by rw [hdle]) hqueue

theorem refl (s : State) : s.Darkens s := .of_fields rfl rfl rfl

theorem stopHolder {p : Point} (hst : (s.point p).st = .starting) (c : StopCause) : s.Darkens (s.stopHolder p c) where
  point q _ hq := ((State.ActsAt.stopHolder s p c).spares q (by
    rintro rfl
    exact hq hst)).same hq
  waiters q m hm := by rwa [(s.stopHolder_table p c).2] at hm
  motors hs := hs.stopHolder p c

theorem endPermission (s : State) (p : Point) (r : AuthEnd) (c : StopCause) : s.Darkens (s.endPermission p r c) := by
  have hended (u : State) (hst : (u.point p).st = .authorized ∨ (u.point p).st = .starting) :
      u.Darkens (u.endAuthorization p r) := by
    refine ⟨fun q hauthorized hstarting => ?_, fun q m hm => by simpa using hm, fun hs => hs.of_fields (by simp) (by simp)⟩
    refine ((State.ActsAt.endAuthorization u p r).spares q ?_).same hstarting
    rintro rfl
    exact hst.elim hauthorized hstarting
  unfold State.endPermission
  split
  · rename_i hst
    exact hended s (.inl hst)
  · split
    · rename_i hwait
      have hst : (s.point p).st = .starting := by
        simp only [State.waiting, Bool.and_eq_true, decide_eq_true_eq] at hwait
        exact hwait.1
      have hleft : s.Darkens (s.leaveStarting p) := by
        refine ⟨fun q _ hq => ?_, fun q m hm => ?_, fun hs => hs.of_fields rfl rfl⟩
        · rw [State.leaveStarting_point, if_neg]
          rintro rfl
          exact hq hst
        · have hdle : (s.leaveStarting p).dle.waiters = s.dle.waiters.map fun w => if w = some p then none else w := rfl
          rw [hdle, Quad.get_map] at hm
          split at hm
          · cases hm
          · exact hm
      refine hleft.trans (hended _ (.inr ?_))
      rw [State.leaveStarting_point, if_pos rfl]
      exact hst
    · split
      · rename_i hst
        exact .stopHolder hst c
      · exact .refl s

theorem tellSessionEnd (s : State) (session : Option Nat) : s.Darkens (s.tellSessionEnd session) := by
  have hpoint (u : State) (p : Point) (n : Nat) : u.Darkens (u.sessionEndPoint p n) := by
    unfold State.sessionEndPoint
    split
    · exact .endPermission u p _ _
    · exact .refl u
  unfold State.tellSessionEnd
  split
  · exact (hpoint s .a _).trans (hpoint _ .b _)
  · exact .refl s

theorem readerOffAct (s : State) (c : GateCause) : s.Darkens (s.readerOffAct c) := by
  unfold State.readerOffAct
  split
  · exact .refl s
  · unfold State.moveGate
    refine State.Darkens.trans (.of_fields ?_ ?_ ?_) (.tellSessionEnd _ _) <;> rw [State.flushOutbound_eq] <;> rfl

theorem darken (s : State) (x : Side) : s.Darkens (s.darken x) := by
  have hzero (u : State) : u.Darkens (u.zeroFailed x) := by
    have hwithdrawn : u.Darkens (u.withdrawZero x) := .of_fields rfl rfl rfl
    unfold State.zeroFailed
    dsimp only
    split
    · rename_i hst
      exact hwithdrawn.trans (.stopHolder hst _)
    · exact hwithdrawn
  have htest : s.Darkens (s.endTest x .aborted) := .of_fields (by simp) (by simp) (by simp)
  unfold State.darken
  split
  · exact .refl s
  · dsimp only
    split
    · exact htest
    · exact htest.trans (hzero _)

theorem allOff (s : State) : s.Darkens s.allOff := by
  have hdrives : s.Darkens (s.mapPsc fun c => { c with drives := noDrives }) := .of_fields rfl rfl rfl
  exact hdrives.trans ((State.Darkens.darken _ .a).trans ((State.Darkens.darken _ .b).trans (.readerOffAct _ _)))

end State.Darkens

end Sys2Proof.Machine
end

section
/-! PROOFS. Family 4, the points as the part leaves RUN, DRAINING or WAKING for MAINS_LOST (R64, R66, R80). -/

namespace Sys2Proof.Machine

/-! ## The acts at each point -/

namespace State.ActsAt

theorem enterClosed (s : State) (p : Point) : s.ActsAt (s.enterClosed p) p where
  proceeds := .enterClosed s p
  crg := by simp
  psc := by simp
  newest := s.enterClosed_newest p
  holders := by simp
  spares q hq := .of_fields (by rw [State.enterClosed_point, if_neg hq]) (by simp) (by simp) (by simp)

theorem drainPoint (s : State) (p : Point) : s.ActsAt (s.drainPoint p) p := by
  unfold State.drainPoint
  split
  · exact .enterClosed s p
  · exact .refl s p

theorem closeAuthorized (s : State) (p : Point) : s.ActsAt (s.closeAuthorized p) p := by
  unfold State.closeAuthorized
  split
  · exact (State.ActsAt.post s p _ _).trans (.enterClosed _ p)
  · exact .refl s p

theorem closeDelivery (s : State) (p : Point) : s.ActsAt (s.closeDelivery p) p := by
  unfold State.closeDelivery
  split
  · exact (State.ActsAt.leaveStarting s p).trans ((State.ActsAt.post _ p _ _).trans (.enterClosed _ p))
  · exact .stopHolder s p _

end State.ActsAt

/-- The three turns of a point as the points close, each among acts on the other point (R80). -/
structure State.ClosesIn (s t : State) (p : Point) : Prop where
  turns : ∃ u v w, s.Spares u p ∧ (u.drainPoint p).Spares v p ∧ (v.closeAuthorized p).Spares w p
    ∧ (w.closeDelivery p).Spares t p

theorem State.closePoints_acts (s : State) : s.ActsOnPoints s.closePoints :=
  (State.ActsAt.drainPoint s .a).toActsOnPoints.trans ((State.ActsAt.drainPoint _ .b).toActsOnPoints.trans
    ((State.ActsAt.closeAuthorized _ .a).toActsOnPoints.trans ((State.ActsAt.closeAuthorized _ .b).toActsOnPoints.trans
      ((State.ActsAt.closeDelivery _ .a).toActsOnPoints.trans (State.ActsAt.closeDelivery _ .b).toActsOnPoints))))

theorem State.closePoints_in (s : State) (p : Point) : s.ClosesIn s.closePoints p := by
  have h1 := State.ActsAt.drainPoint s .a
  have h2 := State.ActsAt.drainPoint (s.drainPoint .a) .b
  have h3 := State.ActsAt.closeAuthorized s.drainPoints .a
  have h4 := State.ActsAt.closeAuthorized (s.drainPoints.closeAuthorized .a) .b
  have h5 := State.ActsAt.closeDelivery ((s.drainPoints.closeAuthorized .a).closeAuthorized .b) .a
  have h6 := State.ActsAt.closeDelivery (((s.drainPoints.closeAuthorized .a).closeAuthorized .b).closeDelivery .a) .b
  cases p with
  | a => exact ⟨s, _, _, .refl s .a, h2.spares .a (by decide), h4.spares .a (by decide), h6.spares .a (by decide)⟩
  | b => exact ⟨_, _, _, h1.spares .b (by decide), h3.spares .b (by decide), h5.spares .b (by decide), .refl _ .b⟩

/-! ## What each turn leaves as it is -/

section
variable {s : State} {p : Point}

theorem State.drainPoint_of_not (h : (s.point p).st ≠ .idle ∧ (s.point p).st ≠ .calling) : s.drainPoint p = s := by
  rw [State.drainPoint, if_neg (by simp [h.1, h.2])]

theorem State.closeAuthorized_of_not (h : (s.point p).st ≠ .authorized) : s.closeAuthorized p = s := by
  rw [State.closeAuthorized, if_neg h]

theorem State.closeDelivery_of_closed (h : (s.point p).st = .closed) : s.closeDelivery p = s := by
  rw [State.closeDelivery, if_neg (by simp [State.waiting, h]), State.stopHolder_of_not (by simp [h, PointSt.flowing])]

/-- A point that is closed, without an authorization. -/
def PointData.shut (d : PointData) : Prop := d.st = .closed ∧ d.auth = none

theorem State.enterClosed_shut (s : State) (p : Point) : ((s.enterClosed p).point p).shut := by
  rw [State.enterClosed_point, if_pos rfl]
  exact ⟨rfl, rfl⟩

theorem State.Spares.shut {t : State} (h : s.Spares t p) (hs : (s.point p).shut) : (t.point p).shut := by
  rw [h.same (by simp [hs.1])]
  exact hs

end

/-! ## What the three turns leave (R80) -/

section
variable {s t : State} {p : Point} (h : s.ClosesIn t p)
include h

theorem State.ClosesIn.free (hst : (s.point p).st = .idle ∨ (s.point p).st = .calling) : (t.point p).shut := by
  obtain ⟨u, v, w, hu, hv, hw, ht⟩ := h
  have hp : u.point p = s.point p := hu.same (by rcases hst with h | h <;> simp [h])
  rw [State.drainPoint, if_pos (by rw [hp]; exact hst)] at hv
  have hvshut := hv.shut (u.enterClosed_shut p)
  rw [State.closeAuthorized_of_not (by simp [hvshut.1])] at hw
  have hwshut := hw.shut hvshut
  rw [State.closeDelivery_of_closed hwshut.1] at ht
  exact ht.shut hwshut

theorem State.ClosesIn.authorized (hst : (s.point p).st = .authorized) : (t.point p).shut := by
  obtain ⟨u, v, w, hu, hv, hw, ht⟩ := h
  have hp : u.point p = s.point p := hu.same (by simp [hst])
  rw [State.drainPoint_of_not (by simp [hp, hst])] at hv
  have hpv : v.point p = s.point p := (hv.same (by simp [hp, hst])).trans hp
  rw [State.closeAuthorized, if_pos (by rw [hpv, hst])] at hw
  have hwshut := hw.shut (State.enterClosed_shut _ p)
  rw [State.closeDelivery_of_closed hwshut.1] at ht
  exact ht.shut hwshut

theorem State.ClosesIn.holder {m : Meter} {r : DeliveryRecord}
    (hst : (s.point p).st = .starting ∨ (s.point p).st.flowing = true) (hheld : s.heldBy p = some m)
    (hcur : (s.point p).current = some r) : ∃ now, t.StoppingAt p m r .powerLoss now := by
  obtain ⟨u, v, w, hu, hv, hw, ht⟩ := h
  have hbusy {x : State} (hx : (x.point p).st = .starting ∨ (x.point p).st.flowing = true) :
      ((x.point p).st ≠ .idle ∧ (x.point p).st ≠ .calling) ∧ (x.point p).st ≠ .authorized := by
    rcases hx with hx | hx
    · simp [hx]
    · refine ⟨⟨?_, ?_⟩, ?_⟩ <;> rintro hst <;> simp [hst, PointSt.flowing] at hx
  have hustop := hu.stoppable hst
  rw [State.drainPoint_of_not (hbusy hustop).1] at hv
  have hvstop := hv.stoppable hustop
  rw [State.closeAuthorized_of_not (hbusy hvstop).2] at hw
  have hheld' : w.heldBy p = some m := hw.heldBy.trans (hv.heldBy.trans (hu.heldBy.trans hheld))
  have hcur' : (w.point p).current = some r := hw.current.trans (hv.current.trans (hu.current.trans hcur))
  rw [State.closeDelivery, if_neg (by simp [State.waiting_of_held hheld'])] at ht
  exact ⟨w.now, (State.stopHolder_stopped hheld' (hw.stoppable hvstop) hcur' _).spared ht⟩

theorem State.ClosesIn.waiting (hwait : s.waiting p = true) :
    (t.point p).shut ∧ (t.point p).current = none ∧ ∀ m, t.dle.waiters.get m ≠ some p := by
  obtain ⟨u, v, w, hu, hv, hw, ht⟩ := h
  have hstarting {x : State} (hx : x.waiting p = true) : (x.point p).st = .starting := by
    simp only [State.waiting, Bool.and_eq_true, decide_eq_true_eq] at hx
    exact hx.1
  have huwait := (hu.waiting hwait).1
  rw [State.drainPoint_of_not (by simp [hstarting huwait])] at hv
  have hvwait := (hv.waiting huwait).1
  rw [State.closeAuthorized_of_not (by simp [hstarting hvwait])] at hw
  have hwwait := (hw.waiting hvwait).1
  rw [State.closeDelivery, if_pos hwwait] at ht
  have hshut := State.enterClosed_shut ((w.leaveStarting p).post (.point p) (.authEnded .power)) p
  have hwaiters := w.leaveStarting_waiters p
  refine ⟨ht.shut hshut, ?_, fun m => mt (ht.waiters m).1 ?_⟩
  · rw [ht.current, State.enterClosed_point, if_pos rfl]
    exact congrArg PointData.current ((w.leaveStarting_point p p).trans (if_pos rfl))
  · rw [State.enterClosed_eq]
    exact hwaiters m

end

/-! ## Motors (R62) -/

theorem State.MotorsOff.closePoints {s : State} (h : s.MotorsOff) : s.closePoints.MotorsOff := by
  have hauthorized (u : State) (hu : u.MotorsOff) (p : Point) : (u.closeAuthorized p).MotorsOff := by
    unfold State.closeAuthorized
    split
    · exact hu.of_fields (by simp) (by simp)
    · exact hu
  have hdelivery (u : State) (hu : u.MotorsOff) (p : Point) : (u.closeDelivery p).MotorsOff := by
    unfold State.closeDelivery
    split
    · have hleft : (u.leaveStarting p).MotorsOff := hu.of_fields rfl rfl
      exact hleft.of_fields (by simp) (by simp)
    · exact hu.stopHolder p _
  have hdrained : s.drainPoints.MotorsOff := h.of_fields (by simp) (by simp)
  exact hdelivery _ (hdelivery _ (hauthorized _ (hauthorized _ hdrained .a) .b) .a) .b

/-! ## The loss of mains (R171) -/

/-- The part as it enters MAINS_LOST: no step in hand, no display test (R121, R171). -/
def State.untested (s : State) : State :=
  (((s.mapPsc fun c => { c with cursor := none, retries := 0 }).enterPower .mainsLost .mainsLoss).endTest .a .aborted).endTest
    .b .aborted

/-- The part in MAINS_LOST with the holds taken, its points not yet closed (R122). -/
def State.heldOver (s : State) : State :=
  (s.untested.takeHold .a (s.holdDecision .a)).takeHold .b (s.holdDecision .b)

theorem State.mainsLoss_eq (s : State) : s.mainsLoss = (s.heldOver.allMotorsOff.closePoints).allOff := rfl

theorem State.takeHold_eq (s : State) (x : Side) (h : Hold) :
    s.takeHold x h = { s with ddu := (s.takeHold x h).ddu, hlp := (s.takeHold x h).hlp } := by
  unfold State.takeHold State.endHold
  dsimp only
  split
  · split
    · split <;> rfl
    · rfl
  · rfl
  · rfl

theorem State.endTest_aborted_eq (s : State) (x : Side) :
    s.endTest x .aborted = { s with ddu := (s.endTest x .aborted).ddu, hlp := (s.endTest x .aborted).hlp } := by
  unfold State.endTest
  split <;> rfl

theorem State.heldOver_eq (s : State) : s.heldOver = { s with
    ddu := s.heldOver.ddu, hlp := s.heldOver.hlp
    psc := { s.psc with cursor := none, retries := 0, power := .mainsLost } } := by
  unfold State.heldOver State.untested
  rw [State.takeHold_eq, State.takeHold_eq, State.endTest_aborted_eq, State.endTest_aborted_eq]
  rfl

/-- The hold that a side stands in once it has taken one: a hold time of 0 has ended at once (R123). -/
def Hold.taken (h : Hold) (holdTime : Nat) : Hold :=
  match h with
  | .timing due => if holdTime = 0 then .none else .timing due
  | h => h

theorem State.takeHold_side (s : State) (x y : Side) (h : Hold) : (s.takeHold x h).side y =
    if y = x then { s.side x with hold := h.taken s.display.holdTime } else s.side y := by
  have hmapped (h : Hold) : (s.mapSide x fun d => { d with hold := h }).side y =
      if y = x then { s.side x with hold := h } else s.side y := s.side_mapSide x y _
  unfold State.takeHold Hold.taken
  dsimp only
  cases h with
  | none => exact hmapped _
  | awaitingFinish => exact hmapped _
  | timing due =>
    have hdisplay : (s.mapSide x fun d => { d with hold := .timing due }).display = s.display := rfl
    dsimp only
    rw [hdisplay]
    split
    · rw [State.endHold_side, hmapped]
      split
      · rw [State.side_mapSide, if_pos rfl]
      · rfl
    · exact hmapped _

theorem State.endTest_aborted_side (s : State) (x y : Side) : (s.endTest x .aborted).side y =
    if y = x then { s.side x with test := none } else s.side y := by
  unfold State.endTest
  split
  · rename_i hnone
    split
    · rename_i hy
      rw [hy, ← hnone]
    · rfl
  · have hended : (s.mapSide x fun d => { d with test := none }).side y =
        if y = x then { s.side x with test := none } else s.side y := s.side_mapSide x y _
    exact hended

theorem State.heldOver_side (s : State) (y : Side) : s.heldOver.side y =
    { s.side y with test := none, hold := (s.holdDecision y).taken s.display.holdTime } := by
  have hentered (x : Side) : (((s.mapPsc fun c => { c with cursor := none, retries := 0 }).enterPower .mainsLost
      .mainsLoss).side x) = s.side x := rfl
  have huntested (x : Side) : s.untested.side x = { s.side x with test := none } := by
    rw [State.untested, State.endTest_aborted_side, State.endTest_aborted_side, hentered]
    cases x with
    | a =>
      rw [if_neg (by decide), State.endTest_aborted_side, if_pos rfl, hentered]
    | b => rfl
  have hdisplay : s.untested.display = s.display := by
    rw [State.untested, State.endTest_aborted_eq, State.endTest_aborted_eq]
    rfl
  have htaken (x : Side) (h : Hold) : (s.untested.takeHold x h).side y =
      if y = x then { s.side y with test := none, hold := h.taken s.display.holdTime }
      else { s.side y with test := none } := by
    rw [State.takeHold_side, hdisplay]
    split
    · rename_i hy
      rw [← hy, huntested]
    · exact huntested y
  have hdisplay' (x : Side) (h : Hold) : (s.untested.takeHold x h).display = s.display := by
    rw [State.takeHold_eq]
    exact hdisplay
  rw [State.heldOver, State.takeHold_side, hdisplay']
  cases y with
  | a => rw [if_neg (by decide), htaken, if_pos rfl]
  | b => rw [if_pos rfl, htaken, if_neg (by decide)]

end Sys2Proof.Machine
end

section
/-! PROOFS. Family 4, the loss of mains as one event, and the comparators' obligation (R154, R155, R171, R174, R175). -/

namespace Sys2Proof.Machine

/-! ## What the loss of mains leaves (R80, R122, R171) -/

/-- The part in MAINS_LOST with its motors off, its points about to close. -/
def State.closing (s : State) : State := s.heldOver.allMotorsOff

theorem State.closing_eq (s : State) : s.closing = { s with
    ddu := s.heldOver.ddu, hlp := s.heldOver.hlp
    psc := { s.psc with cursor := none, retries := 0, power := .mainsLost, startQueue := [] }
    dle := s.closing.dle } := by
  rw [State.closing, State.heldOver_eq]
  rfl

theorem State.closing_dle (s : State) : s.closing.dle = { s.dle with motors := s.closing.dle.motors } := by
  rw [State.closing, State.heldOver_eq]
  rfl

section
variable (s : State)

/-- The loads go off once the points have closed. -/
theorem State.mainsLoss_darkens : s.closing.closePoints.Darkens s.mainsLoss := by
  have heq : s.mainsLoss = s.closing.closePoints.allOff := s.mainsLoss_eq
  rw [heq]
  exact .allOff _

/-- The power controller and the motors after a loss of mains. -/
theorem State.mainsLoss_psc : s.mainsLoss.psc.power = .mainsLost ∧ s.mainsLoss.psc.drives = noDrives
    ∧ s.mainsLoss.psc.startQueue = [] ∧ ∀ m, (s.mainsLoss.motor m).st = .off := by
  have hclosed := s.closing.closePoints_acts.psc
  have hdark : Psc.QueueMoved _ s.mainsLoss.psc := .allOff s.closing.closePoints
  have hoff : s.mainsLoss.MotorsOff := s.mainsLoss_darkens.motors s.heldOver.allMotorsOff_off.closePoints
  have hpower : s.closing.psc.power = .mainsLost := by rw [State.closing_eq]
  refine ⟨?_, by rw [hdark], hoff.2, hoff.1⟩
  rw [hdark, hclosed, hpower]

/-- The sides after a loss of mains: no display test, and each in the hold it has taken. -/
theorem State.mainsLoss_side (y : Side) : (s.mainsLoss.side y).test = none
    ∧ (s.mainsLoss.side y).hold = (s.holdDecision y).taken s.display.holdTime := by
  have hleft : s.closing.LeavesSides s.mainsLoss := (State.LeavesSides.closePoints s.closing).trans (.allOff _)
  have hside : s.closing.side y = s.heldOver.side y := rfl
  obtain ⟨hhold, htest⟩ := hleft y
  rw [hside, State.heldOver_side] at hhold htest
  exact ⟨htest rfl, hhold⟩

/-- A point that is neither authorized nor in STARTING once the points have closed stands as it is while the loads go off. -/
theorem State.mainsLoss_point {p : Point} (h : (s.closing.closePoints.point p).st = .closed
    ∨ (s.closing.closePoints.point p).st = .stopping) : s.mainsLoss.point p = s.closing.closePoints.point p :=
  s.mainsLoss_darkens.point p (by rcases h with h | h <;> simp [h]) (by rcases h with h | h <;> simp [h])

variable {s} {p : Point}

theorem State.mainsLoss_free (hst : (s.point p).st = .idle ∨ (s.point p).st = .calling ∨ (s.point p).st = .authorized) :
    (s.mainsLoss.point p).shut := by
  have hpoint : s.closing.point p = s.point p := by rw [State.closing_eq]; rfl
  have hin := s.closing.closePoints_in p
  have hshut : (s.closing.closePoints.point p).shut := by
    rcases hst with hst | hst | hst
    · exact hin.free (.inl (by rw [hpoint, hst]))
    · exact hin.free (.inr (by rw [hpoint, hst]))
    · exact hin.authorized (by rw [hpoint, hst])
  rw [s.mainsLoss_point (.inl hshut.1)]
  exact hshut

theorem State.closing_heldBy (s : State) (p : Point) : s.closing.heldBy p = s.heldBy p :=
  State.heldBy_congr (by rw [State.closing_dle]) p

theorem State.mainsLoss_holder {m : Meter} {r : DeliveryRecord} (hst : (s.point p).st = .starting ∨ (s.point p).st.flowing = true)
    (hheld : s.heldBy p = some m) (hcur : (s.point p).current = some r) :
    (s.mainsLoss.point p).st = .stopping ∧ (s.mainsLoss.point p).current = some { r with cause := some .powerLoss } := by
  have hpoint : s.closing.point p = s.point p := by rw [State.closing_eq]; rfl
  obtain ⟨now, hstopped⟩ := (s.closing.closePoints_in p).holder (by rw [hpoint]; exact hst)
    ((s.closing_heldBy p).trans hheld) (by rw [hpoint, hcur])
  rw [s.mainsLoss_point (.inr hstopped.st)]
  exact ⟨hstopped.st, hstopped.current⟩

theorem State.mainsLoss_waiting (hst : (s.point p).st = .starting) (hheld : s.heldBy p = none) :
    (s.mainsLoss.point p).shut ∧ (s.mainsLoss.point p).current = none ∧ ∀ m, s.mainsLoss.dle.waiters.get m ≠ some p := by
  have hpoint : s.closing.point p = s.point p := by rw [State.closing_eq]; rfl
  have hwait : s.closing.waiting p = true :=
    State.waiting_of_unheld (by rw [hpoint, hst]) ((s.closing_heldBy p).trans hheld)
  obtain ⟨hshut, hcurrent, hwaiters⟩ := (s.closing.closePoints_in p).waiting hwait
  rw [s.mainsLoss_point (.inl hshut.1)]
  exact ⟨hshut, hcurrent, fun m => mt (s.mainsLoss_darkens.waiters p m) (hwaiters m)⟩

end

/-- The hold in which a side stands at the entry to MAINS_LOST, by its point and its shown figures (R122, R123). -/
theorem State.holdDecision_taken (s : State) (y : Side) : (s.holdDecision y).taken s.display.holdTime =
    if s.refreshing y = false then .none
    else if (s.point y).st = .fuelling ∨ (s.point y).st = .slowing ∨ (s.point y).st = .stopping
      ∨ ((s.point y).st = .starting ∧ (s.heldBy y).isSome = true) then .awaitingFinish
    else if s.display.holdTime ≠ 0 ∧ ((s.point y).st = .finished ∨ (s.side y).shown.final = true) then
      .timing (s.now + 60000 * s.display.holdTime)
    else .none := by
  have hawaiting : (decide ((s.point y).st = .fuelling) || decide ((s.point y).st = .slowing)
      || decide ((s.point y).st = .stopping) || (decide ((s.point y).st = .starting) && s.holds y)) = true ↔
      (s.point y).st = .fuelling ∨ (s.point y).st = .slowing ∨ (s.point y).st = .stopping
        ∨ ((s.point y).st = .starting ∧ (s.heldBy y).isSome = true) := by
    simp [State.holds, or_assoc]
  unfold State.holdDecision
  simp only [Bool.not_eq_true', hawaiting]
  split
  · rfl
  · split
    · rfl
    · by_cases hzero : s.display.holdTime = 0 <;> split <;> simp_all [Hold.taken]

/-! ## The event of a loss of mains -/

section
variable {s v : State} (hv : s.Later v) (hpower : s.psc.power = .waking ∨ s.psc.power = .run ∨ s.psc.power = .draining)
include hv hpower

theorem State.mains_lost_eq :
    (v.conditionBecomes .mains false).settle s = ((v.sensed .mains false).mainsLoss).commit := by
  have hfall : v.conditionBecomes .mains false = (v.sensed .mains false).mainsLoss := by
    rw [State.conditionBecomes_bad]
    change (v.sensed .mains false).mainsFall = _
    rw [State.mainsFall, hv.sensed_power]
    rcases hpower with h | h | h <;> rw [h]
  obtain ⟨hlost, -⟩ := (v.sensed .mains false).mainsLoss_psc
  rw [hfall, State.settle_stepped s (by simp [hlost]) (Psc.checking_of_power (by simp [hlost]) _)]

omit hpower in
/-- Each side is held as its point and its shown figures gave before the loss. -/
theorem State.mains_lost_hold (y : Side) : ((v.sensed .mains false).mainsLoss.side y).hold =
    if s.refreshing y = false then .none
    else if (s.point y).st = .fuelling ∨ (s.point y).st = .slowing ∨ (s.point y).st = .stopping
      ∨ ((s.point y).st = .starting ∧ (s.heldBy y).isSome = true) then .awaitingFinish
    else if s.display.holdTime ≠ 0 ∧ ((s.point y).st = .finished ∨ (s.side y).shown.final = true) then
      .timing (v.now + 60000 * s.display.holdTime)
    else .none := by
  obtain ⟨hnow, -, hdisplay, -, hdle, -⟩ := v.sensed_frame .mains false
  have hdisplay' : (v.sensed .mains false).display = s.display := by rw [hdisplay, hv.eq]
  have hheld : (v.sensed .mains false).heldBy y = s.heldBy y := State.heldBy_congr (by rw [hdle, hv.dle]) y
  have hside := hv.sensed_side .mains false y
  have hrefresh : (v.sensed .mains false).refreshing y = s.refreshing y := by
    rw [State.refreshing, State.refreshing, hv.sensed_drives, hside]
  obtain ⟨-, hhold⟩ := (v.sensed .mains false).mainsLoss_side y
  rw [hhold, State.holdDecision_taken, hrefresh, hv.sensed_point, hheld, hdisplay', hside, hnow]

omit hpower in
/-- The free and the authorized points are closed, the holders stopped, and the waiters closed with their records discarded. -/
theorem State.mains_lost_points (p : Point) :
    let t := (v.sensed .mains false).mainsLoss.commit
    ((s.point p).st = .idle ∨ (s.point p).st = .calling ∨ (s.point p).st = .authorized →
        (t.point p).st = .closed ∧ (t.point p).auth = none)
      ∧ (∀ (m : Meter) (r : DeliveryRecord), (s.point p).st = .starting ∨ (s.point p).st.flowing = true →
        s.heldBy p = some m → (s.point p).current = some r →
        (t.point p).st = .stopping ∧ (t.point p).current = some { r with cause := some .powerLoss })
      ∧ ((s.point p).st = .starting → s.heldBy p = none →
        (t.point p).st = .closed ∧ (t.point p).auth = none ∧ (t.point p).current = none
          ∧ ∀ m : Meter, t.dle.waiters.get m ≠ some p) := by
  have hpoint := hv.sensed_point .mains false p
  have hheld : (v.sensed .mains false).heldBy p = s.heldBy p := by
    obtain ⟨-, -, -, -, hdle, -⟩ := v.sensed_frame .mains false
    exact State.heldBy_congr (by rw [hdle, hv.dle]) p
  have hdle : ((v.sensed .mains false).mainsLoss.commit).dle = (v.sensed .mains false).mainsLoss.dle := by simp
  dsimp only
  rw [State.commit_point, hdle, ← hpoint, ← hheld]
  refine ⟨State.mainsLoss_free, fun m r => State.mainsLoss_holder, fun hst hm => ?_⟩
  obtain ⟨⟨hclosed, hauth⟩, hcurrent, hwaiters⟩ := State.mainsLoss_waiting hst hm
  exact ⟨hclosed, hauth, hcurrent, hwaiters⟩

end

/-- Settles O55: a comparator's event moves its timer, or makes the condition its new value and hands it on; each clause is
what the one block that takes the condition up makes of it. -/
theorem sensingMoves : Obligations.SensingMoves := by
  intro s c hr
  refine ⟨fun mv => ⟨fun htimer => ?_, fun htiming hzero => ?_⟩, fun hnone => ?_, fun since hsince => ?_⟩
  · exact exec_senseInputChange_timer hr htimer
  · obtain ⟨-, hgood, hother, -⟩ := State.conditionBecomes_settled (s.moveVoltage c mv) s c (!(s.psc.sensors.sc c).good)
    exact ⟨_, exec_senseInputChange_changes hr htiming hzero, hgood, hother⟩
  · rw [exec_sensePersistenceExpiry, hnone]
    rfl
  · have hv : s.Later (s.reach (since + (s.psc.sensors.sc c).persistence)) := s.later_reach _
    have hnow : (s.reach (since + (s.psc.sensors.sc c).persistence)).now =
        max s.now (since + if (s.psc.sensors.sc c).good then (s.psc.sensors.sc c).settings.failMs
          else (s.psc.sensors.sc c).settings.recoverMs) := rfl
    rw [exec_sensePersistenceExpiry, hsince, Option.map_some, State.event_some (State.powered_of_runs hr)]
    generalize s.reach (since + (s.psc.sensors.sc c).persistence) = v at hv hnow
    obtain ⟨htnow, hgood, hother, hpins, hdisplay, hcounter, hsettings⟩ :=
      State.conditionBecomes_settled v s c (!(s.psc.sensors.sc c).good)
    refine ⟨_, rfl, htnow.trans hnow, hgood, fun k hk => (hother k hk).trans ?_, hpins.trans ?_, hdisplay.trans ?_,
      fun m => (hcounter m).trans ?_, hsettings.trans ?_, ?_, ?_, ?_, ?_, ?_, ?_, ?_⟩
    · rw [hv.eq]
      rfl
    · rw [hv.eq]
    · rw [hv.eq]
    · rw [hv.eq]
      rfl
    · rw [hv.psc]
    · rintro rfl hx m
      rw [hx]
      exact State.pulserSupply_lost hr hv m
    · rintro rfl hx hpower
      rw [hx]
      exact ⟨State.mains_returned_holds hv hpower, State.mains_returned_wakes hv hpower,
        State.mains_returned_night hv hpower⟩
    · rintro rfl hx
      rw [hx]
      exact ⟨State.standby_lost_mainsLost hv, State.standby_lost_elsewhere hr hv⟩
    · rintro rfl hx
      rw [htnow, hx]
      exact ⟨State.readerSupply_lost_unpowered hr hv, State.readerSupply_lost_linked hv⟩
    · intro y hc
      obtain ⟨hopen, hrest⟩ := State.warmth_changed hr hv y (!(s.psc.sensors.sc c).good)
      have hc' : c = warmthOf y := hc
      rw [← hc', Bool.not_not] at hopen
      rw [← hc'] at hrest
      exact ⟨hopen, hrest⟩
    · rintro rfl hx hpower
      rw [htnow, hx, Bool.not_true, State.mains_lost_eq hv hpower]
      obtain ⟨hlost, hdrives, hqueue, hmotors⟩ := (v.sensed .mains false).mainsLoss_psc
      refine ⟨by simp [hlost], by simp [hdrives], by simp [hqueue], fun m => by simpa [State.motor] using hmotors m,
        fun y => ?_, State.mains_lost_points hv⟩
      rw [State.commit_side]
      obtain ⟨htest, -⟩ := (v.sensed .mains false).mainsLoss_side y
      exact ⟨htest, State.mains_lost_hold hv y⟩
    · rintro p m r rfl hheld hcur
      rw [htnow]
      refine ⟨fun hx hflow => ?_, fun hx hpower hst hzero hmotor hdone => ?_⟩ <;> rw [hx]
      · have hstopped := State.valveSupply_lost hr hv hheld hcur hflow
        exact ⟨hstopped.st, hstopped.current, hstopped.valves⟩
      · obtain ⟨hpoint, hslow, hmain⟩ := State.valveSupply_returned hv hheld hcur hpower hst hzero hmotor hdone
        rw [Bool.not_false, hpoint, hslow, hmain, ← State.opensFull_iff]
        refine ⟨rfl, rfl, fun hfull => ?_, fun hfull => ?_⟩
        · rw [hfull]
          exact ⟨rfl, rfl⟩
        · rw [Bool.not_eq_true] at hfull
          rw [hfull]
          exact ⟨rfl, rfl⟩

end Sys2Proof.Machine
end
